-- ==== Sys2Proof/Word.lean ====
section
/-! DEFINITION. The words of the ZH40: bytes, fields, time base values, pixels, the four sources, and a group of
four like things indexed by a source or a slot number. -/

namespace Sys2Proof

/-- One byte of the control link (R167). -/
abbrev Byte := BitVec 8

/-- A two-byte field of a payload, most significant byte first on the link (section 12.1). -/
abbrev Half := BitVec 16

/-- A four-byte field of a payload. -/
abbrev Word := BitVec 32

/-- A value of the time base: microseconds modulo 2^32 (R191). -/
abbrev Time := BitVec 32

/-- The interval from `t0` to `t` on the time base, taken modulo 2^32 (R5). -/
def Time.since (t t0 : Time) : Nat := (t - t0).toNat

/-- One pixel: three 10-bit components (00_scope, Frames and pixels). -/
structure Pixel where
  r : BitVec 10
  g : BitVec 10
  b : BitVec 10
  deriving DecidableEq, Repr

/-- A missing pixel of an image line: all three components 0 (R35). -/
def Pixel.black : Pixel := ⟨0, 0, 0⟩

/-- The four sources S0 to S3; the same four names number the slots of a ring (R1, R27). -/
inductive Src where
  | s0 | s1 | s2 | s3
  deriving DecidableEq, Repr

/-- The four sources in order. -/
def Src.all : List Src := [.s0, .s1, .s2, .s3]

/-- The number of a source, 0 to 3. -/
def Src.num : Src → Nat
  | .s0 => 0
  | .s1 => 1
  | .s2 => 2
  | .s3 => 3

/-- The source of a number; none outside 0 to 3. -/
def Src.ofNum : Nat → Option Src
  | 0 => some .s0
  | 1 => some .s1
  | 2 => some .s2
  | 3 => some .s3
  | _ => none

/-- One slot of a ring (R27): numbered 0 to 3 like the sources. -/
abbrev Slot := Src

/-- Four like things, one for each source or slot. -/
structure Four (α : Type) where
  f0 : α
  f1 : α
  f2 : α
  f3 : α
  deriving DecidableEq, Repr

/-- Four copies of one value. -/
def Four.fill {α : Type} (x : α) : Four α := ⟨x, x, x, x⟩

/-- The entry of one source. -/
def Four.get {α : Type} (f : Four α) : Src → α
  | .s0 => f.f0
  | .s1 => f.f1
  | .s2 => f.f2
  | .s3 => f.f3

/-- The group with the entry of one source replaced. -/
def Four.set {α : Type} (f : Four α) (i : Src) (x : α) : Four α :=
  match i with
  | .s0 => { f with f0 := x }
  | .s1 => { f with f1 := x }
  | .s2 => { f with f2 := x }
  | .s3 => { f with f3 := x }

/-- The group with every entry mapped. -/
def Four.map {α β : Type} (f : Four α) (g : α → β) : Four β := ⟨g f.f0, g f.f1, g f.f2, g f.f3⟩

/-- The four entries in order. -/
def Four.toList {α : Type} (f : Four α) : List α := [f.f0, f.f1, f.f2, f.f3]

end Sys2Proof
end

