-- ==== Sys2Proof/Syntax.lean ====
section
/-! DEFINITION. The commands of the ZH40: one constructor for each row of spec/opcode_table.json. -/

namespace Sys2Proof

/-- A calibration point record of CAL_RUN and CAL_READ, six bytes (R197): focus code (0xFFFF empties the position), ox, oy. -/
structure PointRec where
  focus : Half
  ox : Half
  oy : Half
  deriving DecidableEq, Repr

/-- A rung record of LADDER_SET, nine bytes (R197). -/
structure RungRec where
  source : Byte
  wu : Half
  u : Half
  d : Half
  wd : Half
  deriving DecidableEq, Repr

/-- The commands. A request row carries the tag of its frame and the payload fields of R197 in their widths; it stands
for the transaction whose well-formed frame carries that request (log 5). -/
inductive Instr where
  /-- TRANSACTION_START (R167): the host asserts chip select. -/
  | transactionStart
  /-- FRAME_ERROR (R169): the transaction ends with these bytes clocked in, which are no well-formed frame. -/
  | frameError (bytes : List Byte)
  /-- UNKNOWN (R171): a well-formed frame whose code names no request. -/
  | unknown (code tag modifier : Byte) (payload : List Byte)
  /-- NOP (R181). -/
  | nop (tag : Byte)
  /-- IDENT (R193). -/
  | ident (tag : Byte)
  /-- LINK_TEST (R194). -/
  | linkTest (tag : Byte)
  /-- RESET_PART (R179). -/
  | resetPart (tag : Byte)
  /-- LINK_RESET_END (R192): the RESET span of a link reset ends. -/
  | linkResetEnd
  /-- SUSPEND (R177). -/
  | suspend (tag : Byte)
  /-- RESUME (R178). -/
  | resume (tag : Byte)
  /-- SOURCE_DEFINE (R20). -/
  | sourceDefine (tag src : Byte) (base width : Half) (period : Word) (stretch : Half) (settle sync idle : Byte)
  /-- SOURCE_POWER, action wake (R21). -/
  | sourcePowerWake (tag src : Byte)
  /-- SOURCE_POWER, action park (R22). -/
  | sourcePowerPark (tag src : Byte)
  /-- SOURCE_QUERY (R23). -/
  | sourceQuery (tag src : Byte)
  /-- CAL_RUN (R52). -/
  | calRun (tag src start dir count : Byte) (points : List PointRec)
  /-- CAL_RUN with QUERY_ONLY (R55). -/
  | calRunQueryOnly (tag src start dir count : Byte) (points : List PointRec)
  /-- CAL_READ (R57). -/
  | calRead (tag src : Byte)
  /-- LADDER_SET (R71). -/
  | ladderSet (tag count : Byte) (rungs : List RungRec)
  /-- LADDER_SET with QUERY_ONLY (R72). -/
  | ladderSetQueryOnly (tag count : Byte) (rungs : List RungRec)
  /-- OUTPUT_SET (R132). -/
  | outputSet (tag : Byte) (wo : Half) (period : Word) (n tolerance m window : Byte)
  /-- OUTPUT_SET with QUERY_ONLY (R132). -/
  | outputSetQueryOnly (tag : Byte) (wo : Half) (period : Word) (n tolerance m window : Byte)
  /-- OUTPUT_START (R136). -/
  | outputStart (tag : Byte)
  /-- OUTPUT_STOP (R139). -/
  | outputStop (tag : Byte)
  /-- ZOOM_SET (R75). -/
  | zoomSet (tag : Byte) (target rate : Half)
  /-- ZOOM_QUERY (R85). -/
  | zoomQuery (tag : Byte)
  /-- PIN_SOURCE, on (R83). -/
  | pinSourceOn (tag : Byte)
  /-- PIN_SOURCE, off (R84). -/
  | pinSourceOff (tag : Byte)
  /-- STILL_TAKE, kind SOURCE (R155). -/
  | stillTakeSource (tag src : Byte)
  /-- STILL_TAKE, kind FUSED (R156); the source byte is not read (R197). -/
  | stillTakeFused (tag src : Byte)
  /-- STILL_FLOW, action PAUSE (R161). -/
  | stillFlowPause (tag : Byte)
  /-- STILL_FLOW, action RESUME (R161). -/
  | stillFlowResume (tag : Byte)
  /-- STILL_FLOW, action ABORT (R162). -/
  | stillFlowAbort (tag : Byte)
  /-- NOTICE_TAKE (R188). -/
  | noticeTake (tag : Byte)
  /-- NOTICE_SETUP (R189). -/
  | noticeSetup (tag : Byte) (mask unmask urgent routine : Half)
  /-- HARD_RESET (R190): the reset pin has been held asserted for 10 µs. -/
  | hardReset
  /-- RESET_RELEASE (R191): the reset pin is released with the strap pins at these levels (high is true). -/
  | resetRelease (strapLink strapAttn strapClk1 strapClk0 : Bool)
  /-- CLOCK_LOCK (R190): lock to the reference clock is reached. -/
  | clockLock
  /-- FRAME_START (R25) on the receiver of a source. -/
  | frameStart (src : Src)
  /-- METADATA_LINE (R32): a line arrives on the receiver, the first of its frame. -/
  | metadataLine (src : Src) (pixels : List Pixel)
  /-- IMAGE_LINE (R35): a line arrives on the receiver after the first of its frame. -/
  | imageLine (src : Src) (pixels : List Pixel)
  /-- FRAME_END (R37). -/
  | frameEnd (src : Src)
  /-- SETTLE_EXPIRY (R7). -/
  | settleExpiry (src : Src)
  /-- SYNC_EXPIRY (R7). -/
  | syncExpiry (src : Src)
  /-- FRAME_TIMEOUT (R13). -/
  | frameTimeout (src : Src)
  /-- IDLE_EXPIRY (R9). -/
  | idleExpiry (src : Src)
  /-- FAULT_REPORT (R15): the zoom controller takes the pending report of this source. -/
  | faultReport (src : Src)
  /-- TICK (R141). -/
  | tick
  /-- MATCH_WINDOW_EXPIRY (R96): the tick at which the match ticks reach the match window. -/
  | matchWindowExpiry
  /-- COMPOSE_COMPLETE (R147). -/
  | composeComplete
  /-- STILL_GROUP_BEGIN (R159). -/
  | stillGroupBegin
  /-- STILL_GROUP_END (R160). -/
  | stillGroupEnd
  /-- PAUSE_TIMEOUT (R162). -/
  | pauseTimeout
  /-- ATTN_PULSE_END (R187). -/
  | attnPulseEnd
  /-- TRANSACTION_END (R167): the host releases chip select, these whole bytes having been clocked in. -/
  | transactionEnd (bytes : List Byte)
  /-- REPLY_FORMED (R172). -/
  | replyFormed
  /-- VIDEO_TRANSMISSION_END (R149). -/
  | videoTransmissionEnd
  deriving DecidableEq, Repr

end Sys2Proof
end

