-- ==== Sys2Proof/Decode.lean ====
section
/-! DEFINITION. The word decoder asked of every model. No row of spec/opcode_table.json gives bits: the ZH40's requests are
frames of bytes, which `Machine.frameCheck` and `Machine.readRequest` read. -/

namespace Sys2Proof

/-- The command a table word spells: none, for no row of the table gives any bits. -/
def decodeTableWord (nbits w : Nat) : Option Instr :=
  match nbits, w with
  | _, _ => none

end Sys2Proof
end

