-- ==== Sys2Proof/Config.lean ====
section
/-! DEFINITION. What the ZH40 fixes for good: the silicon revision (a free value) and the constants of chapter 12. -/

namespace Sys2Proof.Config

/-- FREE VALUE (log 20): the silicon revision is "a number from 1 upward" (R193); this is that number less 1,
kept within the one byte of R199. Nothing in Lean can evaluate it. -/
opaque revisionLessOne : Fin 255

/-- The revision byte of the identification record (R193, R199): 1 or more, otherwise free. -/
def revision : Byte := BitVec.ofNat 8 (revisionLessOne.val + 1)

/-- The part code of R199. -/
def partCode : Half := 0x2D40

/-- The four fixed byte values of R196. -/
def requestSync : Byte := 0xA5
/-- The first byte of a reply frame (R196). -/
def replySync : Byte := 0x5A
/-- Clocked out while a request executes (R167, R196). -/
def busyMarker : Byte := 0xBB
/-- Clocked out when the slot is empty, and after a reply's last byte (R168, R196). -/
def emptyMarker : Byte := 0xEE

/-- The longest payload of a frame (R169, R173). -/
def maxPayload : Nat := 250

/-- "a transaction of 257 bytes … collects any reply whole" (R196). -/
def wholeTransaction : Nat := 257

/-- A ring holds at most 4 records (R27). -/
def ringDepth : Nat := 4

/-- A notice entry's count saturates at 255 (R183). -/
def maxCount : Nat := 255

/-- The pulse of the attention line lasts 2 µs (R187). -/
def pulseLength : Nat := 2

/-- The pause timer of a still: 2 s (R161). -/
def pauseLength : Nat := 2000000

/-- Execution of every request ends within 20 µs (R172). -/
def executionLimit : Nat := 20

/-- The RESET span of a link reset lasts at most 50 µs (R192). -/
def linkResetLimit : Nat := 50

/-- The eighth bad frame in a row is reported (R39). -/
def badFrameLimit : Nat := 8

/-- A line group holds at most 64 lines (R157). -/
def groupLines : Nat := 64

end Sys2Proof.Config
end

