-- ==== Sys2Proof/Machine/State.lean ====
section
/-! DEFINITION. The state of the ZH40, block by block as 00_scope's Block overview names the owners, and its value
right after a hard reset. -/

namespace Sys2Proof.Machine

/-! Camera sources (chapter 1) -/

/-- The source states (R1). -/
inductive SrcState where
  | parked | waking | syncing | warm | primary | outgoing | incoming | fault
  deriving DecidableEq, Repr

/-- Why a source was woken (R1). -/
inductive Purpose where
  | normal | test
  deriving DecidableEq, Repr

/-- The cause of a source fault (R13). -/
inductive FaultCause where
  | noSync | frameTimeout | link
  deriving DecidableEq, Repr

/-- A running timer: it expires at the first time at which `len` microseconds have passed since `start` (R5). -/
structure Timer where
  start : Time
  len : Nat
  deriving DecidableEq, Repr

/-- A source record with its enable line and its four timers; a stopped timer is absent (R1, R4, R5). -/
structure Source where
  defined : Bool
  base : Nat
  width : Nat
  period : Nat
  stretch : Nat
  settleMs : Nat
  syncTens : Nat
  idleTwenties : Nat
  state : SrcState
  purpose : Purpose
  cause : Option FaultCause
  lastReady : Option Time
  enable : Bool
  settle : Option Timer
  sync : Option Timer
  frame : Option Timer
  idle : Option Timer
  deriving DecidableEq, Repr

/-- The values of R2. -/
def Source.reset : Source :=
  { defined := false, base := 256, width := 1920, period := 33333, stretch := 256, settleMs := 20, syncTens := 20,
    idleTwenties := 0, state := .parked, purpose := .normal, cause := none, lastReady := none, enable := false,
    settle := none, sync := none, frame := none, idle := none }

/-! Frame intake and frame rings (chapter 2) -/

/-- The intake states (R24). -/
inductive Intake where
  | between | discarding | awaitMeta | receiving
  deriving DecidableEq, Repr

/-- Three exact sums or means, one for each component (R36, R37). -/
structure Triple where
  r : Nat
  g : Nat
  b : Nat
  deriving DecidableEq, Repr

/-- A camera receiver with the sums the statistics unit keeps for it (R24, R36). -/
structure Receiver where
  intake : Intake
  lines : Nat
  run : Nat
  last : Option Half
  sums : Triple
  deriving DecidableEq, Repr

/-- The reset values of R24. -/
def Receiver.reset : Receiver := ⟨.between, 0, 0, none, ⟨0, 0, 0⟩⟩

/-- A rectangle of a source frame (section 3.6). -/
structure Rect where
  x0 : Nat
  y0 : Nat
  cw : Nat
  ch : Nat
  deriving DecidableEq, Repr

/-- The two states of a frame record (R28). -/
inductive FrameState where
  | filling | ready
  deriving DecidableEq, Repr

/-- A frame record (R28); `heldC` and `heldS` say whether the compositor and the still are among its holders. -/
structure FrameRec where
  slot : Slot
  width : Nat
  state : FrameState
  start : Time
  counter : Option Half
  focus : Option Nat
  window : Option Rect
  means : Option Triple
  heldC : Bool
  heldS : Bool
  deriving DecidableEq, Repr

/-- What a slot stores: the image lines of its frame, line 0 first (R35). -/
abbrev Content := List (List Pixel)

/-- The frame store's rings and slots (R27). -/
structure FrameStore where
  rings : Four (List FrameRec)
  slots : Four (Four Content)
  deriving DecidableEq, Repr

/-! Geometry (chapter 3) -/

/-- A calibration point (R46). -/
structure CalPoint where
  focus : Nat
  ox : Int
  oy : Int
  deriving DecidableEq, Repr

/-- A calibration list: 12 positions, each empty or a point (R46). -/
abbrev CalList := Vector (Option CalPoint) 12

/-- A compose window record (R64). -/
structure ComposeWindow where
  rect : Rect
  short : Bool
  edge : Bool
  stretch : Nat
  zoom : Nat
  focus : Nat
  deriving DecidableEq, Repr

/-- The geometry unit: calibration lists and compose window records (R46, R64). -/
structure Geometry where
  cal : Four CalList
  windows : Four (Option ComposeWindow)
  deriving DecidableEq, Repr

/-! Zoom ladder, zoom state and hand-off (chapters 4 to 6) -/

/-- One rung: its source and, from rung 1 upward, its four points; rung 0 keeps 0 for them (R69, R71). -/
structure Rung where
  source : Src
  wu : Nat
  u : Nat
  d : Nat
  wd : Nat
  deriving DecidableEq, Repr

/-- The ladder, widest source first (R69). -/
abbrev Ladder := List Rung

/-- The source the bounds of a zoom step belong to, or the pair of a blend, lower rung first (R77). -/
inductive Bounding where
  | one (p : Src)
  | pair (lower upper : Src)
  deriving DecidableEq, Repr

/-- The bounds of a zoom step (R77). -/
structure Bounds where
  lo : Nat
  hi : Nat
  who : Bounding
  deriving DecidableEq, Repr

/-- The kinds of a transition record (R87). -/
inductive RecKind where
  | up | down | rescue
  deriving DecidableEq, Repr

/-- The phases of a transition record (R87). -/
inductive Phase where
  | armed | matching | blending
  deriving DecidableEq, Repr

/-- One gain for each channel, Q10 (R87). -/
structure Gains where
  r : Nat
  g : Nat
  b : Nat
  deriving DecidableEq, Repr

/-- Gain 1.0 on every channel. -/
def Gains.unit : Gains := ⟨1024, 1024, 1024⟩

/-- The transition record (R87). -/
structure Transition where
  kind : RecKind
  giver : Src
  taker : Src
  phase : Phase
  n : Nat
  index : Nat
  gains : Gains
  run : Nat
  ticks : Nat
  limited : Bool
  lastPair : Option (Time × Time)
  retargeted : Bool
  deriving DecidableEq, Repr

/-- The changes of R110 that a fault can spoil and that leave no record behind them. -/
inductive SpoiledChange where
  | completion | cut | rescue
  deriving DecidableEq, Repr

/-- A role change that found a source in FAULT, which the report of that fault settles (R110): the record it ended, and
when. -/
structure Spoiled where
  change : SpoiledChange
  record : Transition
  time : Time
  deriving DecidableEq, Repr

/-- A fault report pending at the zoom controller (R15): the role it takes the source to have, which is the state the
source stood in when it faulted, or the role a later change would have given it (R12), and the change that found the
source in FAULT, if one did (R110). -/
structure Report where
  role : SrcState
  spoiled : Option Spoiled
  deriving DecidableEq, Repr

/-- The zoom controller: ladder, zoom state, transition record, and the pending reports of each source, oldest first. -/
structure ZoomCtl where
  ladder : Option Ladder
  target : Nat
  shown : Nat
  rate : Nat
  held : Bool
  pinned : Bool
  bounds : Option Bounds
  record : Option Transition
  reports : Four (List Report)
  deriving DecidableEq, Repr

/-- The reset values of R69, R73, R87. -/
def ZoomCtl.reset : ZoomCtl :=
  { ladder := none, target := 256, shown := 256, rate := 0, held := false, pinned := false, bounds := none,
    record := none, reports := Four.fill [] }

/-! Output (chapter 7) -/

/-- The output settings (R131). -/
structure Settings where
  wo : Nat
  period : Nat
  n : Nat
  tolerance : Nat
  m : Nat
  window : Nat
  deriving DecidableEq, Repr

/-- The reset values of R131. -/
def Settings.reset : Settings := ⟨1920, 33333, 8, 16, 3, 30⟩

/-- The output sub-states (R133). -/
inductive OutSub where
  | none | starting | running | frozen
  deriving DecidableEq, Repr

/-- The two buffers that composites alternate between (R148). -/
inductive Buf where
  | ping | pong
  deriving DecidableEq, Repr

/-- A picture of an output buffer: its width and its lines. -/
structure Picture where
  width : Nat
  lines : Content
  deriving DecidableEq, Repr

/-- One participant of a compose: the record it is composed from, its weight, gains and window (R133, R144). -/
structure Part where
  source : Src
  slot : Slot
  weight : Nat
  gains : Gains
  window : ComposeWindow
  deriving DecidableEq, Repr

/-- The compose in flight, live or discarded (R133). -/
structure Compose where
  live : Bool
  buffer : Buf
  wo : Nat
  parts : List Part
  deriving DecidableEq, Repr

/-- The compositor: output settings, output state and output buffers (R131, R133, R148). -/
structure Compositor where
  settings : Settings
  sub : OutSub
  pendingPrimary : Option Src
  deadline : Option Time
  compose : Option Compose
  newest : Option Buf
  lastSent : Option Buf
  fresh : Bool
  overruns : Nat
  repeats : Nat
  ping : Option Picture
  pong : Option Picture
  stillCopy : Option Picture
  deriving DecidableEq, Repr

/-- The reset values of R131, R133, R148. -/
def Compositor.reset : Compositor :=
  { settings := .reset, sub := .none, pendingPrimary := none, deadline := none, compose := none, newest := none,
    lastSent := none, fresh := false, overruns := 0, repeats := 0, ping := none, pong := none, stillCopy := none }

/-- A video transmission in progress (R149). -/
structure VideoTx where
  buffer : Buf
  picture : Option Picture
  timer : Timer
  deriving DecidableEq, Repr

/-- A line group in transmission: its number, its header (R202), its lines and its duration (R159). -/
structure GroupTx where
  number : Nat
  header : List (BitVec 10)
  lines : Content
  timer : Timer
  deriving DecidableEq, Repr

/-- The output port: the video channel, the still queue and the still channel (R149, R158, R159). -/
structure OutputPort where
  video : Option VideoTx
  queue : List Nat
  group : Option GroupTx
  deriving DecidableEq, Repr

/-! Stills (chapter 8) -/

/-- The kinds of a still (R153). -/
inductive StillKind where
  | source | fused
  deriving DecidableEq, Repr

/-- The states of a still record (R153). -/
inductive StillState where
  | capturing | sending | paused | ending
  deriving DecidableEq, Repr

/-- The still record (R153). The geometry of a fused still is absent until its capture; the pause deadline is the
expiry of the pause timer. -/
structure Still where
  id : Nat
  kind : StillKind
  source : Option Src
  state : StillState
  width : Option Nat
  height : Option Nat
  total : Option Nat
  next : Nat
  begun : Nat
  pause : Option Timer
  deriving DecidableEq, Repr

/-- The capture controller (R153). -/
structure Capture where
  still : Option Still
  lastId : Nat
  deriving DecidableEq, Repr

/-! Start-up and link test (chapter 11) -/

/-- The clock phase modes (R191). -/
inductive LinkMode where
  | mode0 | mode3
  deriving DecidableEq, Repr

/-- The attention line modes (R186, R187). -/
inductive AttnMode where
  | level | pulse
  deriving DecidableEq, Repr

/-- The reference frequencies in MHz (R191). -/
inductive RefClk where
  | mhz19 | mhz24 | mhz26 | mhz38
  deriving DecidableEq, Repr

/-- The strap values (R191). -/
structure Straps where
  linkMode : LinkMode
  attnMode : AttnMode
  refClk : RefClk
  deriving DecidableEq, Repr

/-- The lock states (R190). -/
inductive LockState where
  | locking | locked
  deriving DecidableEq, Repr

/-- The codes of a link test (R194, R195). -/
inductive TestCode where
  | pending | pass | noSync | badFrames | notTested
  deriving DecidableEq, Repr

/-- The test record (R194). -/
structure TestRecord where
  start : Time
  codes : Four TestCode
  deriving DecidableEq, Repr

/-- The clock and reset unit. `linkResetAt` is the model's own: when the RESET span of a link reset began (log 1). -/
structure ClockReset where
  resetHeld : Bool
  straps : Straps
  lock : LockState
  time : Time
  test : Option TestRecord
  linkResetAt : Option Time
  deriving DecidableEq, Repr

/-! Notices (chapter 10) -/

/-- The two kinds of reset (section 12.1). -/
inductive ResetKind where
  | hard | link
  deriving DecidableEq, Repr

/-- The causes of a bad frame (R39). -/
inductive BadCause where
  | cutOff | badMarker | lineCount
  deriving DecidableEq, Repr

/-- How the picture passed (R113). -/
inductive HandMode where
  | blend | cut | rescue
  deriving DecidableEq, Repr

/-- Why a hand-off ended without passing the picture (R114). -/
inductive AbortCause where
  | targetFault | primaryFault | incomingFault | rescueFailed
  deriving DecidableEq, Repr

/-- The side of the bounds Z is held at (R86). -/
inductive HeldSide where
  | none | lower | upper
  deriving DecidableEq, Repr

/-- The causes of OUTPUT_REPEAT (R152). -/
inductive RepeatCause where
  | overrun | sameFrame | noFrame
  deriving DecidableEq, Repr

/-- The causes of MATCH_LIMITED (R116). -/
inductive LimitCause where
  | ratio | window
  deriving DecidableEq, Repr

/-- The causes of STILL_ABORTED (R162). -/
inductive StillCause where
  | host | timeout | outputStop
  deriving DecidableEq, Repr

/-- The fourteen kinds of notice (R182). -/
inductive NoticeKind where
  | ready | sourceState | sourceFault | linkFault | frameLoss | handoffDone | handoffAborted | zoomHeld
  | matchLimited | outputRepeat | outputFrozen | stillDone | stillAborted | testDone
  deriving DecidableEq, Repr

/-- The payload a block posts with an occurrence; its constructor is the kind (R18, R40, R86, R113 to R116, R152, R164,
R192, R195, R200). -/
inductive Payload where
  | ready (kind : ResetKind) (straps : Straps) (time : Time)
  | sourceState (new prev : SrcState) (time : Time)
  | sourceFault (cause : FaultCause) (stood : SrcState) (time : Time)
  | linkFault (cause : BadCause) (lines : Nat) (run : Nat) (counter : Option Half)
  | frameLoss (missing : Nat) (prev new : Half) (time : Time)
  | handoffDone (kind : RecKind) (giver taker : Src) (mode : HandMode) (limited : Bool) (n : Nat) (gains : Gains)
      (time : Time)
  | handoffAborted (kind : RecKind) (giver taker : Src) (phase : Phase) (index : Nat) (cause : AbortCause) (time : Time)
  | zoomHeld (held : Bool) (side : HeldSide) (target shown : Nat) (who : Option Bounding) (time : Time)
  | matchLimited (cause : LimitCause) (giver taker : Src) (gains : Gains) (run ticks : Nat) (time : Time)
  | outputRepeat (cause : RepeatCause) (sources : List Src) (overruns repeats shown : Nat) (time : Time)
  | outputFrozen (faulted : Src) (target : Option Src) (zoomTarget shown : Nat) (time : Time)
  | stillDone (id : Nat) (kind : StillKind) (source : Option Src) (width total : Nat) (time : Time)
  | stillAborted (id : Nat) (kind : StillKind) (source : Option Src) (cause : StillCause) (state : StillState)
      (begun : Nat) (time : Time)
  | testDone (codes : Four TestCode) (start finish : Time)
  deriving DecidableEq, Repr

/-- The two classes of an entry (R182). -/
inductive NoticeClass where
  | routine | urgent
  deriving DecidableEq, Repr

/-- A notice entry (R182). -/
structure Notice where
  kind : NoticeKind
  source : Option Src
  cls : NoticeClass
  count : Nat
  first : Time
  payload : Payload
  deriving DecidableEq, Repr

/-- A set of notice kinds: bit k - 1 stands for kind k (section 12.1). -/
abbrev KindSet := BitVec 16

/-- The notice queue, the masks and classes of the kinds, and the attention line (R182 to R187). -/
structure NoticeQueue where
  entries : List Notice
  masked : KindSet
  urgent : KindSet
  attn : Bool
  pulse : Option Timer
  deriving DecidableEq, Repr

/-- The reset values of R185. -/
def NoticeQueue.reset : NoticeQueue := ⟨[], 0, 0, false, none⟩

/-! Control link (chapter 9) -/

/-- The result codes of a reply (R173). -/
inductive Result where
  | ok | accepted | partialDone | frameError | unknown | badLength | badModifier | badValue | wrongState | wrongRole
  | noSource | noFrame | stillActive
  deriving DecidableEq, Repr

/-- A reply (R173); its frame is made of it at delivery. -/
structure Reply where
  code : Byte
  tag : Byte
  result : Result
  payload : List Byte
  deriving DecidableEq, Repr

/-- A request as its frame carries it (R166, R169). -/
structure RawRequest where
  code : Byte
  tag : Byte
  modifier : Byte
  payload : List Byte
  deriving DecidableEq, Repr

/-- The taken transaction's work: the current request (absent for a frame that failed R169), the reply being formed and
when it was taken (R166, R172). -/
structure Executing where
  request : Option RawRequest
  reply : Reply
  since : Time
  deriving DecidableEq, Repr

/-- The part states (R175). -/
inductive PartState where
  | reset | config | streaming | suspended
  deriving DecidableEq, Repr

/-- The link phases (R166). -/
inductive LinkPhase where
  | idle | executing | replyReady
  deriving DecidableEq, Repr

/-- What a transaction clocks out (R167, R168). -/
inductive LinkOut where
  | empty
  | busy
  | reply (r : Reply)
  deriving DecidableEq, Repr

/-- A transaction in progress, as decided at its start (R167): what it clocks out, whether its request is taken, and
whether it delivers the reply of an executed RESET_PART (R179). -/
structure Txn where
  out : LinkOut
  take : Bool
  resets : Bool
  deriving DecidableEq, Repr

/-- The control link (R166, R175). `sdo` is the model's own view of the SDO pin (log 24). -/
structure Link where
  part : PartState
  phase : LinkPhase
  current : Option Executing
  slot : Option Reply
  txn : Option Txn
  sdo : List Byte
  deriving DecidableEq, Repr

/-- The reset values of R166 and R175. -/
def Link.reset : Link := ⟨.reset, .idle, none, none, none, []⟩

/-! The whole machine -/

/-- The faults of the model. No command of the ZH40 stops the part, so none is ever raised; the constructor names
what would be one. -/
inductive Fault where
  /-- Raised by nobody: every command has an effect (safe). -/
  | unreachable
  deriving DecidableEq, Repr

/-- The refusals of the model. -/
inductive Refusal where
  /-- Raised by an arm of exec whose command has no meaning yet; no arm is one (safe). -/
  | notModelled (mnemonic : String)
  deriving DecidableEq, Repr

/-- The state of the ZH40, and the commands that wait, first in first out. -/
structure State where
  cru : ClockReset
  link : Link
  nq : NoticeQueue
  sources : Four Source
  receivers : Four Receiver
  fs : FrameStore
  gu : Geometry
  zc : ZoomCtl
  cp : Compositor
  op : OutputPort
  cc : Capture
  pending : List Instr
  deriving DecidableEq, Repr

/-- The machine at the moment a hard reset is taken, the pin still held (R190): every block at the value its chapter
gives. The straps are sampled only at the release; the value here is log 3's. -/
def State.reset : State where
  cru := { resetHeld := true, straps := ⟨.mode0, .level, .mhz19⟩, lock := .locking, time := 0, test := none,
           linkResetAt := none }
  link := .reset
  nq := .reset
  sources := Four.fill .reset
  receivers := Four.fill .reset
  fs := { rings := Four.fill [], slots := Four.fill (Four.fill []) }
  gu := { cal := Four.fill (Vector.replicate 12 none), windows := Four.fill none }
  zc := .reset
  cp := .reset
  op := { video := none, queue := [], group := none }
  cc := { still := none, lastId := 0 }
  pending := []

end Sys2Proof.Machine
end

