-- ==== Sys2Proof/Machine/Flags.lean ====
section
/-! DEFINITION. The part's flags towards the host: the notice queue with its masks and classes, and the attention line
(chapter 10). -/

namespace Sys2Proof.Machine

/-- The kind of a payload. -/
def Payload.kind : Payload → NoticeKind
  | .ready .. => .ready
  | .sourceState .. => .sourceState
  | .sourceFault .. => .sourceFault
  | .linkFault .. => .linkFault
  | .frameLoss .. => .frameLoss
  | .handoffDone .. => .handoffDone
  | .handoffAborted .. => .handoffAborted
  | .zoomHeld .. => .zoomHeld
  | .matchLimited .. => .matchLimited
  | .outputRepeat .. => .outputRepeat
  | .outputFrozen .. => .outputFrozen
  | .stillDone .. => .stillDone
  | .stillAborted .. => .stillAborted
  | .testDone .. => .testDone

/-- The number of a kind (section 12.1). -/
def NoticeKind.num : NoticeKind → Nat
  | .ready => 1
  | .sourceState => 2
  | .sourceFault => 3
  | .linkFault => 4
  | .frameLoss => 5
  | .handoffDone => 6
  | .handoffAborted => 7
  | .zoomHeld => 8
  | .matchLimited => 9
  | .outputRepeat => 10
  | .outputFrozen => 11
  | .stillDone => 12
  | .stillAborted => 13
  | .testDone => 14

/-- The kinds that are fixed urgent: they can be neither masked nor made routine (R182, R189). -/
def NoticeKind.fixedUrgent : NoticeKind → Bool
  | .ready => true
  | .sourceFault => true
  | .outputFrozen => true
  | .sourceState => false
  | .linkFault => false
  | .frameLoss => false
  | .handoffDone => false
  | .handoffAborted => false
  | .zoomHeld => false
  | .matchLimited => false
  | .outputRepeat => false
  | .stillDone => false
  | .stillAborted => false
  | .testDone => false

/-- The set of the fixed-urgent kinds: kinds 1, 3 and 11. -/
def KindSet.fixed : KindSet := 0x0405

/-- The set of the fourteen kinds. -/
def KindSet.allKinds : KindSet := 0x3FFF

/-- Whether a set names a kind: bit k - 1 for kind k (section 12.1). -/
def KindSet.has (set : KindSet) (k : NoticeKind) : Bool := set.getLsbD (k.num - 1)

/-- A settable kind is masked as NOTICE_SETUP last left it; a fixed-urgent kind never is (R183, R189). -/
def NoticeQueue.isMasked (q : NoticeQueue) (k : NoticeKind) : Bool := !k.fixedUrgent && q.masked.has k

/-- The class a new entry of a kind is created with (R183). -/
def NoticeQueue.classOf (q : NoticeQueue) (k : NoticeKind) : NoticeClass :=
  if k.fixedUrgent || q.urgent.has k then .urgent else .routine

/-- Whether an entry has this name (R182). -/
def Notice.named (e : Notice) (k : NoticeKind) (source : Option Src) : Bool := decide (e.kind = k ∧ e.source = source)

/-- Case 1 of R183: the count rises, saturating, and the payload is replaced; class, first time and place stand. -/
def Notice.coalesce (e : Notice) (p : Payload) : Notice :=
  { e with count := min (e.count + 1) Config.maxCount, payload := p }

/-- Whether an entry is of the urgent class. -/
def Notice.isUrgent (e : Notice) : Bool := decide (e.cls = .urgent)

/-- A new entry stands after the last entry of its class (R184). -/
def insertNotice (e : Notice) (entries : List Notice) : List Notice :=
  if e.isUrgent then entries.takeWhile Notice.isUrgent ++ e :: entries.dropWhile Notice.isUrgent
  else entries ++ [e]

/-- Creating an entry asserts the attention line; in pulse mode it starts or restarts the pulse (R186, R187). -/
def NoticeQueue.create (q : NoticeQueue) (mode : AttnMode) (now : Time) (e : Notice) : NoticeQueue :=
  { q with
    entries := insertNotice e q.entries
    attn := true
    pulse := match mode with
      | .level => q.pulse
      | .pulse => some ⟨now, Config.pulseLength⟩ }

/-- An occurrence at the queue: the first case of R183 that applies. -/
def NoticeQueue.post (q : NoticeQueue) (mode : AttnMode) (now : Time) (source : Option Src) (p : Payload) : NoticeQueue :=
  if q.entries.any (fun e => e.named p.kind source) then
    { q with entries := q.entries.map (fun e => if e.named p.kind source then e.coalesce p else e) }
  else if q.isMasked p.kind then q
  else q.create mode now ⟨p.kind, source, q.classOf p.kind, 1, now, p⟩

/-- The removal of NOTICE_TAKE (R188); in level mode the line falls with the last entry (R186). -/
def NoticeQueue.takeHead (q : NoticeQueue) (mode : AttnMode) : NoticeQueue :=
  match q.entries with
  | [] => q
  | _ :: rest =>
    { q with
      entries := rest
      attn := match mode with
        | .level => q.attn && !rest.isEmpty
        | .pulse => q.attn }

/-- The change of NOTICE_SETUP (R189); a fixed-urgent kind keeps its mask and class, so its bits are not kept. -/
def NoticeQueue.setup (q : NoticeQueue) (mask unmask urgent routine : KindSet) : NoticeQueue :=
  { q with
    masked := ((q.masked ||| mask) &&& ~~~unmask) &&& ~~~KindSet.fixed
    urgent := ((q.urgent ||| urgent) &&& ~~~routine) &&& ~~~KindSet.fixed }

/-- A block posts an occurrence, under a source or none (R183). -/
def State.post (source : Option Src) (p : Payload) (s : State) : State :=
  { s with nq := s.nq.post s.cru.straps.attnMode s.cru.time source p }

end Sys2Proof.Machine
end

