-- ==== Sys2Proof/Machine/Ops.lean ====
section
/-! DEFINITION. The named operations every block uses: the time base and timers, the source records, waking, parking and
faulting a source, role changes, the frame rings and their holds, the transition record's removal, the end of a source's
link test, and the two resets. -/

namespace Sys2Proof.Machine

/-! Time base and timers (R5, R190) -/

/-- A timer expires at the first time at which its duration has passed (R5). -/
def Timer.expired (t : Timer) (now : Time) : Bool := decide (t.len ≤ now.since t.start)

/-- The time base value at which a timer expires (R5). -/
def Timer.deadline (t : Timer) : Time := t.start + BitVec.ofNat 32 t.len

/-- The time left before the expiry, 0 once it is due (R23, log 23). -/
def Timer.left (t : Timer) (now : Time) : Nat := t.len - now.since t.start

/-- A deadline lies ahead when it is reached within less than 2^31 µs (00_scope, Time). -/
def ahead (deadline now : Time) : Bool := decide (0 < deadline.since now ∧ deadline.since now < 2 ^ 31)

/-- A timer of this length started now. -/
def State.timer (s : State) (len : Nat) : Timer := ⟨s.cru.time, len⟩

/-- The state at another time base value. -/
def State.setTime (t : Time) (s : State) : State := { s with cru := { s.cru with time := t } }

/-- DESIGN CHOICE (log 2): a timed event is taken at its expiry, so the time base moves forward to it when the timer has
not expired yet; the time base is held at 0 until lock (R190). -/
def State.waitTimer (t : Timer) (s : State) : State :=
  if s.cru.lock = .locked ∧ t.expired s.cru.time = false then s.setTime t.deadline else s

/-- As `waitTimer`, for an event given by its deadline (R141). -/
def State.waitDeadline (d : Time) (s : State) : State :=
  if s.cru.lock = .locked ∧ ahead d s.cru.time = true then s.setTime d else s

/-- One microsecond of the time base, which counts only once locked (R190, R191). -/
def State.passMicrosecond (s : State) : State :=
  if s.cru.lock = .locked then s.setTime (s.cru.time + 1) else s

/-! Accessors -/

/-- The source record of a source. -/
def State.source (s : State) (i : Src) : Source := s.sources.get i

/-- A source record replaced. -/
def State.setSource (i : Src) (x : Source) (s : State) : State := { s with sources := s.sources.set i x }

/-- The receiver of a source. -/
def State.receiver (s : State) (i : Src) : Receiver := s.receivers.get i

/-- A receiver replaced. -/
def State.setReceiver (i : Src) (x : Receiver) (s : State) : State := { s with receivers := s.receivers.set i x }

/-- The frame ring of a source, oldest record first. -/
def State.ring (s : State) (i : Src) : List FrameRec := s.fs.rings.get i

/-- A frame ring replaced. -/
def State.setRing (i : Src) (x : List FrameRec) (s : State) : State :=
  { s with fs := { s.fs with rings := s.fs.rings.set i x } }

/-- The content of a slot replaced. -/
def State.setSlot (i : Src) (slot : Slot) (x : Content) (s : State) : State :=
  { s with fs := { s.fs with slots := s.fs.slots.set i ((s.fs.slots.get i).set slot x) } }

/-- The transition record replaced. -/
def State.setRecord (r : Option Transition) (s : State) : State := { s with zc := { s.zc with record := r } }

/-! Derived quantities (R1, 00_scope) -/

/-- Frame height of a width: width × 9 / 16. -/
def heightOf (width : Nat) : Nat := width * 9 / 16

/-- H of a source (R1). -/
def Source.height (x : Source) : Nat := heightOf x.width

/-- Zcap = floor(B × S / 256) (R1). -/
def Source.zcap (x : Source) : Nat := x.base * x.stretch / 256

/-- The frame timer of a source: four nominal periods measured from last READY time (R5). -/
def Source.frameTimer (x : Source) (lastReady : Time) : Timer := ⟨lastReady, 4 * x.period⟩

/-- clamp to [a, b] (00_scope, Arithmetic). -/
def clamp (v a b : Nat) : Nat := if v < a then a else if b < v then b else v

/-! Source states -/

/-- The states in which the enable line is high (R4). -/
def SrcState.powered : SrcState → Bool
  | .parked => false
  | .waking => true
  | .syncing => true
  | .warm => true
  | .primary => true
  | .outgoing => true
  | .incoming => true
  | .fault => false

/-- The states in which frames are taken into the ring (section 1.2, R25). -/
def SrcState.keepsFrames : SrcState → Bool
  | .parked => false
  | .waking => false
  | .syncing => true
  | .warm => true
  | .primary => true
  | .outgoing => true
  | .incoming => true
  | .fault => false

/-- The states between which role changes move a source (R11): those in which the frame timer runs. -/
def SrcState.usable : SrcState → Bool
  | .parked => false
  | .waking => false
  | .syncing => false
  | .warm => true
  | .primary => true
  | .outgoing => true
  | .incoming => true
  | .fault => false

/-- The roles in the picture (R3). -/
def SrcState.isRole : SrcState → Bool
  | .parked => false
  | .waking => false
  | .syncing => false
  | .warm => false
  | .primary => true
  | .outgoing => true
  | .incoming => true
  | .fault => false

/-- PARKED or FAULT: a record that loses its last holder leaves the ring (R17, R41). -/
def SrcState.unpowered (x : SrcState) : Bool := !x.powered

/-! The idle timer (R8) -/

/-- Whether a source is the target of the transition record. -/
def State.isTarget (s : State) (i : Src) : Bool :=
  match s.zc.record with
  | none => false
  | some r => decide (r.taker = i)

/-- Whether a source is the pending primary of an output in STARTING. -/
def State.isPending (s : State) (i : Src) : Bool := decide (s.cp.sub = .starting ∧ s.cp.pendingPrimary = some i)

/-- The conditions under which the idle timer of a source runs (R8). -/
def State.idleRuns (s : State) (i : Src) : Bool :=
  decide ((s.source i).state = .warm ∧ (s.source i).idleTwenties ≠ 0) && !s.isTarget i && !s.isPending i

/-- The idle timer started from its full duration, or stopped where a condition of R8 fails. -/
def State.restartIdle (i : Src) (s : State) : State :=
  s.setSource i { s.source i with
    idle := if s.idleRuns i then some (s.timer ((s.source i).idleTwenties * 20000)) else none }

/-- The idle timer stopped. -/
def State.stopIdle (i : Src) (s : State) : State := s.setSource i { s.source i with idle := none }

/-! Frame rings and holds (R27 to R31, R41 to R45) -/

/-- The two holders of a frame record (R28). -/
inductive Holder where
  | compositor | still
  deriving DecidableEq, Repr

/-- Whether a record carries a holder. -/
def FrameRec.holds (r : FrameRec) : Holder → Bool
  | .compositor => r.heldC
  | .still => r.heldS

/-- Whether a record has any holder. -/
def FrameRec.held (r : FrameRec) : Bool := r.heldC || r.heldS

/-- A record with a holder's claim set or released. -/
def FrameRec.setHold (r : FrameRec) (h : Holder) (on : Bool) : FrameRec :=
  match h with
  | .compositor => { r with heldC := on }
  | .still => { r with heldS := on }

/-- Whether a record is READY. -/
def FrameRec.isReady (r : FrameRec) : Bool := decide (r.state = .ready)

/-- Releasing a hold: the record leaves the ring of an unpowered source when its holders become empty (R17, R41). -/
def releaseRec (drop : Bool) (h : Holder) (r : FrameRec) : Option FrameRec :=
  if r.holds h then
    if drop && !(r.setHold h false).held then none else some (r.setHold h false)
  else some r

/-- Every hold of one holder in the ring of a source is released (R41). -/
def State.releaseHolds (h : Holder) (i : Src) (s : State) : State :=
  s.setRing i ((s.ring i).filterMap (releaseRec (s.source i).state.unpowered h))

/-- The compositor hold of a source moves to the record of this slot (R42). -/
def State.moveHold (i : Src) (slot : Slot) (s : State) : State :=
  s.setRing i ((s.ring i).filterMap fun r =>
    if r.slot = slot then some (r.setHold .compositor true)
    else releaseRec (s.source i).state.unpowered .compositor r)

/-- The still hold is placed on the record of this slot (R43). -/
def State.placeStillHold (i : Src) (slot : Slot) (s : State) : State :=
  s.setRing i ((s.ring i).map fun r => if r.slot = slot then r.setHold .still true else r)

/-- The newest READY record of a ring (R45): records stand in the order in which their frames started. -/
def newestReady (ring : List FrameRec) : Option FrameRec := (ring.filter FrameRec.isReady).getLast?

/-- The slots named by no record of a ring, lowest number first (R27). -/
def freeSlots (ring : List FrameRec) : List Slot :=
  Src.all.filter fun n => ring.all fun r => decide (r.slot ≠ n)

/-- The oldest READY record with no holders leaves a full ring (R30). -/
def dropOldest (ring : List FrameRec) : List FrameRec :=
  if Config.ringDepth ≤ ring.length then ring.eraseP (fun r => r.isReady && !r.held) else ring

/-- The FILLING record leaves the ring (R25, R32, R38). -/
def dropFilling (ring : List FrameRec) : List FrameRec := ring.filter FrameRec.isReady

/-- What the purge of R16 does to a receiver (R26). -/
def Receiver.purged (x : Receiver) : Receiver :=
  { x with
    intake := match x.intake with
      | .between => .between
      | .discarding => .discarding
      | .awaitMeta => .discarding
      | .receiving => .discarding
    run := 0
    last := none
    sums := ⟨0, 0, 0⟩ }

/-- The purge of R16: every unheld record leaves the ring, and the receiver is told. -/
def State.purge (i : Src) (s : State) : State :=
  (s.setRing i ((s.ring i).filter FrameRec.held)).setReceiver i (s.receiver i).purged

/-! Wake, park, fault and role changes (R6, R10, R11, R15) -/

/-- SOURCE_STATE, posted for a source of purpose NORMAL only (R19). -/
def State.postState (i : Src) (purpose : Purpose) (new prev : SrcState) (s : State) : State :=
  match purpose with
  | .normal => s.post (some i) (.sourceState new prev s.cru.time)
  | .test => s

/-- The wake of R6: it acts on a PARKED, defined source only. -/
def State.wake (purpose : Purpose) (i : Src) (s : State) : State :=
  if (s.source i).state = .parked ∧ (s.source i).defined = true then
    (s.setSource i { s.source i with
      state := .waking, purpose := purpose, lastReady := none, enable := true,
      settle := some (s.timer ((s.source i).settleMs * 1000)) }).postState i purpose .waking .parked
  else s

/-- A source record as a park leaves it (R10). -/
def Source.parkedRec (x : Source) : Source :=
  { x with state := .parked, purpose := .normal, cause := none, enable := false,
           settle := none, sync := none, frame := none, idle := none }

/-- The park of R10, from WAKING, SYNCING, WARM or FAULT; a source in a role or PARKED is left as it is. -/
def State.park (i : Src) (s : State) : State :=
  if (s.source i).state = .parked ∨ (s.source i).state.isRole = true then s
  else ((s.setSource i (s.source i).parkedRec).purge i).postState i (s.source i).purpose .parked (s.source i).state

/-- A source record as the entry to FAULT leaves it (R15). -/
def Source.faultRec (x : Source) (cause : FaultCause) : Source :=
  { x with state := .fault, cause := some cause, enable := false,
           settle := none, sync := none, frame := none, idle := none }

/-- The pending reports of a source replaced. -/
def State.setReports (i : Src) (l : List Report) (s : State) : State :=
  { s with zc := { s.zc with reports := s.zc.reports.set i l } }

/-- A fault report becomes pending at the zoom controller, behind those of earlier faults it has not taken yet (R15). -/
def State.raiseReport (i : Src) (role : SrcState) (s : State) : State :=
  s.setReports i (s.zc.reports.get i ++ [⟨role, none⟩])

/-- The entry to FAULT of R15. -/
def State.faultSource (cause : FaultCause) (i : Src) (s : State) : State :=
  (((s.setSource i ((s.source i).faultRec cause)).purge i).post (some i)
    (.sourceFault cause (s.source i).state s.cru.time)).raiseReport i (s.source i).state

/-- A report whose fault no longer concerns the picture. -/
def Report.settled (x : Report) : Report := { x with role := .warm }

/-- The role a change would have given the source goes to the report of the fault it stands in, the newest (R12, log 11). -/
def shiftReports (role : SrcState) : List Report → List Report
  | [] => []
  | [x] => [{ x with role := role }]
  | x :: y :: rest => x.settled :: shiftReports role (y :: rest)

/-- The change that found the source in FAULT goes to the newest report too (R110). -/
def spoilReports (x : Spoiled) : List Report → List Report
  | [] => []
  | [y] => [{ y with spoiled := some x }]
  | y :: z :: rest => y :: spoilReports x (z :: rest)

/-- The pending reports follow a change made while their source stood in FAULT: it is handled in the new role (R12). -/
def State.shiftReport (i : Src) (role : SrcState) (s : State) : State :=
  s.setReports i (shiftReports role (s.zc.reports.get i))

/-- The pending reports of a source that takes a role name no role any more (log 11). -/
def State.settleReports (i : Src) (s : State) : State := s.setReports i ((s.zc.reports.get i).map Report.settled)

/-- A role change tells the zoom controller that it found this source in FAULT (R110). -/
def State.spoil (i : Src) (x : Spoiled) (s : State) : State := s.setReports i (spoilReports x (s.zc.reports.get i))

/-- A source that is WARM or in a role takes the role a change gives it: a change to WARM starts the idle timer as R8 allows,
any other stops it (R11). -/
def State.takeRole (i : Src) (role : SrcState) (s : State) : State :=
  if (s.source i).state = role then s
  else ((s.setSource i { s.source i with state := role, idle := none }).restartIdle i).postState i
    (s.source i).purpose role (s.source i).state

/-- One source's share of a role change (R11, R12): a source that is not WARM or in a role is left as it stands, FAULT
above all (log 15). -/
def State.setRole (i : Src) (role : SrcState) (s : State) : State :=
  if (s.source i).state.usable = true then (s.settleReports i).takeRole i role else s.shiftReport i role

/-- Whether a role change would find the source in FAULT, or otherwise without power (R110, log 15). -/
def State.lost (s : State) (i : Src) : Bool := !(s.source i).state.usable

/-- A first READY frame takes a SYNCING source to WARM (R7): its frame timer starts from last READY time and its idle
timer as R8 allows. -/
def State.enterWarm (i : Src) (s : State) : State :=
  ((s.setSource i { s.source i with
    state := .warm, sync := none, frame := (s.source i).lastReady.map (s.source i).frameTimer }).restartIdle i).postState i
    (s.source i).purpose .warm (s.source i).state

/-! The transition record's removal (R94, R112) -/

/-- The record is removed; a WARM target's idle timer starts from its full duration (R8). -/
def State.removeRecord (s : State) : State :=
  match s.zc.record with
  | none => s
  | some r => (s.setRecord none).restartIdle r.taker

/-- The record stands in place of any other, and its target's idle timer does not run (R8, R87, R91). -/
def State.createRecord (r : Transition) (s : State) : State := (s.removeRecord.setRecord (some r)).stopIdle r.taker

/-! The pending primary (R8) -/

/-- The pending primary replaced. -/
def State.setPending (x : Option Src) (s : State) : State := { s with cp := { s.cp with pendingPrimary := x } }

/-- A pending primary becomes absent; a WARM one has its idle timer started (R8, R107, R139). -/
def State.dropPending (s : State) : State :=
  match s.cp.pendingPrimary with
  | none => s
  | some p => (s.setPending none).restartIdle p

/-! Link test (R195) -/

/-- Whether a source is under a running link test: its code is pending (R194). -/
def State.underTest (s : State) (i : Src) : Bool :=
  match s.cru.test with
  | none => false
  | some t => decide (t.codes.get i = .pending)

/-- The test record, or TEST_DONE in the same change once no code is pending (R194, R195). -/
def State.settleTest (t : TestRecord) (s : State) : State :=
  if t.codes.toList.any (fun c => decide (c = .pending)) then { s with cru := { s.cru with test := some t } }
  else ({ s with cru := { s.cru with test := none } }).post none (.testDone t.codes t.start s.cru.time)

/-- The end of a source's link test: it is parked and its code is set (R195). -/
def State.testEnd (i : Src) (code : TestCode) (s : State) : State :=
  match s.cru.test with
  | none => s.park i
  | some t => (s.park i).settleTest { t with codes := t.codes.set i code }

/-! Resets (R2, R24, R29, R48, R64, R69, R73, R131, R133, R154, R166, R185, R190, R192) -/

/-- The hard reset: every block at the value its chapter gives; the straps are sampled at the release (R190, R191). -/
def State.hardReset (s : State) : State :=
  { State.reset with
    cru := { State.reset.cru with straps := s.cru.straps }
    pending := s.pending }

/-- The link reset: as a hard reset, but the straps, the clock lock, the time base and the calibration lists are kept
(R179, R192); the part stays in RESET until LINK_RESET_END. -/
def State.linkReset (s : State) : State :=
  { State.reset with
    cru := { s.cru with test := none, linkResetAt := some s.cru.time }
    link := { Link.reset with sdo := s.link.sdo }
    gu := { State.reset.gu with cal := s.gu.cal }
    pending := s.pending }

end Sys2Proof.Machine
end

