-- ==== Sys2Proof/Machine/Geometry.lean ====
section
/-! DEFINITION. The geometry unit's arithmetic: lookup, crop window, stretch and resample mapping (R49, R50, R58 to R67). -/

namespace Sys2Proof.Machine

/-- The nearest integer to a / d, a value exactly halfway rounded away from zero (00_scope, Arithmetic). -/
def roundDiv (a : Int) (d : Nat) : Int :=
  if 0 ≤ a then (((2 * a.toNat + d) / (2 * d) : Nat) : Int) else -(((2 * (-a).toNat + d) / (2 * d) : Nat) : Int)

/-- The greatest even integer not above the value. -/
def evenDown (n : Nat) : Nat := n - n % 2

/-! Lookup (R49, R50) -/

/-- Optical offsets in 1/16 scene unit. -/
structure Offsets where
  ox : Int
  oy : Int
  deriving DecidableEq, Repr

/-- The points of a list in position order, skipping empty positions (R46). -/
def CalList.points (l : CalList) : List CalPoint := l.toList.filterMap id

/-- One interpolated offset between two points (R50). -/
def interpolate (fa fb f : Nat) (oa ob : Int) : Int :=
  roundDiv (oa * ((fb : Int) - fa) + (ob - oa) * ((f : Int) - fa)) (fb - fa)

/-- The lookup in what follows point `a`, for a focus code above that of `a` (R49). -/
def lookupFrom (a : CalPoint) (f : Nat) : List CalPoint → Offsets
  | [] => ⟨a.ox, a.oy⟩
  | b :: rest =>
    if f < b.focus then ⟨interpolate a.focus b.focus f a.ox b.ox, interpolate a.focus b.focus f a.oy b.oy⟩
    else if f = b.focus then ⟨b.ox, b.oy⟩
    else lookupFrom b f rest

/-- The lookup of R49. -/
def lookupPoints (points : List CalPoint) (f : Nat) : Offsets :=
  match points with
  | [] => ⟨0, 0⟩
  | a :: rest => if f ≤ a.focus then ⟨a.ox, a.oy⟩ else lookupFrom a f rest

/-! The crop window (R58 to R63) -/

/-- A crop window with its two marks. -/
structure CropWindow where
  rect : Rect
  short : Bool
  edge : Bool
  deriving DecidableEq, Repr

/-- floor(W × B / Z), before the limit to W (R59). -/
def rawCropWidth (w b z : Nat) : Nat := w * b / z

/-- cw (R59). -/
def cropWidth (w b z : Nat) : Nat := evenDown (min (rawCropWidth w b z) w)

/-- ch (R59). -/
def cropHeight (cw : Nat) : Nat := evenDown (cw * 9 / 16)

/-- dx or dy: the displacement of an offset in pixels (R60). -/
def displacement (o : Int) (w b : Nat) : Int := roundDiv (o * ((w * b : Nat) : Int)) (2 ^ 24)

/-- Where a window of this size would start along one axis of the frame, before the clamp (R61). -/
def idealStart (size win : Nat) (d : Int) : Int := ((size / 2 : Nat) : Int) - d - ((win / 2 : Nat) : Int)

/-- The start along one axis: clamped to [0, size − win], then rounded down to even (R61). -/
def clampStart (size win : Nat) (start : Int) : Nat := evenDown (min start.toNat (size - win))

/-- Whether the clamp of R61 moves the window. -/
def clampMoves (size win : Nat) (start : Int) : Bool := decide (start < 0 ∨ ((size - win : Nat) : Int) < start)

/-- The crop window of a frame of width `w` and a source of base zoom `b`, at zoom `z` and these offsets (R59 to R61). -/
def cropWindow (w b z : Nat) (o : Offsets) : CropWindow :=
  let cw := cropWidth w b z
  let ch := cropHeight cw
  let sx := idealStart w cw (displacement o.ox w b)
  let sy := idealStart (heightOf w) ch (displacement o.oy w b)
  { rect := ⟨clampStart w cw sx, clampStart (heightOf w) ch sy, cw, ch⟩
    short := decide (w < rawCropWidth w b z)
    edge := clampMoves w cw sx || clampMoves (heightOf w) ch sy }

/-- The stretch of a compose window, Q8 (R63). -/
def stretchOf (wo cw : Nat) : Nat := wo * 256 / cw

/-- The lookup of a source at a focus code, on the list as it stands (R51). -/
def State.lookup (s : State) (i : Src) (f : Nat) : Offsets := lookupPoints (s.gu.cal.get i).points f

/-- The zoom a statistics window is computed at: Z, or the base zoom while no ladder exists (R34, R58). -/
def State.statZoom (s : State) (i : Src) : Nat :=
  match s.zc.ladder with
  | none => (s.source i).base
  | some _ => s.zc.shown

/-- The statistics window of a frame of this width and focus code (R34, R58). -/
def State.statWindow (s : State) (i : Src) (width focus : Nat) : Rect :=
  (cropWindow width (s.source i).base (s.statZoom i) (s.lookup i focus)).rect

/-- The compose window of a participant at the shown zoom (R58, R63, R64). -/
def State.composeWindow (s : State) (i : Src) (width focus : Nat) : ComposeWindow :=
  let c := cropWindow width (s.source i).base s.zc.shown (s.lookup i focus)
  { rect := c.rect, short := c.short, edge := c.edge, stretch := stretchOf s.cp.settings.wo c.rect.cw,
    zoom := s.zc.shown, focus := focus }

/-! Resampling (R65 to R67) -/

/-- A source position along one axis, in 1/256 pixel, for output index `x` of `n`, clamped to the window (R65, R66). -/
def mapPosition (start size n x : Nat) : Nat :=
  let p : Int := ((start * 256 + (2 * x + 1) * size * 128 / n : Nat) : Int) - 128
  min (max p.toNat (start * 256)) ((start + size - 1) * 256)

/-- A component of a stored pixel: a missing pixel is 0 (R35). -/
def component (frame : Content) (pick : Pixel → BitVec 10) (x y : Nat) : Nat :=
  (pick (((frame[y]?).getD [])[x]?.getD Pixel.black)).toNat

/-- The bilinear value of R67 from four neighbours and the two fractions. -/
def bilinear (p00 p10 p01 p11 fx fy : Nat) : Nat :=
  (p00 * (256 - fx) * (256 - fy) + p10 * fx * (256 - fy) + p01 * (256 - fx) * fy + p11 * fx * fy + 32768) / 65536

/-- The resampled value of one output pixel and component (R65 to R67). -/
def resample (frame : Content) (pick : Pixel → BitVec 10) (win : Rect) (wo ho x y : Nat) : Nat :=
  let px := mapPosition win.x0 win.cw wo x
  let py := mapPosition win.y0 win.ch ho y
  let ix := px / 256
  let iy := py / 256
  let ix1 := min (ix + 1) (win.x0 + win.cw - 1)
  let iy1 := min (iy + 1) (win.y0 + win.ch - 1)
  bilinear (component frame pick ix iy) (component frame pick ix1 iy) (component frame pick ix iy1)
    (component frame pick ix1 iy1) (px % 256) (py % 256)

end Sys2Proof.Machine
end

