-- ==== Sys2Proof/Machine/Frames.lean ====
section
/-! DEFINITION. Bytes, the CRC and the frames of the control link (R168 to R170, R173, R196). -/

namespace Sys2Proof.Machine

/-- A two-byte field, most significant byte first (section 12.1). -/
def be16 (x : Half) : List Byte := [x.extractLsb' 8 8, x.extractLsb' 0 8]

/-- A four-byte field, most significant byte first (section 12.1). -/
def be32 (x : Word) : List Byte := [x.extractLsb' 24 8, x.extractLsb' 16 8, x.extractLsb' 8 8, x.extractLsb' 0 8]

/-- The two-byte field of two bytes. -/
def half (hi lo : Byte) : Half := hi ++ lo

/-- The four-byte field of four bytes. -/
def word (b3 b2 b1 b0 : Byte) : Word := b3 ++ b2 ++ b1 ++ b0

/-- A number in one byte. -/
def u8 (n : Nat) : Byte := BitVec.ofNat 8 n

/-- A number in a two-byte field. -/
def u16 (n : Nat) : List Byte := be16 (BitVec.ofNat 16 n)

/-- A number in a four-byte field. -/
def u32 (n : Nat) : List Byte := be32 (BitVec.ofNat 32 n)

/-- A signed number in a two-byte field, two's complement (section 12.1). -/
def i16 (n : Int) : List Byte := be16 (BitVec.ofInt 16 n)

/-- yes / no: 1 or 0 (section 12.1). -/
def flag (b : Bool) : Byte := if b then 1 else 0

/-! The CRC (R170) -/

/-- One bit of the CRC register: shift left, and add the generator x^16 + x^12 + x^5 + 1 when a one leaves. -/
def crcShift (c : Half) : Half := if c.msb then (c <<< 1) ^^^ 0x1021 else c <<< 1

/-- One byte of the frame, most significant bit first. -/
def crcByte (c : Half) (b : Byte) : Half :=
  crcShift (crcShift (crcShift (crcShift (crcShift (crcShift (crcShift (crcShift (c ^^^ (b ++ (0 : Byte)))))))))) 

/-- The CRC of a list of bytes: the register starts at all ones, nothing is reflected or inverted (R170). -/
def crc (bytes : List Byte) : Half := bytes.foldl crcByte 0xFFFF

/-! Request frames (R169) -/

/-- The frame error causes, in the order of R169. -/
inductive FrameCause where
  | badSync | badLengthField | short | badCrc
  deriving DecidableEq, Repr

/-- The byte of a frame error cause (R196). -/
def FrameCause.code : FrameCause → Byte
  | .badSync => 1
  | .badLengthField => 2
  | .short => 3
  | .badCrc => 4

/-- The payload length field of a frame; 0 where the byte was not clocked. -/
def frameLength (bytes : List Byte) : Nat := (bytes[1]?.getD 0).toNat

/-- The bytes the CRC covers: payload length + 4 bytes after the sync byte (R170). -/
def frameBody (bytes : List Byte) : List Byte := (bytes.drop 1).take (frameLength bytes + 4)

/-- The CRC a frame carries after its last payload byte, high byte first. -/
def frameCrc (bytes : List Byte) : Half :=
  half (bytes[frameLength bytes + 5]?.getD 0) (bytes[frameLength bytes + 6]?.getD 0)

/-- The first check of R169 that the bytes of a transaction fail, if any. -/
def frameCheck (bytes : List Byte) : Option FrameCause :=
  if bytes[0]?.getD 0 ≠ Config.requestSync then some .badSync
  else if bytes.length < 2 ∨ Config.maxPayload < frameLength bytes then some .badLengthField
  else if bytes.length < frameLength bytes + 7 then some .short
  else if frameCrc bytes ≠ crc (frameBody bytes) then some .badCrc
  else none

/-- The request a well-formed frame carries; bytes after its CRC are fill and are not read (R169). -/
def frameRequest (bytes : List Byte) : RawRequest :=
  { code := bytes[2]?.getD 0, tag := bytes[3]?.getD 0, modifier := bytes[4]?.getD 0,
    payload := (bytes.drop 5).take (frameLength bytes) }

/-- The frame of a request (R169, R196), as the host builds it. -/
def RawRequest.frame (q : RawRequest) : List Byte :=
  let body := u8 q.payload.length :: q.code :: q.tag :: q.modifier :: q.payload
  Config.requestSync :: (body ++ be16 (crc body))

/-! Reply frames (R173, R196) -/

/-- The result byte (R196). -/
def Result.code : Result → Byte
  | .ok => 0
  | .accepted => 1
  | .partialDone => 2
  | .frameError => 3
  | .unknown => 4
  | .badLength => 5
  | .badModifier => 6
  | .badValue => 7
  | .wrongState => 8
  | .wrongRole => 9
  | .noSource => 10
  | .noFrame => 11
  | .stillActive => 12

/-- The frame of a reply, with the CRC the part computes (R170, R173). -/
def Reply.frame (r : Reply) : List Byte :=
  let body := u8 r.payload.length :: r.code :: r.tag :: r.result.code :: r.payload
  Config.replySync :: (body ++ be16 (crc body))

/-- The `n` bytes a transaction clocks out (R167, R168): a marker on every byte, or the reply frame and then the EMPTY
marker, cut short where the host clocks fewer bytes. -/
def LinkOut.bytes (out : LinkOut) (n : Nat) : List Byte :=
  match out with
  | .empty => List.replicate n Config.emptyMarker
  | .busy => List.replicate n Config.busyMarker
  | .reply r => (r.frame ++ List.replicate n Config.emptyMarker).take n

end Sys2Proof.Machine
end

