-- ==== Sys2Proof/Machine/Operands.lean ====
section
/-! DEFINITION. The operands of the commands and the payloads of the replies: encodings of section 12.1, request payloads
(R171, R197), and the fields of replies and notices (R198, R200). -/

namespace Sys2Proof.Machine

/-! Encodings of section 12.1 -/

/-- A source number, or 0xFF for none. -/
def sourceByte : Option Src → Byte
  | none => 0xFF
  | some i => u8 i.num

/-- The source a byte names; none outside 0 to 3. -/
def byteSource (b : Byte) : Option Src := Src.ofNum b.toNat

/-- A set of sources: bit n for Sn. -/
def sourceSet (l : List Src) : Byte := u8 ((Src.all.map fun i => if i ∈ l then 2 ^ i.num else 0).sum)

/-- Part state; RESET is never reported. -/
def PartState.code : PartState → Byte
  | .reset => 0
  | .config => 1
  | .streaming => 2
  | .suspended => 3

/-- Output sub-state. -/
def OutSub.code : OutSub → Byte
  | .none => 0
  | .starting => 1
  | .running => 2
  | .frozen => 3

/-- Source state. -/
def SrcState.code : SrcState → Byte
  | .parked => 0
  | .waking => 1
  | .syncing => 2
  | .warm => 3
  | .primary => 4
  | .outgoing => 5
  | .incoming => 6
  | .fault => 7

/-- Source purpose. -/
def Purpose.code : Purpose → Byte
  | .normal => 0
  | .test => 1

/-- Fault cause. -/
def FaultCause.code : FaultCause → Byte
  | .noSync => 1
  | .frameTimeout => 2
  | .link => 3

/-- Fault cause or absent. -/
def causeByte : Option FaultCause → Byte
  | none => 0
  | some c => c.code

/-- Bad frame cause. -/
def BadCause.code : BadCause → Byte
  | .cutOff => 1
  | .badMarker => 2
  | .lineCount => 3

/-- Transition kind. -/
def RecKind.code : RecKind → Byte
  | .up => 1
  | .down => 2
  | .rescue => 3

/-- Transition phase. -/
def Phase.code : Phase → Byte
  | .armed => 1
  | .matching => 2
  | .blending => 3

/-- Hand-off mode. -/
def HandMode.code : HandMode → Byte
  | .blend => 1
  | .cut => 2
  | .rescue => 3

/-- Hand-off abort cause. -/
def AbortCause.code : AbortCause → Byte
  | .targetFault => 1
  | .primaryFault => 2
  | .incomingFault => 3
  | .rescueFailed => 4

/-- Held side. -/
def HeldSide.code : HeldSide → Byte
  | .none => 0
  | .lower => 1
  | .upper => 2

/-- Repeat cause. -/
def RepeatCause.code : RepeatCause → Byte
  | .overrun => 1
  | .sameFrame => 2
  | .noFrame => 3

/-- Match-limited cause. -/
def LimitCause.code : LimitCause → Byte
  | .ratio => 1
  | .window => 2

/-- Still kind. -/
def StillKind.code : StillKind → Byte
  | .source => 1
  | .fused => 2

/-- Still state. -/
def StillState.code : StillState → Byte
  | .capturing => 1
  | .sending => 2
  | .paused => 3
  | .ending => 4

/-- Still abort cause. -/
def StillCause.code : StillCause → Byte
  | .host => 1
  | .timeout => 2
  | .outputStop => 3

/-- Notice class. -/
def NoticeClass.code : NoticeClass → Byte
  | .routine => 0
  | .urgent => 1

/-- Reset kind. -/
def ResetKind.code : ResetKind → Byte
  | .hard => 0
  | .link => 1

/-- LINKMODE is reported as 0 or 3. -/
def LinkMode.code : LinkMode → Byte
  | .mode0 => 0
  | .mode3 => 3

/-- ATTNMODE. -/
def AttnMode.code : AttnMode → Byte
  | .level => 0
  | .pulse => 1

/-- REFCLK. -/
def RefClk.code : RefClk → Byte
  | .mhz19 => 0
  | .mhz24 => 1
  | .mhz26 => 2
  | .mhz38 => 3

/-- Link test code of a source (R194, R195); a pending code is never reported. -/
def TestCode.code : TestCode → Byte
  | .pending => 0
  | .pass => 1
  | .noSync => 2
  | .badFrames => 3
  | .notTested => 4

/-! Notice payloads (R200) -/

/-- The three gains of a payload. -/
def Gains.bytes (x : Gains) : List Byte := u16 x.r ++ u16 x.g ++ u16 x.b

/-- Bounding source or lower of the pair, then upper of the pair or 0xFF (R200). -/
def boundingBytes : Option Bounding → List Byte
  | none => [0xFF, 0xFF]
  | some (.one p) => [sourceByte (some p), 0xFF]
  | some (.pair lower upper) => [sourceByte (some lower), sourceByte (some upper)]

/-- A counter or absent: present byte and value. -/
def counterBytes : Option Half → List Byte
  | none => 0 :: be16 0
  | some c => 1 :: be16 c

/-- The latest payload of an entry, in the order of R200. -/
def Payload.bytes : Payload → List Byte
  | .ready kind straps time =>
    [kind.code, straps.linkMode.code, straps.attnMode.code, straps.refClk.code] ++ be32 time
  | .sourceState new prev time => [new.code, prev.code] ++ be32 time
  | .sourceFault cause stood time => [cause.code, stood.code] ++ be32 time
  | .linkFault cause lines run counter => cause.code :: (u16 lines ++ u8 run :: counterBytes counter)
  | .frameLoss missing prev new time => u16 missing ++ be16 prev ++ be16 new ++ be32 time
  | .handoffDone kind giver taker mode limited n gains time =>
    [kind.code, sourceByte (some giver), sourceByte (some taker), mode.code, flag limited, u8 n] ++ gains.bytes ++
      be32 time
  | .handoffAborted kind giver taker phase index cause time =>
    [kind.code, sourceByte (some giver), sourceByte (some taker), phase.code, u8 index, cause.code] ++ be32 time
  | .zoomHeld held side target shown who time =>
    [flag held, side.code] ++ u16 target ++ u16 shown ++ boundingBytes who ++ be32 time
  | .matchLimited cause giver taker gains run ticks time =>
    [cause.code, sourceByte (some giver), sourceByte (some taker)] ++ gains.bytes ++ [u8 run, u8 ticks] ++ be32 time
  | .outputRepeat cause sources overruns repeats shown time =>
    [cause.code, sourceSet sources] ++ u16 overruns ++ u16 repeats ++ u16 shown ++ be32 time
  | .outputFrozen faulted target zoomTarget shown time =>
    [sourceByte (some faulted), sourceByte target] ++ u16 zoomTarget ++ u16 shown ++ be32 time
  | .stillDone id kind source width total time =>
    [u8 id, kind.code, sourceByte source] ++ u16 width ++ [u8 total] ++ be32 time
  | .stillAborted id kind source cause state begun time =>
    [u8 id, kind.code, sourceByte source, cause.code, state.code, u8 begun] ++ be32 time
  | .testDone codes start finish => codes.toList.map TestCode.code ++ be32 start ++ be32 finish

/-- The reply payload of NOTICE_TAKE for an entry and the number of entries remaining (R188, R200). -/
def Notice.bytes (e : Notice) (remaining : Nat) : List Byte :=
  [u8 e.kind.num, sourceByte e.source, e.cls.code, u8 e.count] ++ be32 e.first ++
    [u8 remaining, u8 e.payload.bytes.length] ++ e.payload.bytes

/-- The reply payload of NOTICE_TAKE on an empty queue (R188, R200). -/
def noNoticeBytes : List Byte := [0, 0xFF, 0, 0] ++ be32 0 ++ [0, 0]

/-! Requests (R171, R197) -/

/-- A request as its payload fields give it; a choice of QUERY_ONLY stands beside it. -/
inductive Request where
  | nop | ident | linkTest | resetPart | suspend | resume
  | sourceDefine (src : Byte) (base width : Half) (period : Word) (stretch : Half) (settle sync idle : Byte)
  | sourcePower (src action : Byte)
  | sourceQuery (src : Byte)
  | calRun (src start dir count : Byte) (points : List PointRec)
  | calRead (src : Byte)
  | ladderSet (count : Byte) (rungs : List RungRec)
  | outputSet (wo : Half) (period : Word) (n tolerance m window : Byte)
  | outputStart | outputStop
  | zoomSet (target rate : Half)
  | zoomQuery
  | pinSource (on : Byte)
  | stillTake (kind src : Byte)
  | stillFlow (action : Byte)
  | noticeTake
  | noticeSetup (mask unmask urgent routine : Half)
  deriving DecidableEq, Repr

/-- The request code (R197). -/
def Request.code : Request → Byte
  | .nop => 0x01
  | .ident => 0x02
  | .linkTest => 0x03
  | .resetPart => 0x04
  | .suspend => 0x05
  | .resume => 0x06
  | .sourceDefine .. => 0x07
  | .sourcePower .. => 0x08
  | .sourceQuery .. => 0x09
  | .calRun .. => 0x0A
  | .calRead .. => 0x0B
  | .ladderSet .. => 0x0C
  | .outputSet .. => 0x0D
  | .outputStart => 0x0E
  | .outputStop => 0x0F
  | .zoomSet .. => 0x10
  | .zoomQuery => 0x11
  | .pinSource .. => 0x12
  | .stillTake .. => 0x13
  | .stillFlow .. => 0x14
  | .noticeTake => 0x15
  | .noticeSetup .. => 0x16

/-- The bytes of a point record (R197). -/
def PointRec.bytes (p : PointRec) : List Byte := be16 p.focus ++ be16 p.ox ++ be16 p.oy

/-- The bytes of a rung record (R197). -/
def RungRec.bytes (r : RungRec) : List Byte := r.source :: (be16 r.wu ++ be16 r.u ++ be16 r.d ++ be16 r.wd)

/-- The payload of a request (R197). -/
def Request.payload : Request → List Byte
  | .nop => []
  | .ident => []
  | .linkTest => []
  | .resetPart => []
  | .suspend => []
  | .resume => []
  | .sourceDefine src base width period stretch settle sync idle =>
    src :: (be16 base ++ be16 width ++ be32 period ++ be16 stretch ++ [settle, sync, idle])
  | .sourcePower src action => [src, action]
  | .sourceQuery src => [src]
  | .calRun src start dir count points => src :: start :: dir :: count :: points.flatMap PointRec.bytes
  | .calRead src => [src]
  | .ladderSet count rungs => count :: rungs.flatMap RungRec.bytes
  | .outputSet wo period n tolerance m window => be16 wo ++ be32 period ++ [n, tolerance, m, window]
  | .outputStart => []
  | .outputStop => []
  | .zoomSet target rate => be16 target ++ be16 rate
  | .zoomQuery => []
  | .pinSource on => [on]
  | .stillTake kind src => [kind, src]
  | .stillFlow action => [action]
  | .noticeTake => []
  | .noticeSetup mask unmask urgent routine => be16 mask ++ be16 unmask ++ be16 urgent ++ be16 routine

/-- The request's frame fields under a tag and a modifier (R169). -/
def Request.raw (q : Request) (tag modifier : Byte) : RawRequest := ⟨q.code, tag, modifier, q.payload⟩

/-- The modifier byte (section 12.1). -/
def modifierByte (queryOnly : Bool) : Byte := flag queryOnly

/-- The requests that QUERY_ONLY is allowed on (check 3 of R171). -/
def Request.mayQuery : Request → Bool
  | .calRun .. => true
  | .ladderSet .. => true
  | .outputSet .. => true
  | .nop => false
  | .ident => false
  | .linkTest => false
  | .resetPart => false
  | .suspend => false
  | .resume => false
  | .sourceDefine .. => false
  | .sourcePower .. => false
  | .sourceQuery .. => false
  | .calRead .. => false
  | .outputStart => false
  | .outputStop => false
  | .zoomSet .. => false
  | .zoomQuery => false
  | .pinSource .. => false
  | .stillTake .. => false
  | .stillFlow .. => false
  | .noticeTake => false
  | .noticeSetup .. => false

/-- The point records a CAL_RUN count names: 12 when it is 0 (R52, R171). -/
def pointsNamed (count : Byte) : Nat := if count = 0 then 12 else count.toNat

/-- Check 4 of R171 on the records carried: a count within its range must agree with them, any other count passes. -/
def Request.lengthAgrees : Request → Bool
  | .calRun _ _ _ count points => decide (12 < count.toNat ∨ points.length = pointsNamed count)
  | .ladderSet count rungs => decide (count.toNat < 1 ∨ 4 < count.toNat ∨ rungs.length = count.toNat)
  | .nop => true
  | .ident => true
  | .linkTest => true
  | .resetPart => true
  | .suspend => true
  | .resume => true
  | .sourceDefine .. => true
  | .sourcePower .. => true
  | .sourceQuery .. => true
  | .calRead .. => true
  | .outputSet .. => true
  | .outputStart => true
  | .outputStop => true
  | .zoomSet .. => true
  | .zoomQuery => true
  | .pinSource .. => true
  | .stillTake .. => true
  | .stillFlow .. => true
  | .noticeTake => true
  | .noticeSetup .. => true

/-- Whether a set of kinds has bit 14 or 15 set (R197). -/
def badKindSet (set : KindSet) : Bool := decide (set &&& ~~~KindSet.allKinds ≠ 0)

/-- The encoding check of R197: every payload field names a value of its kind. -/
def Request.encodingGood : Request → Bool
  | .sourcePower _ action => decide (action.toNat ≤ 1)
  | .calRun _ _ dir _ _ => decide (dir = 0x01 ∨ dir = 0xFF)
  | .pinSource on => decide (on.toNat ≤ 1)
  | .stillTake kind _ => decide (kind = 1 ∨ kind = 2)
  | .stillFlow action => decide (1 ≤ action.toNat ∧ action.toNat ≤ 3)
  | .noticeSetup mask unmask urgent routine =>
    !(badKindSet mask || badKindSet unmask || badKindSet urgent || badKindSet routine)
  | .nop => true
  | .ident => true
  | .linkTest => true
  | .resetPart => true
  | .suspend => true
  | .resume => true
  | .sourceDefine .. => true
  | .sourceQuery .. => true
  | .calRead .. => true
  | .ladderSet .. => true
  | .outputSet .. => true
  | .outputStart => true
  | .outputStop => true
  | .zoomSet .. => true
  | .zoomQuery => true
  | .noticeTake => true

/-! Reading a payload (R171, R197) -/

/-- The point records of a payload's tail, whole ones only. -/
def readPoints : List Byte → List PointRec
  | f1 :: f0 :: x1 :: x0 :: y1 :: y0 :: rest => ⟨half f1 f0, half x1 x0, half y1 y0⟩ :: readPoints rest
  | _ => []

/-- The rung records of a payload's tail, whole ones only. -/
def readRungs : List Byte → List RungRec
  | s :: a1 :: a0 :: b1 :: b0 :: c1 :: c0 :: d1 :: d0 :: rest =>
    ⟨s, half a1 a0, half b1 b0, half c1 c0, half d1 d0⟩ :: readRungs rest
  | _ => []

/-- A request without parameters: the payload must be empty. -/
def readNone (q : Request) : List Byte → Option Request
  | [] => some q
  | _ :: _ => none

/-- SOURCE_DEFINE's payload. -/
def readDefine : List Byte → Option Request
  | [s, b1, b0, w1, w0, p3, p2, p1, p0, t1, t0, settle, sync, idle] =>
    some (.sourceDefine s (half b1 b0) (half w1 w0) (word p3 p2 p1 p0) (half t1 t0) settle sync idle)
  | _ => none

/-- A payload of one byte. -/
def readOne (f : Byte → Request) : List Byte → Option Request
  | [a] => some (f a)
  | _ => none

/-- A payload of two bytes. -/
def readTwo (f : Byte → Byte → Request) : List Byte → Option Request
  | [a, b] => some (f a b)
  | _ => none

/-- CAL_RUN's payload: with its 4-byte fixed part present, the length must agree with a count from 0 to 12. -/
def readCalRun : List Byte → Option Request
  | s :: j :: d :: c :: rest =>
    if c.toNat ≤ 12 ∧ rest.length ≠ 6 * pointsNamed c then none else some (.calRun s j d c (readPoints rest))
  | _ => none

/-- LADDER_SET's payload: with its 1-byte fixed part present, the length must agree with a count from 1 to 4. -/
def readLadder : List Byte → Option Request
  | c :: rest =>
    if 1 ≤ c.toNat ∧ c.toNat ≤ 4 ∧ rest.length ≠ 9 * c.toNat then none else some (.ladderSet c (readRungs rest))
  | [] => none

/-- OUTPUT_SET's payload. -/
def readOutputSet : List Byte → Option Request
  | [w1, w0, p3, p2, p1, p0, n, tolerance, m, window] =>
    some (.outputSet (half w1 w0) (word p3 p2 p1 p0) n tolerance m window)
  | _ => none

/-- ZOOM_SET's payload. -/
def readZoomSet : List Byte → Option Request
  | [t1, t0, r1, r0] => some (.zoomSet (half t1 t0) (half r1 r0))
  | _ => none

/-- NOTICE_SETUP's payload. -/
def readNoticeSetup : List Byte → Option Request
  | [a1, a0, b1, b0, c1, c0, d1, d0] => some (.noticeSetup (half a1 a0) (half b1 b0) (half c1 c0) (half d1 d0))
  | _ => none

/-- The request of a code and a payload; none where the payload length is not the one the request needs (R171, R197). -/
def readPayload (code : Byte) (payload : List Byte) : Option Request :=
  match code.toNat with
  | 0x01 => readNone .nop payload
  | 0x02 => readNone .ident payload
  | 0x03 => readNone .linkTest payload
  | 0x04 => readNone .resetPart payload
  | 0x05 => readNone .suspend payload
  | 0x06 => readNone .resume payload
  | 0x07 => readDefine payload
  | 0x08 => readTwo .sourcePower payload
  | 0x09 => readOne .sourceQuery payload
  | 0x0A => readCalRun payload
  | 0x0B => readOne .calRead payload
  | 0x0C => readLadder payload
  | 0x0D => readOutputSet payload
  | 0x0E => readNone .outputStart payload
  | 0x0F => readNone .outputStop payload
  | 0x10 => readZoomSet payload
  | 0x11 => readNone .zoomQuery payload
  | 0x12 => readOne .pinSource payload
  | 0x13 => readTwo .stillTake payload
  | 0x14 => readOne .stillFlow payload
  | 0x15 => readNone .noticeTake payload
  | 0x16 => readNoticeSetup payload
  | _ => none

/-- The twenty-two request codes (check 1 of R171, R197). -/
def knownCode (code : Byte) : Bool := decide (0x01 ≤ code.toNat ∧ code.toNat ≤ 0x16)

/-- The codes that QUERY_ONLY is allowed on: CAL_RUN, LADDER_SET, OUTPUT_SET (check 3 of R171). -/
def queryCode (code : Byte) : Bool := decide (code = 0x0A ∨ code = 0x0C ∨ code = 0x0D)

/-- The checks of R171 on a well-formed frame: the request with its QUERY_ONLY choice, or the result that refuses it. -/
def readRequest (raw : RawRequest) : Except Result (Request × Bool) :=
  if knownCode raw.code = false then .error .unknown
  else if 1 < raw.modifier.toNat then .error .badModifier
  else if raw.modifier = 1 ∧ queryCode raw.code = false then .error .badModifier
  else match readPayload raw.code raw.payload with
    | none => .error .badLength
    | some q => .ok (q, decide (raw.modifier = 1))

/-! Answers -/

/-- What the owning block makes of a request: the state it leaves, the result and the reply payload (R172, R173). -/
structure Answer where
  state : State
  result : Result
  payload : List Byte
  deriving DecidableEq, Repr

/-- A refusal changes no state (R173). -/
def State.refuse (s : State) (result : Result) (payload : List Byte) : Answer := ⟨s, result, payload⟩

end Sys2Proof.Machine
end

