-- ==== Sys2Proof/Machine/Calibration.lean ====
section
/-! DEFINITION. CAL_RUN and CAL_READ: writing and reading a calibration list (R46, R47, R52 to R57). -/

namespace Sys2Proof.Machine

/-- The code that empties a position (R52). -/
def emptyCode : Half := 0xFFFF

/-- The position a point record writes: a point, or empty for the clearing code (R53). -/
def PointRec.point (p : PointRec) : Option CalPoint :=
  if p.focus = emptyCode then none else some ⟨p.focus.toNat, p.ox.toInt, p.oy.toInt⟩

/-- A point record whose focus code is neither a code nor the clearing code (check 5 of R52). -/
def PointRec.bad (p : PointRec) : Bool := decide (1023 < p.focus.toNat ∧ p.focus ≠ emptyCode)

/-- A working copy and the number of point records that reached a position (R53). -/
structure Written where
  list : CalList
  count : Nat
  deriving DecidableEq, Repr

/-- The write pass from one position on, `up` for direction +1; it ends at the first position outside 0 to 11 (R53). -/
def writePass (up : Bool) : List PointRec → Nat → CalList → Written
  | [], _, l => ⟨l, 0⟩
  | p :: rest, pos, l =>
    if h : pos < 12 then
      let here := l.set pos (PointRec.point p) h
      let more := if up then writePass up rest (pos + 1) here
        else match pos with
          | 0 => ⟨here, 0⟩
          | below + 1 => writePass up rest below here
      ⟨more.list, more.count + 1⟩
    else ⟨l, 0⟩

/-- The first position, from `pos` on, whose focus code is not greater than that of the nearest point before it (R54). -/
def firstOffender : List (Option CalPoint) → Nat → Option Nat → Option Nat
  | [], _, _ => none
  | none :: rest, pos, before => firstOffender rest (pos + 1) before
  | some p :: rest, pos, none => firstOffender rest (pos + 1) (some p.focus)
  | some p :: rest, pos, some f => if p.focus ≤ f then some pos else firstOffender rest (pos + 1) (some p.focus)

/-- The order check of R54. -/
def orderCheck (l : CalList) : Option Nat := firstOffender l.toList 0 none

/-- The result and reply of a run after its checks, and the list it would leave (R53, R54). -/
structure RunOutcome where
  list : CalList
  result : Result
  payload : List Byte
  deriving DecidableEq, Repr

/-- CAL_RUN's reply payload: written count and offending item, 0xFF where there is none (R197). -/
def runBytes (written : Nat) (offending : Option Nat) : List Byte :=
  [u8 written, match offending with
    | none => 0xFF
    | some k => u8 k]

/-- The write pass and the order check on the list as it stands (R53, R54). -/
def runOutcome (l : CalList) (start : Nat) (up : Bool) (points : List PointRec) : RunOutcome :=
  let w := writePass up points start l
  match orderCheck w.list with
  | some p => ⟨l, .badValue, runBytes w.count (some p)⟩
  | none => ⟨w.list, if w.count = points.length then .ok else .partialDone, runBytes w.count none⟩

/-- A calibration list replaced. -/
def State.setCal (i : Src) (l : CalList) (s : State) : State :=
  { s with gu := { s.gu with cal := s.gu.cal.set i l } }

/-- The index of the first bad point record (check 5 of R52). -/
def firstBadPoint (points : List PointRec) : Option Nat := points.findIdx? PointRec.bad

/-- Checks 2 to 6 of R52 for a source; with QUERY_ONLY the list stays as it was (R55). -/
def State.calRunOn (i : Src) (start dir count : Byte) (points : List PointRec) (queryOnly : Bool) (s : State) : Answer :=
  if 11 < start.toNat then s.refuse .badValue (runBytes 0 none)
  else if dir ≠ 0x01 ∧ dir ≠ 0xFF then s.refuse .badValue (runBytes 0 none)
  else if 12 < count.toNat then s.refuse .badValue (runBytes 0 none)
  else match firstBadPoint points with
    | some k => s.refuse .badValue (runBytes 0 (some k))
    | none =>
      let out := runOutcome (s.gu.cal.get i) start.toNat (decide (dir = 0x01)) points
      ⟨if queryOnly then s else s.setCal i out.list, out.result, out.payload⟩

/-- CAL_RUN (R52), with or without QUERY_ONLY (R55). -/
def State.calRun (src start dir count : Byte) (points : List PointRec) (queryOnly : Bool) (s : State) : Answer :=
  match byteSource src with
  | none => s.refuse .badValue (runBytes 0 none)
  | some i => s.calRunOn i start dir count points queryOnly

/-- A position as a point record: an empty one has focus code 0xFFFF and offsets 0 (R57). -/
def positionBytes : Option CalPoint → List Byte
  | none => be16 emptyCode ++ be16 0 ++ be16 0
  | some p => u16 p.focus ++ i16 p.ox ++ i16 p.oy

/-- CAL_READ (R57). -/
def State.calRead (src : Byte) (s : State) : Answer :=
  match byteSource src with
  | none => s.refuse .badValue []
  | some i => ⟨s, .ok, (s.gu.cal.get i).toList.flatMap positionBytes⟩

end Sys2Proof.Machine
end

