-- ==== Sys2Proof/Machine/Clock.lean ====
section
/-! DEFINITION. The clock and reset unit, the notice requests and the control link's own requests: resets, lock,
identification, link test, NOTICE_TAKE, NOTICE_SETUP, NOP, SUSPEND and RESUME (R177 to R195, R199). -/

namespace Sys2Proof.Machine

/-! Resets and lock (R190 to R192) -/

/-- The reference frequency of the two clock straps, STRAP_CLK1 the high bit (R191). -/
def refClkOf (clk1 clk0 : Bool) : RefClk :=
  match clk1, clk0 with
  | false, false => .mhz19
  | false, true => .mhz24
  | true, false => .mhz26
  | true, true => .mhz38

/-- The straps sampled from the levels of the four pins (R191). -/
def strapsOf (link attn clk1 clk0 : Bool) : Straps :=
  { linkMode := if link then .mode3 else .mode0
    attnMode := if attn then .pulse else .level
    refClk := refClkOf clk1 clk0 }

/-- The release of the reset pin: the straps are sampled and locking begins (R190, R191). A release with no pin held, or
of an assertion too short to be a hard reset, changes nothing (R190, log 26). -/
def State.release (x : Straps) (s : State) : State :=
  if s.cru.resetHeld then { s with cru := { s.cru with resetHeld := false, straps := x } } else s

/-- READY is posted and the part state becomes CONFIG (R175, R192). -/
def State.postReady (kind : ResetKind) (s : State) : State :=
  let posted := s.post none (.ready kind s.cru.straps s.cru.time)
  { posted with link := { posted.link with part := .config } }

/-- Lock is reached: the time base counts from 0, and READY (HARD) is posted (R190). It is reached only with the pin
released, and stays until the next hard reset. -/
def State.reachLock (s : State) : State :=
  if s.cru.resetHeld = false ∧ s.cru.lock = .locking then
    ({ s with cru := { s.cru with lock := .locked } }).postReady .hard
  else s

/-- The RESET span of a link reset ends: READY (LINK) is posted (R192). -/
def State.endLinkReset (s : State) : State :=
  if s.link.part = .reset ∧ s.cru.lock = .locked then
    ({ s with cru := { s.cru with linkResetAt := none } }).postReady .link
  else s

/-- The pulse of the attention line ends (R187). -/
def State.endPulse (s : State) : State :=
  match s.nq.pulse with
  | none => s
  | some t =>
    let later := s.waitTimer t
    { later with nq := { later.nq with attn := false, pulse := none } }

/-- HARD_RESET (R190): every block at its hard reset value, until the pin is released. -/
def execHardReset (s : State) : Host.Outcome State Fault Refusal := .next s.hardReset

/-- RESET_RELEASE (R191). -/
def execResetRelease (link attn clk1 clk0 : Bool) (s : State) : Host.Outcome State Fault Refusal :=
  .next (s.release (strapsOf link attn clk1 clk0))

/-- CLOCK_LOCK (R190). -/
def execClockLock (s : State) : Host.Outcome State Fault Refusal := .next s.reachLock

/-- LINK_RESET_END (R192). -/
def execLinkResetEnd (s : State) : Host.Outcome State Fault Refusal := .next s.endLinkReset

/-- ATTN_PULSE_END (R187, log 2). -/
def execAttnPulseEnd (s : State) : Host.Outcome State Fault Refusal := .next s.endPulse

/-! Identification (R193, R199) -/

/-- The identification record, 17 bytes (R199). -/
def Straps.identBytes (x : Straps) : List Byte :=
  be16 Config.partCode ++ [Config.revision, x.linkMode.code, x.attnMode.code, x.refClk.code, 4, 4, 12, 4, 26, 2] ++
    u16 4096 ++ u16 3840 ++ [32]

/-- IDENT (R193). -/
def State.ident (s : State) : Answer := ⟨s, .ok, s.cru.straps.identBytes⟩

/-! Link test (R194) -/

/-- The code of a source at the request (R194). -/
def Source.testCode (x : Source) : TestCode := if x.defined = true ∧ x.state = .parked then .pending else .notTested

/-- One source's share of a LINK_TEST: a defined PARKED source is woken with purpose TEST (R194). -/
def State.beginTest (i : Src) (s : State) : State :=
  match (s.source i).testCode with
  | .pending => s.wake .test i
  | .pass => s
  | .noSync => s
  | .badFrames => s
  | .notTested => s

/-- The test record created at the request (R194). -/
def State.testRecord (s : State) : TestRecord := ⟨s.cru.time, s.sources.map Source.testCode⟩

/-- LINK_TEST (R194); with no source pending it ends in the same change. -/
def State.linkTest (s : State) : Answer :=
  if s.cru.test.isSome = true then s.refuse .wrongState []
  else ⟨((((s.beginTest .s0).beginTest .s1).beginTest .s2).beginTest .s3).settleTest s.testRecord, .accepted, []⟩

/-- RESET_PART: the reply OK is formed and nothing changes; the link reset follows at its delivery (R179). -/
def State.resetPart (s : State) : Answer := ⟨s, .ok, []⟩

/-! NOP, SUSPEND, RESUME (R177, R178, R181) -/

/-- The reply of NOP, 7 bytes (R181, R197). -/
def State.nopBytes (s : State) : List Byte :=
  [s.link.part.code, s.cp.sub.code, flag s.cru.test.isSome] ++ be32 s.cru.time

/-- NOP (R181). -/
def State.nop (s : State) : Answer := ⟨s, .ok, s.nopBytes⟩

/-- Every source that is not PARKED is parked, S0 first (R177, log 14). -/
def State.parkAll (s : State) : State := (((s.park .s0).park .s1).park .s2).park .s3

/-- The change of a SUSPEND that is taken (R177): the discarded compose ends without a compose complete. DESIGN CHOICE (log
33): a video transmission that OUTPUT_STOP left in progress runs to its end (R139, R149). -/
def State.suspendPart (s : State) : State :=
  let parked := s.parkAll
  { parked with
    cp := { parked.cp with compose := none }
    link := { parked.link with part := .suspended } }

/-- SUSPEND after the acceptance table (R177). -/
def State.suspend (s : State) : Answer :=
  if s.cc.still.isSome = true then s.refuse .stillActive []
  else if s.cru.test.isSome = true then s.refuse .wrongState []
  else ⟨s.suspendPart, .ok, []⟩

/-- RESUME after the acceptance table (R178). -/
def State.resume (s : State) : Answer := ⟨{ s with link := { s.link with part := .config } }, .ok, []⟩

/-! NOTICE_TAKE, NOTICE_SETUP (R188, R189) -/

/-- The reply of NOTICE_TAKE: the head entry and the number of entries left, or NONE (R188, R200). -/
def NoticeQueue.headBytes (q : NoticeQueue) : List Byte :=
  match q.entries with
  | [] => noNoticeBytes
  | e :: rest => e.bytes rest.length

/-- NOTICE_TAKE (R188). -/
def State.noticeTake (s : State) : Answer :=
  ⟨{ s with nq := s.nq.takeHead s.cru.straps.attnMode }, .ok, s.nq.headBytes⟩

/-- The lowest-numbered kind of a set (R189). -/
def KindSet.first (set : KindSet) : Option Nat := ((List.range 14).find? fun k => set.getLsbD k).map Nat.succ

/-- The kinds named in both of two opposite sets (R189). -/
def conflictSet (mask unmask urgent routine : KindSet) : KindSet := (mask &&& unmask) ||| (urgent &&& routine)

/-- The masked set and the urgent set, a fixed-urgent kind showing as unmasked and urgent (R189, R197). -/
def NoticeQueue.setupBytes (q : NoticeQueue) : List Byte :=
  be16 (q.masked &&& ~~~KindSet.fixed) ++ be16 (q.urgent ||| KindSet.fixed)

/-- NOTICE_SETUP (R189). -/
def State.noticeSetup (mask unmask urgent routine : KindSet) (s : State) : Answer :=
  match (conflictSet mask unmask urgent routine).first with
  | some k => s.refuse .badValue [u8 k]
  | none =>
    ⟨{ s with nq := s.nq.setup mask unmask urgent routine }, .ok, (s.nq.setup mask unmask urgent routine).setupBytes⟩

end Sys2Proof.Machine
end

