-- ==== Sys2Proof/Machine/Colour.lean ====
section
/-! DEFINITION. Colour and exposure matching: raw ratios, gains, convergence, the blend's weights and gains, and the
gain and blend of every pixel (R99, R118 to R128). -/

namespace Sys2Proof.Machine

/-- `g` moved toward `t` by trunc((t − g) × num ÷ den): the quotient is truncated toward zero (R99, R121). -/
def towards (g t num den : Nat) : Nat := if g ≤ t then g + (t - g) * num / den else g - (g - t) * num / den

/-- The distance |a − b|. -/
def distance (a b : Nat) : Nat := (a - b) + (b - a)

/-- floor(mean_o × 1024 ÷ mean_n), for mean_n at least 1 (R120). -/
def ratioQuotient (meanO meanN : Nat) : Nat := meanO * 1024 / meanN

/-- The raw ratio of a channel, clamped to 512 to 2048 (R120). -/
def rawRatio (meanO meanN : Nat) : Nat :=
  if meanN = 0 then 2048 else clamp (ratioQuotient meanO meanN) 512 2048

/-- Whether a channel's raw ratio counts as a clamp (R120). -/
def ratioClamped (meanO meanN : Nat) : Bool :=
  decide (meanN = 0 ∨ ratioQuotient meanO meanN < 512 ∨ 2048 < ratioQuotient meanO meanN)

/-- The gain's move: a quarter of the way to the raw ratio, truncated toward zero (R121). -/
def gainMove (gain raw : Nat) : Nat := towards gain raw 1 4

/-- Whether any channel of a pair of means is clamped (R120). -/
def anyClamped (o n : Triple) : Bool := ratioClamped o.r n.r || ratioClamped o.g n.g || ratioClamped o.b n.b

/-- The three gains after an update (R121). -/
def Gains.update (x : Gains) (o n : Triple) : Gains :=
  ⟨gainMove x.r (rawRatio o.r n.r), gainMove x.g (rawRatio o.g n.g), gainMove x.b (rawRatio o.b n.b)⟩

/-- Whether every channel stands within the tolerance of its raw ratio (R122). -/
def Gains.close (x : Gains) (o n : Triple) (tolerance : Nat) : Bool :=
  decide (distance (rawRatio o.r n.r) x.r ≤ tolerance ∧ distance (rawRatio o.g n.g) x.g ≤ tolerance ∧
    distance (rawRatio o.b n.b) x.b ≤ tolerance)

/-- Steps 1 to 5 of a match update, from the means and start times of the pair (R123). -/
def Transition.matchUpdate (r : Transition) (o n : Triple) (startO startN : Time) (tolerance : Nat) : Transition :=
  { r with
    gains := r.gains.update o n
    run := if (r.gains.update o n).close o n tolerance then min (r.run + 1) 15 else 0
    limited := r.limited || anyClamped o n
    lastPair := some (startO, startN) }

/-! The blend (R99) -/

/-- The incoming weight at the record's blend index (R99). -/
def Transition.weight (r : Transition) : Nat := 256 * r.index / (r.n + 1)

/-- The incoming gains at the record's blend index: the record's gains walked back to 1024 (R99). -/
def Transition.blendGains (r : Transition) : Gains :=
  ⟨towards r.gains.r 1024 r.index (r.n + 1), towards r.gains.g 1024 r.index (r.n + 1),
   towards r.gains.b 1024 r.index (r.n + 1)⟩

/-! Gain and blend in the compositor (R126, R127) -/

/-- The gained value of a participant on one channel (R126). -/
def gained (v gain : Nat) : Nat := min ((v * gain + 512) / 1024) 1023

/-- The output component of an outgoing value `a` and an incoming value `b` at incoming weight `w` (R127). -/
def blended (a b w : Nat) : Nat := (a * (256 - w) + b * w + 128) / 256

end Sys2Proof.Machine
end

