-- ==== Sys2Proof/Machine/Zoom.lean ====
section
/-! DEFINITION. The zoom ladder, the zoom state and the first three stages of a zoom step; LADDER_SET, ZOOM_SET,
PIN_SOURCE and ZOOM_QUERY (R69 to R86, R117). -/

namespace Sys2Proof.Machine

/-! The ladder (R69, R70, R88) -/

/-- The rung number of a source (R88). -/
def rungOf (l : Ladder) (i : Src) : Option Nat := l.findIdx? fun r => decide (r.source = i)

/-- Zmin: the base zoom of the source of rung 0 (R69). -/
def State.zmin (s : State) (l : Ladder) : Nat :=
  match l.head? with
  | none => 0
  | some r => (s.source r.source).base

/-- Zmax: the zoom cap of the source of the highest rung (R69). -/
def State.zmax (s : State) (l : Ladder) : Nat :=
  match l.getLast? with
  | none => 0
  | some r => (s.source r.source).zcap

/-- Checks 5 to 9 of R70 on a rung whose lower neighbour is described by `a`, its own source by `b`. -/
def failedPointCheck (a b : Source) (r : RungRec) : Option Nat :=
  if ¬ a.base < b.base then some 5
  else if ¬ a.zcap ≤ b.zcap then some 6
  else if ¬ (b.base < r.d.toNat ∧ r.d.toNat < r.u.toNat ∧ r.u.toNat ≤ a.zcap) then some 7
  else if ¬ (a.base ≤ r.wu.toNat ∧ r.wu.toNat ≤ r.u.toNat) then some 8
  else if ¬ (r.d.toNat ≤ r.wd.toNat ∧ r.wd.toNat ≤ b.zcap) then some 9
  else none

/-- The rung a record gives, above the rungs already checked; the points of rung 0 are neither checked nor kept
(R70, R71). On failure, the number of the first check that fails. -/
def State.checkRung (s : State) (lower : Ladder) (r : RungRec) : Except Nat Rung :=
  match byteSource r.source with
  | none => .error 2
  | some i =>
    if lower.any (fun q => decide (q.source = i)) then .error 3
    else if (s.source i).defined = false then .error 4
    else match lower.getLast? with
      | none => .ok ⟨i, 0, 0, 0, 0⟩
      | some below =>
        match failedPointCheck (s.source below.source) (s.source i) r with
        | some k => .error k
        | none => .ok ⟨i, r.wu.toNat, r.u.toNat, r.d.toNat, r.wd.toNat⟩

/-- The rungs in order; on failure the rung and the check that failed first (R70). -/
def State.checkRungs (s : State) : List RungRec → Ladder → Except (Nat × Nat) Ladder
  | [], lower => .ok lower
  | r :: rest, lower =>
    match s.checkRung lower r with
    | .error k => .error (lower.length, k)
    | .ok rung => s.checkRungs rest (lower ++ [rung])

/-- The change of a LADDER_SET that is taken (R71). -/
def State.takeLadder (l : Ladder) (s : State) : State :=
  { s with zc := { s.zc with
      ladder := some l, target := clamp s.zc.target (s.zmin l) (s.zmax l),
      shown := clamp s.zc.target (s.zmin l) (s.zmax l), pinned := false } }

/-- The reply of a ladder that passes: T, Zmin and Zmax (R71, R72). -/
def State.ladderBytes (s : State) (l : Ladder) : List Byte :=
  u16 (clamp s.zc.target (s.zmin l) (s.zmax l)) ++ u16 (s.zmin l) ++ u16 (s.zmax l)

/-- LADDER_SET (R71), with or without QUERY_ONLY (R72); check 1 names no rung. -/
def State.ladderSet (count : Byte) (rungs : List RungRec) (queryOnly : Bool) (s : State) : Answer :=
  if count.toNat < 1 ∨ 4 < count.toNat then s.refuse .badValue [0xFF, 1]
  else match s.checkRungs rungs [] with
    | .error (k, c) => s.refuse .badValue [u8 k, u8 c]
    | .ok l => ⟨if queryOnly then s else s.takeLadder l, .ok, s.ladderBytes l⟩

/-! The zoom state (R73 to R75) -/

/-- T as ZOOM_SET stores it: clamped while a ladder exists (R75). -/
def State.storedTarget (s : State) (t : Nat) : Nat :=
  match s.zc.ladder with
  | none => t
  | some l => clamp t (s.zmin l) (s.zmax l)

/-- Z after ZOOM_SET: in CONFIG with a ladder it becomes the stored T (R75). -/
def State.zoomSetShown (s : State) (t : Nat) : Nat :=
  if s.link.part = .config ∧ s.zc.ladder.isSome = true then s.storedTarget t else s.zc.shown

/-- ZOOM_SET (R75). -/
def State.zoomSet (target rate : Half) (s : State) : Answer :=
  if target = 0 then s.refuse .badValue []
  else
    ⟨{ s with zc := { s.zc with
        target := s.storedTarget target.toNat, shown := s.zoomSetShown target.toNat, rate := rate.toNat } },
      .ok, u16 (s.storedTarget target.toNat) ++ be16 rate⟩

/-! The zoom controller's view of the roles -/

/-- The PRIMARY source, or none (R3). -/
def State.primary (s : State) : Option Src := Src.all.find? fun i => decide ((s.source i).state = .primary)

/-- The first source with a pending report that has the role of the primary and passes a test (R12, log 13). -/
def State.lostPrimary (s : State) (test : Report → Bool) : Option Src :=
  Src.all.find? fun i => (s.zc.reports.get i).any fun x => decide (x.role = .primary) && test x

/-- The primary as the zoom controller knows it: until it takes the report, a primary that faulted (R15, R146, log 13). -/
def State.knownPrimary (s : State) : Option Src :=
  match s.primary with
  | some p => some p
  | none => s.lostPrimary fun _ => true

/-- The primary of the wake points and triggers: not a source the zoom controller was told a role change found in FAULT, so
that no primary stands until the report (R81, R90, R110, log 12). -/
def State.steadyPrimary (s : State) : Option Src :=
  match s.primary with
  | some p => some p
  | none => s.lostPrimary fun x => x.spoiled.isNone

/-! PIN_SOURCE (R83, R84) -/

/-- The pin flag replaced. -/
def State.setPinned (on : Bool) (s : State) : State := { s with zc := { s.zc with pinned := on } }

/-- PIN_SOURCE (on) in RUNNING: a record in ARMED or MATCHING is removed as at a disarm; one in BLENDING runs on and the
reply is "after blend" (R83). DESIGN CHOICE (log 13): while the primary's fault report is pending and no source is PRIMARY, the
reply names the source the zoom controller still knows as primary. -/
def State.pinRunning (s : State) : Answer :=
  match s.zc.record with
  | none => ⟨s.setPinned true, .ok, [sourceByte s.knownPrimary]⟩
  | some r =>
    if r.phase = .blending then ⟨s.setPinned true, .ok, [0xFE]⟩
    else ⟨(if s.zc.pinned then s else s.removeRecord).setPinned true, .ok, [sourceByte s.knownPrimary]⟩

/-- PIN_SOURCE (on) (R83). -/
def State.pinOn (s : State) : Answer :=
  if s.link.part = .streaming ∧ s.cp.sub = .running then s.pinRunning else s.refuse .wrongState []

/-- PIN_SOURCE (off) (R84). -/
def State.pinOff (s : State) : Answer := ⟨s.setPinned false, .ok, [0xFF]⟩

/-! The zoom step, stages 1 to 3 (R76 to R81) -/

/-- The pair of a blend, lower rung first (R77, R88). -/
def Transition.pair (r : Transition) : Src × Src :=
  match r.kind with
  | .up => (r.giver, r.taker)
  | .down => (r.taker, r.giver)
  | .rescue => (r.giver, r.taker)

/-- The bounds of one source: its base zoom to its zoom cap (R77). -/
def State.rangeOf (s : State) (p : Src) : Bounds := ⟨(s.source p).base, (s.source p).zcap, .one p⟩

/-- The bounds of a blend: from the base zoom of its upper member to the zoom cap of its lower (R77). -/
def State.pairRange (s : State) (r : Transition) : Bounds :=
  ⟨(s.source r.pair.2).base, (s.source r.pair.1).zcap, .pair r.pair.1 r.pair.2⟩

/-- The bounds of a zoom step (R77); none where the step takes no bounds. -/
def State.stepBounds (s : State) : Option Bounds :=
  match s.cp.sub, s.zc.record with
  | .running, none => s.knownPrimary.map s.rangeOf
  | .running, some r => if r.phase = .blending then some (s.pairRange r) else s.knownPrimary.map s.rangeOf
  | .starting, none => s.cp.pendingPrimary.map s.rangeOf
  | .starting, some r => some (s.rangeOf r.taker)
  | .frozen, none => none
  | .frozen, some r => some (s.rangeOf r.taker)
  | .none, _ => none

/-- One step of Z toward `desired` at a rate in 1/65536 of Z (R78). -/
def zoomMove (z rate desired : Nat) : Nat :=
  if rate = 0 then desired
  else if z < desired then min (z + max 1 (z * rate / 65536)) desired
  else if desired < z then max (z - max 1 (z * rate / 65536)) desired
  else z

/-- Whether Z stands at the edge of the bounds with T beyond it (R79). -/
def heldAt (t z : Nat) (b : Bounds) : Bool := decide ((t < b.lo ∧ z = b.lo) ∨ (b.hi < t ∧ z = b.hi))

/-- The side of ZOOM_HELD: none when held became no (R86). -/
def heldSide (held : Bool) (t : Nat) (b : Bounds) : HeldSide :=
  if held then (if t < b.lo then .lower else .upper) else .none

/-- held set by a step; a change posts ZOOM_HELD (R79, R86). DESIGN CHOICE (log 36): it carries the Z of stage 1, also where
stage 4 of the same step completes a rescue and clamps Z (R108). -/
def State.setHeld (b : Bounds) (s : State) : State :=
  let now := heldAt s.zc.target s.zc.shown b
  if now = s.zc.held then s
  else ({ s with zc := { s.zc with held := now } }).post none
    (.zoomHeld now (heldSide now s.zc.target b) s.zc.target s.zc.shown (some b.who) s.cru.time)

/-- Stages 1 and 2 within these bounds (R77 to R79). -/
def State.moveZoom (b : Bounds) (s : State) : State :=
  ({ s with zc := { s.zc with
      bounds := some b, shown := zoomMove s.zc.shown s.zc.rate (clamp s.zc.target b.lo b.hi) } }).setHeld b

/-- Stages 1 and 2: a step with no bounds leaves Z and held as they stand (R77, R79). -/
def State.zoomStages (s : State) : State :=
  match s.stepBounds with
  | none => { s with zc := { s.zc with bounds := none } }
  | some b => s.moveZoom b

/-- Whether stage 3 and the triggers apply: RUNNING, no record, no pin (R81, R89). -/
def State.handoffFree (s : State) : Bool :=
  decide (s.cp.sub = .running ∧ s.zc.record = none ∧ s.zc.pinned = false)

/-- The wake of the rung above: Z ≥ Wu_{k+1} (R81). -/
def State.wakeUpper (l : Ladder) (k : Nat) (s : State) : State :=
  match l[k + 1]? with
  | none => s
  | some r => if r.wu ≤ s.zc.shown then s.wake .normal r.source else s

/-- The wake of the rung below: Z < Wd_k (R81). -/
def State.wakeLower (l : Ladder) (k : Nat) (s : State) : State :=
  match k, l[k]? with
  | below + 1, some r =>
    if s.zc.shown < r.wd then
      match l[below]? with
      | none => s
      | some q => s.wake .normal q.source
    else s
  | _, _ => s

/-- The ladder with the rung of the primary that wake points and triggers start from. -/
def State.primaryRung (s : State) : Option (Ladder × Nat × Src) :=
  match s.zc.ladder, s.steadyPrimary with
  | some l, some p => (rungOf l p).map fun k => (l, k, p)
  | _, _ => none

/-- Stage 3: the wake points (R81). DESIGN CHOICE (log 14): where both neighbours are woken, the upper one's SOURCE_STATE is
posted first. -/
def State.wakePoints (s : State) : State :=
  if s.handoffFree = true then
    match s.primaryRung with
    | none => s
    | some (l, k, _) => (s.wakeUpper l k).wakeLower l k
  else s

/-! ZOOM_QUERY (R85, R117, R198) -/

/-- The sources of the present picture, the primary or outgoing first (R85, R111, log 18). -/
def State.participants (s : State) : List Src :=
  match s.cp.sub, s.zc.record with
  | .running, some r => if r.phase = .blending then [r.giver, r.taker] else s.knownPrimary.toList
  | .running, none => s.knownPrimary.toList
  | .none, _ => []
  | .starting, _ => []
  | .frozen, _ => []

/-- A rung record of the reply (R198). -/
def rungBytes : Option Rung → List Byte
  | none => 0xFF :: (u16 0 ++ u16 0 ++ u16 0 ++ u16 0)
  | some r => sourceByte (some r.source) :: (u16 r.wu ++ u16 r.u ++ u16 r.d ++ u16 r.wd)

/-- The ladder item: present, Zmin, Zmax, rung count and four rung records (R85, R198). -/
def State.ladderItem (s : State) : List Byte :=
  match s.zc.ladder with
  | none => 0 :: (u16 0 ++ u16 0 ++ [0] ++ rungBytes none ++ rungBytes none ++ rungBytes none ++ rungBytes none)
  | some l => 1 :: (u16 (s.zmin l) ++ u16 (s.zmax l) ++ [u8 l.length] ++ rungBytes l[0]? ++ rungBytes l[1]? ++
      rungBytes l[2]? ++ rungBytes l[3]?)

/-- The bounding source: the pending primary or the rescue target (R85). -/
def State.boundingSource (s : State) : Option Src :=
  match s.zc.record with
  | none => s.cp.pendingPrimary
  | some r => if r.kind = .rescue then some r.taker else none

/-- The bounds item: none outside STREAMING (R85). -/
def State.boundsItem (s : State) : List Byte :=
  match s.zc.bounds with
  | none => 0 :: (u16 0 ++ u16 0)
  | some b => if s.link.part = .streaming then 1 :: (u16 b.lo ++ u16 b.hi) else 0 :: (u16 0 ++ u16 0)

/-- w and the incoming gains of the latest index advance, reported in BLENDING (R117). -/
def Transition.blendBytes (r : Transition) : List Byte :=
  if r.phase = .blending then u16 r.weight ++ r.blendGains.bytes else u16 0 ++ u16 0 ++ u16 0 ++ u16 0

/-- The transition record item (R117, R198). DESIGN CHOICE (log 30): with no record, from and to are sent as sources named as
none, 0xFF, and every other field as 0. -/
def recordItem : Option Transition → List Byte
  | none => [0, 0, 0xFF, 0xFF, 0, 0, 0] ++ u16 0 ++ u16 0 ++ u16 0 ++ [0, 0, 0, 0] ++ u16 0 ++ u16 0 ++ u16 0 ++ u16 0
  | some r =>
    [1, r.kind.code, sourceByte (some r.giver), sourceByte (some r.taker), r.phase.code, u8 r.n, u8 r.index] ++
      r.gains.bytes ++ [u8 r.run, u8 r.ticks, flag r.limited, flag r.retargeted] ++ r.blendBytes

/-- The window fields of an entry; an absent record is sent as 0 (R198). -/
def windowFields : Option ComposeWindow → List Byte
  | none => u16 0 ++ u16 0 ++ u16 0 ++ u16 0 ++ [0, 0] ++ u16 0 ++ u16 0 ++ u16 0
  | some w => u16 w.rect.x0 ++ u16 w.rect.y0 ++ u16 w.rect.cw ++ u16 w.rect.ch ++ [flag w.short, flag w.edge] ++
      u16 w.stretch ++ u16 w.zoom ++ u16 w.focus

/-- A compose window entry (R198). -/
def State.windowEntry (s : State) : Option Src → List Byte
  | none => sourceByte none :: windowFields none
  | some i => sourceByte (some i) :: windowFields (s.gu.windows.get i)

/-- The reply payload of ZOOM_QUERY, 117 bytes (R85, R198). -/
def State.zoomBytes (s : State) : List Byte :=
  u16 s.zc.target ++ u16 s.zc.shown ++ u16 s.zc.rate ++ [flag s.zc.held, flag s.zc.pinned] ++ s.ladderItem ++
    [s.cp.sub.code, sourceByte s.primary, sourceByte s.boundingSource] ++ s.boundsItem ++ recordItem s.zc.record ++
    s.windowEntry s.participants[0]? ++ s.windowEntry s.participants[1]?

/-- ZOOM_QUERY (R85). -/
def State.zoomQuery (s : State) : Answer := ⟨s, .ok, s.zoomBytes⟩

end Sys2Proof.Machine
end

