-- ==== Sys2Proof/Machine/Handoff.lean ====
section
/-! DEFINITION. Hand-off: stage 4 of a zoom step, and the handling of fault reports with rescue (R87 to R117, R123). -/

namespace Sys2Proof.Machine

/-! Records and reports -/

/-- A record as it is created (R91, R106). -/
def Transition.fresh (kind : RecKind) (giver taker : Src) (n : Nat) : Transition :=
  { kind := kind, giver := giver, taker := taker, phase := .armed, n := n, index := 0, gains := .unit, run := 0,
    ticks := 0, limited := false, lastPair := none, retargeted := false }

/-- HANDOFF_DONE for a record, with the time of the change (R113). -/
def State.postDone (r : Transition) (mode : HandMode) (time : Time) (s : State) : State :=
  s.post none (.handoffDone r.kind r.giver r.taker mode r.limited r.n r.gains time)

/-- HANDOFF_ABORTED for a record, with the time of its removal (R114). -/
def State.postAborted (r : Transition) (cause : AbortCause) (time : Time) (s : State) : State :=
  s.post none (.handoffAborted r.kind r.giver r.taker r.phase r.index cause time)

/-- MATCH_LIMITED for a record (R116). -/
def State.postLimited (r : Transition) (cause : LimitCause) (s : State) : State :=
  s.post none (.matchLimited cause r.giver r.taker r.gains r.run r.ticks s.cru.time)

/-- OUTPUT_FROZEN (R115). -/
def State.postFrozen (faulted : Src) (target : Option Src) (s : State) : State :=
  s.post none (.outputFrozen faulted target s.zc.target s.zc.shown s.cru.time)

/-- The output sub-state replaced. -/
def State.setSub (x : OutSub) (s : State) : State := { s with cp := { s.cp with sub := x } }

/-- The shown zoom replaced. -/
def State.setShown (z : Nat) (s : State) : State := { s with zc := { s.zc with shown := z } }

/-! Triggers (R90, R91) -/

/-- A trigger target: a source of the ladder that is not in FAULT (R90). -/
def State.triggerTarget (s : State) (i : Src) : Option Src :=
  if (s.source i).state = .fault then none else some i

/-- The UP trigger's target, at rung k: Z ≥ U_{k+1} (R90). -/
def State.upTarget (s : State) (l : Ladder) (k : Nat) : Option Src :=
  match l[k + 1]? with
  | none => none
  | some r => if r.u ≤ s.zc.shown then s.triggerTarget r.source else none

/-- The DOWN trigger's target, at rung k: Z < D_k (R90). -/
def State.downTarget (s : State) (l : Ladder) (k : Nat) : Option Src :=
  match k, l[k]? with
  | below + 1, some r =>
    if s.zc.shown < r.d then
      match l[below]? with
      | none => none
      | some q => s.triggerTarget q.source
    else none
  | _, _ => none

/-- The record the triggers create, UP considered first (R90, R91). -/
def State.trigger (s : State) : Option Transition :=
  match s.primaryRung with
  | none => none
  | some (l, k, p) =>
    match s.upTarget l k, s.downTarget l k with
    | some t, _ => some (.fresh .up p t s.cp.settings.n)
    | none, some t => some (.fresh .down p t s.cp.settings.n)
    | none, none => none

/-! Passing the picture (R97, R98, R100, R110) -/

/-- The two role changes of a cut or a completion: the giver becomes WARM and the taker PRIMARY (R11). -/
def State.passRoles (r : Transition) (s : State) : State := (s.setRole r.giver .warm).setRole r.taker .primary

/-- The picture passes and the record is removed. HANDOFF_DONE is posted unless the change was spoiled by a source found
in FAULT, which the report of that source's fault then settles (R110); with both found in FAULT the taker's report does
(log 35). -/
def State.passPicture (r : Transition) (change : SpoiledChange) (mode : HandMode) (s : State) : State :=
  let passed := s.removeRecord.passRoles r
  if s.lost r.taker then passed.spoil r.taker ⟨change, r, s.cru.time⟩
  else if s.lost r.giver then passed.spoil r.giver ⟨change, r, s.cru.time⟩
  else passed.postDone r mode s.cru.time

/-- The cut of a record with N = 0 (R97). -/
def State.takeCut (r : Transition) (s : State) : State := s.passPicture r .cut .cut

/-- The blend completion (R100). -/
def State.completeBlend (r : Transition) (s : State) : State := s.passPicture r .completion .blend

/-- The index advance of R99: the weight and gains follow from the index. -/
def State.advanceBlend (r : Transition) (s : State) : State := s.setRecord (some { r with index := r.index + 1 })

/-- The blend start, with its first index advance (R98). -/
def State.startBlend (r : Transition) (s : State) : State :=
  ((s.setRole r.giver .outgoing).setRole r.taker .incoming).advanceBlend { r with phase := .blending, index := 0 }

/-! ARMED (R92) and disarm (R94) -/

/-- The ARMED work (R92). -/
def State.armedWork (r : Transition) (s : State) : State :=
  match (s.source r.taker).state with
  | .parked => s.wake .normal r.taker
  | .warm => if r.n = 0 then s.takeCut r else s.setRecord (some { r with phase := .matching, ticks := 0, run := 0 })
  | .waking => s
  | .syncing => s
  | .primary => s
  | .outgoing => s
  | .incoming => s
  | .fault => s

/-- The rung that is the boundary of a record: the higher of its two (R88). -/
def State.boundary (s : State) (r : Transition) : Option Rung :=
  match s.zc.ladder with
  | none => none
  | some l => (rungOf l r.pair.2).bind fun k => l[k]?

/-- Whether a record in ARMED or MATCHING is disarmed: UP below D_b, DOWN at or above U_b (R94). -/
def State.disarms (s : State) (r : Transition) : Bool :=
  match s.boundary r, r.kind with
  | some b, .up => decide (s.zc.shown < b.d)
  | some b, .down => decide (b.u ≤ s.zc.shown)
  | some _, .rescue => false
  | none, _ => false

/-! MATCHING (R95, R96, R118, R123) -/

/-- A READY record's means (R28, R118). -/
def FrameRec.meansOr (r : FrameRec) : Triple := r.means.getD ⟨0, 0, 0⟩

/-- The match update of a step, when at least one side has a newer record than those of last pair (R95, R123). DESIGN CHOICE
(log 31): a side whose ring holds no READY record makes no update, its match ticks having risen all the same. -/
def State.matchUpdate (r : Transition) (s : State) : State :=
  match newestReady (s.ring r.giver), newestReady (s.ring r.taker) with
  | some o, some n =>
    if r.lastPair = some (o.start, n.start) then s.setRecord (some r)
    else
      let r' := r.matchUpdate o.meansOr n.meansOr o.start n.start s.cp.settings.tolerance
      if anyClamped o.meansOr n.meansOr then (s.setRecord (some r')).postLimited r' .ratio else s.setRecord (some r')
  | _, _ => s.setRecord (some r)

/-- Whether matching ends, decided on the values the update left; convergence comes first (R96). The record enters
BLENDING and takes its blend start in the same step (R98). -/
def State.decideMatch (r : Transition) (s : State) : State :=
  if s.cp.settings.m ≤ r.run then s.startBlend r
  else if s.cp.settings.window ≤ r.ticks then
    (s.postLimited { r with limited := true } .window).startBlend { r with limited := true }
  else s

/-- The MATCHING work of a step (R95, R96). -/
def State.matchingWork (r : Transition) (s : State) : State :=
  let updated := s.matchUpdate { r with ticks := min (r.ticks + 1) 255 }
  match updated.zc.record with
  | none => updated
  | some r' => updated.decideMatch r'

/-! Rescue (R104 to R109) -/

/-- The rung below the rung of a source (R88). -/
def State.lowerOf (s : State) (p : Src) : Option Src :=
  match s.zc.ladder with
  | none => none
  | some l =>
    match rungOf l p with
    | some (k + 1) => l[k]?.map Rung.source
    | _ => none

/-- The rung above the rung of a source (R88). -/
def State.upperOf (s : State) (p : Src) : Option Src :=
  match s.zc.ladder with
  | none => none
  | some l => (rungOf l p).bind fun k => l[k + 1]?.map Rung.source

/-- A candidate in one of the states of a test (R105, R106). -/
def State.candidate (s : State) (test : SrcState → Bool) : Option Src → Option Src
  | none => none
  | some i => if test (s.source i).state then some i else none

/-- The lower adjacent source if it passes the test, otherwise the upper (R105, R106). -/
def State.neighbour (s : State) (p : Src) (test : SrcState → Bool) : Option Src :=
  match s.candidate test (s.lowerOf p) with
  | some t => some t
  | none => s.candidate test (s.upperOf p)

/-- Whether a state is WARM. -/
def SrcState.isWarm (x : SrcState) : Bool := decide (x = .warm)

/-- Whether a state is other than FAULT. -/
def SrcState.notFault (x : SrcState) : Bool := decide (x ≠ .fault)

/-- A rescue's picture passes to a WARM source: it becomes PRIMARY, Z is clamped into its range and the output is RUNNING
(R105, R107, R108, R109). `r` says what HANDOFF_DONE carries; a target found in FAULT is settled at its report (R110), which
does not come about here, where the choice of a WARM target and the change are one. -/
def State.rescueTo (r : Transition) (s : State) : State :=
  if s.lost r.taker then s.spoil r.taker ⟨.rescue, r, s.cru.time⟩
  else
    (((s.dropPending.setSub .running).setRole r.taker .primary).setShown
      (clamp s.zc.shown (s.source r.taker).base (s.source r.taker).zcap)).postDone r .rescue s.cru.time

/-- The output freezes with no rescue target (R106, R107, R109). -/
def State.giveUp (faulted : Src) (s : State) : State := (s.dropPending.setSub .frozen).postFrozen faulted none

/-- The output freezes for a rescue target; a STARTING output stays STARTING and posts nothing (R106, R107). -/
def State.freezeFor (faulted target : Src) (s : State) : State :=
  if s.cp.sub = .starting then s.dropPending else (s.setSub .frozen).postFrozen faulted (some target)

/-- The rescue choice for a faulted primary or pending primary (R105 to R107). -/
def State.rescue (p : Src) (s : State) : State :=
  match s.neighbour p SrcState.isWarm with
  | some t => s.rescueTo (.fresh .rescue p t 0)
  | none =>
    match s.neighbour p SrcState.notFault with
    | some t => ((s.createRecord (.fresh .rescue p t s.cp.settings.n)).wake .normal t).freezeFor p t
    | none => s.giveUp p

/-- The adjacent rung of `p` that is not `tried` (R109). -/
def State.otherAdjacent (s : State) (p tried : Src) : Option Src :=
  if s.lowerOf p = some tried then s.upperOf p else s.lowerOf p

/-- The record goes on toward the other neighbour (R109). -/
def State.retarget (r : Transition) (t : Src) (s : State) : State :=
  let woken := (s.createRecord { r with taker := t, retargeted := true }).wake .normal t
  if s.cp.sub = .frozen then woken.postFrozen r.giver (some t) else woken

/-- The rescue is given up (R109). -/
def State.rescueFailed (r : Transition) (s : State) : State :=
  (s.removeRecord.postAborted r .rescueFailed s.cru.time).giveUp r.giver

/-- The other neighbour of a failed rescue target is tried once (R109). -/
def State.tryOther (r : Transition) (s : State) : State :=
  if r.retargeted then s.rescueFailed r
  else match s.otherAdjacent r.giver r.taker with
    | none => s.rescueFailed r
    | some t =>
      match (s.source t).state with
      | .warm => s.removeRecord.rescueTo { r with taker := t }
      | .parked => s.retarget r t
      | .waking => s.retarget r t
      | .syncing => s.retarget r t
      | .primary => s.rescueFailed r
      | .outgoing => s.rescueFailed r
      | .incoming => s.rescueFailed r
      | .fault => s.rescueFailed r

/-- The rescue work of a step (R108). -/
def State.rescueWork (r : Transition) (s : State) : State :=
  if (s.source r.taker).state = .warm then s.removeRecord.rescueTo r else s

/-! Stage 4 (R89) -/

/-- Stage 4 on a record that stood when it began. -/
def State.recordWork (r : Transition) (s : State) : State :=
  match r.kind, r.phase with
  | .rescue, _ => s.rescueWork r
  | _, .armed => if s.disarms r = true then s.removeRecord else s.armedWork r
  | _, .matching => if s.disarms r = true then s.removeRecord else s.matchingWork r
  | _, .blending => if r.index < r.n then s.advanceBlend r else s.completeBlend r

/-- Stage 4: the hand-off work (R89). -/
def State.handoffWork (s : State) : State :=
  match s.zc.record with
  | some r => s.recordWork r
  | none =>
    if s.handoffFree = true then
      match s.trigger with
      | none => s
      | some r => (s.createRecord r).armedWork r
    else s

/-- Stages 1 to 4 of a zoom step (R76). -/
def State.zoomStep (s : State) : State := s.zoomStages.wakePoints.handoffWork

/-! Fault reports (R15, R93, R102 to R104, R107, R109, R110) -/

/-- A fault of the target of an UP or DOWN record in ARMED or MATCHING (R93). -/
def State.targetFault (r : Transition) (s : State) : State := s.removeRecord.postAborted r .targetFault s.cru.time

/-- A fault of the INCOMING source of a blend (R102). -/
def State.incomingFault (r : Transition) (s : State) : State :=
  (s.removeRecord.setRole r.giver .primary).postAborted r .incomingFault s.cru.time

/-- A fault of the OUTGOING source of a blend (R103). -/
def State.outgoingFault (r : Transition) (s : State) : State :=
  (s.removeRecord.setRole r.taker .primary).postDone r .cut s.cru.time

/-- A fault of the PRIMARY source while the output is RUNNING (R104). -/
def State.primaryFault (p : Src) (s : State) : State :=
  match s.zc.record with
  | none => s.rescue p
  | some r => (s.removeRecord.postAborted r .primaryFault s.cru.time).rescue p

/-- A report met by a standing record (R93, R102, R103, R104, R109). -/
def State.reportOnRecord (i : Src) (role : SrcState) (r : Transition) (s : State) : State :=
  match r.kind, r.phase with
  | .rescue, _ => if r.taker = i ∧ (s.source i).state = .fault then s.tryOther r else s
  | _, .blending =>
    if r.taker = i ∧ role = .incoming then s.incomingFault r
    else if r.giver = i ∧ role = .outgoing then s.outgoingFault r
    else s
  | _, _ =>
    if r.taker = i ∧ (s.source i).state = .fault then s.targetFault r
    else if role = .primary then s.primaryFault i
    else s

/-- A report met by no record: the primary of a RUNNING output, or the pending primary of a STARTING one (R104, R107). -/
def State.reportAlone (i : Src) (role : SrcState) (s : State) : State :=
  if s.cp.sub = .running ∧ role = .primary then s.primaryFault i
  else if s.isPending i = true ∧ (s.source i).state = .fault then s.rescue i
  else s

/-- The handling of a fault in the role its source has (R93, R102 to R104, R107, R109). -/
def State.handleFault (i : Src) (role : SrcState) (s : State) : State :=
  match s.zc.record with
  | some r => s.reportOnRecord i role r
  | none => s.reportAlone i role

/-- A spoiled completion or cut whose taker was found in FAULT: the giver is made PRIMARY again, and HANDOFF_ABORTED carries
the time at which the record was removed (R110, R114). A giver that has lost its power meanwhile, with no report of it
to come, is a faulted primary the zoom controller has been told of, and is rescued (R12, R104, log 15). -/
def State.takeBack (x : Spoiled) (cause : AbortCause) (s : State) : State :=
  let back := (s.setRole x.record.giver .primary).postAborted x.record cause x.time
  if s.lost x.record.giver = true ∧ s.zc.reports.get x.record.giver = [] then back.rescue x.record.giver else back

/-- The report of a taker that a change found in FAULT (R110). -/
def State.settleTaker (x : Spoiled) (s : State) : State :=
  match x.change with
  | .rescue => s.tryOther x.record
  | .completion => s.takeBack x .incomingFault
  | .cut => s.takeBack x .targetFault

/-- A report is handled: what a change that found its source in FAULT left open (R110), otherwise the fault in its role. The
picture has passed where the source found in FAULT was the giver, and HANDOFF_DONE carries the time of that change
(R113, log 32). -/
def State.handleReport (i : Src) (x : Report) (s : State) : State :=
  match x.spoiled with
  | none => s.handleFault i x.role
  | some y =>
    if y.record.taker = i then s.settleTaker y else (s.postDone y.record .cut y.time).handleFault i x.role

/-- FAULT_REPORT: the zoom controller takes the oldest pending report of a source (R15). -/
def State.takeReport (i : Src) (s : State) : State :=
  match s.zc.reports.get i with
  | [] => s
  | x :: rest =>
    if s.link.part = .streaming then (s.setReports i rest).handleReport i x else s.setReports i rest

/-- FAULT_REPORT (R15, R102 to R110). -/
def execFaultReport (i : Src) (s : State) : Host.Outcome State Fault Refusal := .next (s.takeReport i)

end Sys2Proof.Machine
end

