-- ==== Sys2Proof/Machine/Intake.lean ====
section
/-! DEFINITION. The camera receivers: FRAME_START, METADATA_LINE, IMAGE_LINE and FRAME_END (R24 to R40, R201). -/

namespace Sys2Proof.Machine

/-- FRAME_LOSS and LINK_FAULT are not posted for a source of purpose TEST (R40). -/
def State.postReceiver (i : Src) (p : Payload) (s : State) : State :=
  match (s.source i).purpose with
  | .normal => s.post (some i) p
  | .test => s

/-- The eighth bad frame in a row, as R13 takes it. -/
def State.eighthBadFrame (i : Src) (s : State) : State :=
  if (s.source i).state.keepsFrames = true then
    match (s.source i).purpose with
    | .normal => s.faultSource .link i
    | .test => s.testEnd i .badFrames
  else s

/-- A bad frame: the run count rises, LINK_FAULT is posted, and the eighth is reported (R39). -/
def State.badFrame (i : Src) (cause : BadCause) (lines : Nat) (counter : Option Half) (s : State) : State :=
  let run := (s.receiver i).run + 1
  let posted := (s.setReceiver i { s.receiver i with run := run }).postReceiver i (.linkFault cause lines run counter)
  if Config.badFrameLimit ≤ run then posted.eighthBadFrame i else posted

/-- The FILLING record of a ring. -/
def fillingRec (ring : List FrameRec) : Option FrameRec := ring.find? fun r => !r.isReady

/-- The module frame counter of the frame in progress, or absent (R39). -/
def State.fillingCounter (s : State) (i : Src) : Option Half := (fillingRec (s.ring i)).bind FrameRec.counter

/-- The intake state replaced; outside RECEIVING the statistics unit keeps no sums (R36). -/
def State.setIntake (i : Src) (x : Intake) (s : State) : State :=
  s.setReceiver i { s.receiver i with intake := x, sums := ⟨0, 0, 0⟩ }

/-- Step 1 of R25: a frame in progress did not end and counts as CUT_OFF. -/
def State.cutOff (i : Src) (s : State) : State :=
  match (s.receiver i).intake with
  | .between => s
  | .discarding => s
  | .awaitMeta => (s.setRing i (dropFilling (s.ring i))).badFrame i .cutOff 0 (s.fillingCounter i)
  | .receiving => (s.setRing i (dropFilling (s.ring i))).badFrame i .cutOff 0 (s.fillingCounter i)

/-- A new FILLING record (R30). -/
def FrameRec.fresh (slot : Slot) (width : Nat) (start : Time) : FrameRec :=
  { slot := slot, width := width, state := .filling, start := start, counter := none, focus := none, window := none,
    means := none, heldC := false, heldS := false }

/-- Step 3 of R25 with R30: room is made, and a FILLING record on the lowest-numbered free slot joins the ring. A ring
without a free slot does not occur (R31); the frame would be discarded (log 22). -/
def State.appendFrame (i : Src) (s : State) : State :=
  match freeSlots (dropOldest (s.ring i)) with
  | [] => s.setIntake i .discarding
  | slot :: _ =>
    ((s.setRing i (dropOldest (s.ring i) ++ [FrameRec.fresh slot (s.source i).width s.cru.time])).setSlot i slot
      []).setReceiver i { s.receiver i with intake := .awaitMeta, lines := 0, sums := ⟨0, 0, 0⟩ }

/-- Steps 2 and 3 of R25. -/
def State.openFrame (i : Src) (s : State) : State :=
  if (s.source i).state.keepsFrames = true then s.appendFrame i else s.setIntake i .discarding

/-- FRAME_START (R25); while the reset pin is held the receiver stays at its reset value (R190). -/
def State.frameStart (i : Src) (s : State) : State :=
  if s.cru.resetHeld = true then s else (s.cutOff i).openFrame i

/-! The metadata line (R32 to R34, R201) -/

/-- What a metadata line with a correct marker carries: counter and focus code (R201). -/
structure MetaFields where
  counter : Half
  focus : Half
  deriving DecidableEq, Repr

/-- A two-byte field from the low 8 bits of two components (R201). -/
def lowBytes (hi lo : BitVec 10) : Half := hi.extractLsb' 0 8 ++ lo.extractLsb' 0 8

/-- The metadata marker (R201). -/
def metaMarker : Pixel := ⟨0x2A5, 0x15A, 0x3C3⟩

/-- The fields of a metadata line; none where its marker is wrong or it has fewer than three pixels (R201). -/
def readMeta : List Pixel → Option MetaFields
  | p0 :: p1 :: p2 :: _ => if p0 = metaMarker then some ⟨lowBytes p1.r p1.g, lowBytes p2.r p2.g⟩ else none
  | _ => none

/-- The missing frames a counter `c` after `p` reports, d − 1 modulo 65536 (R33). -/
def missingFrames (p c : Half) : Nat := (c - p - 1).toNat

/-- FRAME_LOSS at an accepted metadata line whose counter is not the previous one plus one (R33). -/
def State.frameLoss (i : Src) (c : Half) (s : State) : State :=
  match (s.receiver i).last with
  | none => s
  | some p => if c - p = 1 then s else s.postReceiver i (.frameLoss (missingFrames p c) p c s.cru.time)

/-- A focus code above 1023 is written as 1023 (R34). -/
def focusOf (f : Half) : Nat := min f.toNat 1023

/-- The FILLING record takes counter, focus code and statistics window (R33, R34). -/
def State.writeMeta (i : Src) (m : MetaFields) (s : State) : State :=
  s.setRing i ((s.ring i).map fun r =>
    if r.isReady then r
    else { r with counter := some m.counter, focus := some (focusOf m.focus),
                  window := some (s.statWindow i r.width (focusOf m.focus)) })

/-- An accepted metadata line (R33, R34, R36). -/
def State.acceptMeta (i : Src) (m : MetaFields) (s : State) : State :=
  let posted := s.frameLoss i m.counter
  (posted.writeMeta i m).setReceiver i
    { posted.receiver i with intake := .receiving, last := some m.counter, sums := ⟨0, 0, 0⟩ }

/-- The metadata line of a frame (R32). -/
def State.takeMeta (i : Src) (pixels : List Pixel) (s : State) : State :=
  match readMeta pixels with
  | some m => s.acceptMeta i m
  | none => ((s.setRing i (dropFilling (s.ring i))).setIntake i .discarding).badFrame i .badMarker 0 none

/-! Image lines (R35, R36) -/

/-- A line as stored: cut to the width, each missing pixel black (R35). -/
def fitLine (width : Nat) (pixels : List Pixel) : List Pixel :=
  pixels.take width ++ List.replicate (width - pixels.length) Pixel.black

/-- The components of a stretch of pixels summed (R36). -/
def sumPixels (pixels : List Pixel) : Triple :=
  pixels.foldl (fun t p => ⟨t.r + p.r.toNat, t.g + p.g.toNat, t.b + p.b.toNat⟩) ⟨0, 0, 0⟩

/-- The sum of two triples. -/
def Triple.add (a b : Triple) : Triple := ⟨a.r + b.r, a.g + b.g, a.b + b.b⟩

/-- What line number `y` adds to the sums over a window (R36). -/
def windowSum (win : Rect) (y : Nat) (line : List Pixel) : Triple :=
  if win.y0 ≤ y ∧ y < win.y0 + win.ch then sumPixels ((line.drop win.x0).take win.cw) else ⟨0, 0, 0⟩

/-- A stored image line: it goes into the slot, and the statistics unit sums it (R35, R36). -/
def State.storeLine (i : Src) (r : FrameRec) (line : List Pixel) (s : State) : State :=
  let x := s.receiver i
  (s.setSlot i r.slot ((s.fs.slots.get i).get r.slot ++ [line])).setReceiver i
    { x with lines := min (x.lines + 1) 65535
             sums := x.sums.add (windowSum (r.window.getD ⟨0, 0, 0, 0⟩) x.lines line) }

/-- A line counted and not stored: its number is at or beyond the frame's height (R35). -/
def State.countLine (i : Src) (s : State) : State :=
  s.setReceiver i { s.receiver i with lines := min ((s.receiver i).lines + 1) 65535 }

/-- An image line (R35). -/
def State.takeImage (i : Src) (pixels : List Pixel) (s : State) : State :=
  match fillingRec (s.ring i) with
  | none => s.countLine i
  | some r =>
    if (s.receiver i).lines < heightOf r.width then s.storeLine i r (fitLine r.width pixels) else s.countLine i

/-- A line on a receiver: the metadata line in AWAIT_META, an image line in RECEIVING, ignored elsewhere (R26, R32, R35). -/
def State.takeLine (i : Src) (pixels : List Pixel) (s : State) : State :=
  match (s.receiver i).intake with
  | .between => s
  | .discarding => s
  | .awaitMeta => s.takeMeta i pixels
  | .receiving => s.takeImage i pixels

/-! Frame end (R37, R38) -/

/-- The means over a window, 0 where it holds no pixel (R37). -/
def meansOf (sums : Triple) (win : Rect) : Triple :=
  ⟨sums.r / (win.cw * win.ch), sums.g / (win.cw * win.ch), sums.b / (win.cw * win.ch)⟩

/-- A record made READY with its means (R37). -/
def FrameRec.finish (r : FrameRec) (sums : Triple) : FrameRec :=
  if r.isReady then r else { r with state := .ready, means := some (meansOf sums (r.window.getD ⟨0, 0, 0, 0⟩)) }

/-- A newly READY frame sets last READY time, which moves a running frame timer (R5, R37). -/
def Source.readyAt (x : Source) (now : Time) : Source :=
  { x with lastReady := some now, frame := if x.state.usable then some (x.frameTimer now) else x.frame }

/-- What the source controller does with a READY frame: the first one ends SYNCING (R7). -/
def State.firstReady (i : Src) (s : State) : State :=
  if (s.source i).state = .syncing then
    match (s.source i).purpose with
    | .normal => s.enterWarm i
    | .test => s.testEnd i .pass
  else s

/-- A good frame end (R37). -/
def State.goodFrame (i : Src) (s : State) : State :=
  let x := s.receiver i
  (((s.setRing i ((s.ring i).map fun r => r.finish x.sums)).setSource i
      ((s.source i).readyAt s.cru.time)).setReceiver i { x with intake := .between, run := 0, sums := ⟨0, 0, 0⟩ }).firstReady i

/-- A bad frame end (R38). -/
def State.lineCountFault (i : Src) (s : State) : State :=
  ((s.setRing i (dropFilling (s.ring i))).setIntake i .between).badFrame i .lineCount (s.receiver i).lines
    (s.fillingCounter i)

/-- Whether the frame in progress has as many image lines as its height (R37). -/
def State.frameWhole (s : State) (i : Src) : Bool :=
  match fillingRec (s.ring i) with
  | none => false
  | some r => decide ((s.receiver i).lines = heightOf r.width)

/-- FRAME_END (R26, R37, R38). -/
def State.frameEnd (i : Src) (s : State) : State :=
  match (s.receiver i).intake with
  | .between => s
  | .discarding => s.setIntake i .between
  | .awaitMeta => s.lineCountFault i
  | .receiving => if s.frameWhole i = true then s.goodFrame i else s.lineCountFault i

/-! The commands -/

/-- FRAME_START (R25). -/
def execFrameStart (i : Src) (s : State) : Host.Outcome State Fault Refusal := .next (s.frameStart i)

/-- METADATA_LINE: a line, which the receiver takes by its intake state (R32, log 9). -/
def execMetadataLine (i : Src) (pixels : List Pixel) (s : State) : Host.Outcome State Fault Refusal :=
  .next (s.takeLine i pixels)

/-- IMAGE_LINE: a line, which the receiver takes by its intake state (R35, log 9). -/
def execImageLine (i : Src) (pixels : List Pixel) (s : State) : Host.Outcome State Fault Refusal :=
  .next (s.takeLine i pixels)

/-- FRAME_END (R37, R38). -/
def execFrameEnd (i : Src) (s : State) : Host.Outcome State Fault Refusal := .next (s.frameEnd i)

end Sys2Proof.Machine
end

