-- ==== Sys2Proof/Machine/Still.lean ====
section
/-! DEFINITION. Still capture: STILL_TAKE, STILL_FLOW, the still queue, the still channel, completion and abort
(R150, R153 to R165, R202). -/

namespace Sys2Proof.Machine

/-! Geometry of a still (R153, R157, R159) -/

/-- Total groups of a still of this height: ceil(height ÷ 64) (R157). -/
def totalGroups (height : Nat) : Nat := (height + 63) / Config.groupLines

/-- The line count of a group: 64, and what is left for the last (R157). -/
def groupLineCount (height number : Nat) : Nat := min Config.groupLines (height - Config.groupLines * number)

/-- A transmission's duration in µs: pixels ÷ 1,250, rounded up (R149, R150, R159). -/
def transmissionTime (pixels : Nat) : Nat := (pixels + 1249) / 1250

/-! Records and the queue -/

/-- The still record replaced. -/
def State.setStill (x : Option Still) (s : State) : State := { s with cc := { s.cc with still := x } }

/-- The still queue replaced. -/
def State.setQueue (x : List Nat) (s : State) : State := { s with op := { s.op with queue := x } }

/-- The next identifier: the last one issued plus 1, or 1 after 255 (R153). -/
def nextId (last : Nat) : Nat := if last = 255 then 1 else last + 1

/-- A still record with the geometry of a picture of this width (R153, R155, R156). -/
def Still.sized (x : Still) (width : Nat) : Still :=
  { x with width := some width, height := some (heightOf width), total := some (totalGroups (heightOf width)) }

/-- One group is placed in the queue when the still is SENDING, the queue holds fewer than 2 and groups are left (R158). -/
def State.fillOne (s : State) : State :=
  match s.cc.still with
  | none => s
  | some x =>
    match x.total with
    | none => s
    | some total =>
      if x.state = .sending ∧ s.op.queue.length < 2 ∧ x.next < total then
        (s.setQueue (s.op.queue ++ [x.next])).setStill (some { x with next := x.next + 1 })
      else s

/-- The queue is filled to 2 groups or until every group has been placed (R158). -/
def State.fillQueue (s : State) : State := s.fillOne.fillOne

/-- A still record is created with a new identifier (R153). -/
def State.createStill (x : Still) (s : State) : State :=
  { s with cc := { still := some { x with id := nextId s.cc.lastId }, lastId := nextId s.cc.lastId } }

/-- The still hold of a source still is released and the record is removed (R160, R162). -/
def State.endStill (x : Still) (s : State) : State :=
  let released := match x.source with
    | none => s
    | some i => s.releaseHolds .still i
  (released.setStill none).setQueue []

/-! STILL_TAKE (R155, R156) -/

/-- A source still as it is created, of a frame of this width (R155). -/
def Still.ofSource (i : Src) (width : Nat) : Still :=
  Still.sized { id := 0, kind := .source, source := some i, state := .sending, width := none, height := none,
                total := none, next := 0, begun := 0, pause := none } width

/-- A fused still as it is created (R156). -/
def Still.ofFused : Still :=
  { id := 0, kind := .fused, source := none, state := .capturing, width := none, height := none, total := none,
    next := 0, begun := 0, pause := none }

/-- The change of a source still on the newest READY record `r` (R155). -/
def State.pinFrame (i : Src) (r : FrameRec) (s : State) : State :=
  ((s.placeStillHold i r.slot).createStill (Still.ofSource i r.width)).fillQueue

/-- The reply of an accepted source still (R155, R198). -/
def State.takeBytes (r : FrameRec) (s : State) : List Byte :=
  [u8 (nextId s.cc.lastId), StillKind.source.code] ++ u16 r.width ++ u16 (heightOf r.width) ++
    [u8 (totalGroups (heightOf r.width))] ++ be32 r.start ++ be16 (r.counter.getD 0) ++ u16 (r.focus.getD 0)

/-- Checks 2 to 5 of R155. -/
def State.stillTakeKnown (i : Src) (s : State) : Answer :=
  if s.cc.still.isSome = true then s.refuse .stillActive []
  else if (s.source i).defined = false then s.refuse .noSource []
  else match newestReady (s.ring i) with
    | none => s.refuse .noFrame []
    | some r => ⟨s.pinFrame i r, .accepted, s.takeBytes r⟩

/-- STILL_TAKE, kind SOURCE (R155). -/
def State.stillTakeSource (src : Byte) (s : State) : Answer :=
  match byteSource src with
  | none => s.refuse .badValue []
  | some i => s.stillTakeKnown i

/-- STILL_TAKE, kind FUSED (R156). -/
def State.stillTakeFused (s : State) : Answer :=
  if s.cc.still.isSome = true then s.refuse .stillActive []
  else if s.link.part ≠ .streaming ∨ s.cp.sub ≠ .running then s.refuse .wrongState []
  else ⟨s.createStill Still.ofFused, .accepted, [u8 (nextId s.cc.lastId), StillKind.fused.code]⟩

/-- The capture controller at a live compose complete: a CAPTURING still copies the composite and becomes SENDING
(R147, R156). -/
def State.captureFused (pic : Picture) (s : State) : State :=
  match s.cc.still with
  | none => s
  | some x =>
    if x.state = .capturing then
      (({ s with cp := { s.cp with stillCopy := some pic } }).setStill
        (some { x.sized pic.width with state := .sending })).fillQueue
    else s

/-! Abort and STILL_FLOW (R161, R162) -/

/-- An abort (R162): the queue empties, the pause timer stops, STILL_ABORTED is posted; with a group in transmission the
still stands in ENDING until the group ends. -/
def State.abortStill (x : Still) (cause : StillCause) (s : State) : State :=
  let posted := (s.setQueue []).post none
    (.stillAborted x.id x.kind x.source cause x.state x.begun s.cru.time)
  if s.op.group.isSome = true then posted.setStill (some { x with state := .ending, pause := none })
  else posted.endStill x

/-- The reply of STILL_FLOW for the state that stands after it (R161, R198). -/
def State.flowBytes (s : State) : List Byte :=
  match s.cc.still with
  | none => [0, 0, 0, 0]
  | some x => [u8 x.id, x.state.code, u8 x.begun, u8 s.op.queue.length]

/-- The answer of STILL_FLOW for the state it leaves. -/
def State.flowAnswer (s : State) (result : Result) : Answer := ⟨s, result, s.flowBytes⟩

/-- STILL_FLOW (PAUSE) (R161). -/
def State.flowPause (s : State) : Answer :=
  match s.cc.still with
  | none => s.flowAnswer .wrongState
  | some x =>
    match x.state with
    | .capturing => s.flowAnswer .wrongState
    | .sending => (s.setStill (some { x with state := .paused, pause := some (s.timer Config.pauseLength) })).flowAnswer .ok
    | .paused => s.flowAnswer .ok
    | .ending => s.flowAnswer .wrongState

/-- STILL_FLOW (RESUME) (R161). -/
def State.flowResume (s : State) : Answer :=
  match s.cc.still with
  | none => s.flowAnswer .wrongState
  | some x =>
    match x.state with
    | .capturing => s.flowAnswer .wrongState
    | .sending => s.flowAnswer .ok
    | .paused => (s.setStill (some { x with state := .sending, pause := none })).fillQueue.flowAnswer .ok
    | .ending => s.flowAnswer .wrongState

/-- STILL_FLOW (ABORT) (R161, R162). -/
def State.flowAbort (s : State) : Answer :=
  match s.cc.still with
  | none => s.flowAnswer .wrongState
  | some x =>
    match x.state with
    | .capturing => (s.abortStill x .host).flowAnswer .ok
    | .sending => (s.abortStill x .host).flowAnswer .ok
    | .paused => (s.abortStill x .host).flowAnswer .ok
    | .ending => s.flowAnswer .ok

/-! The still channel (R150, R157, R159, R160, R202) -/

/-- The picture a still is read from: the slot of the still-held record, or the still copy buffer (R157). -/
def State.stillPicture (s : State) (x : Still) : Content :=
  match x.source with
  | none => (s.cp.stillCopy.map Picture.lines).getD []
  | some i =>
    match (s.ring i).find? FrameRec.heldS with
    | none => []
    | some r => (s.fs.slots.get i).get r.slot

/-- Group `number` of a still as it is transmitted: header and lines (R157, R202). -/
def State.groupOf (s : State) (x : Still) (number : Nat) : GroupTx :=
  let count := groupLineCount (x.height.getD 0) number
  { number := number
    header := [0x3A5, BitVec.ofNat 10 x.id, BitVec.ofNat 10 number, BitVec.ofNat 10 count]
    lines := ((s.stillPicture x).drop (Config.groupLines * number)).take count
    timer := s.timer (transmissionTime (count * x.width.getD 0)) }

/-- While STREAMING a group must end at or before the tick deadline (R150). -/
def State.groupFits (s : State) (len : Nat) : Bool :=
  if s.link.part = .streaming then
    match s.cp.deadline with
    | none => true
    | some d => ahead d s.cru.time && decide (len ≤ d.since s.cru.time)
  else true

/-- The group that begins now, if the channel is free, the queue is not empty and R150 allows (R159). -/
def State.readyGroup (s : State) : Option (Still × GroupTx) :=
  match s.cc.still, s.op.queue, s.op.group, s.op.video with
  | some x, number :: _, none, none =>
    if s.groupFits (s.groupOf x number).timer.len = true then some (x, s.groupOf x number) else none
  | _, _, _, _ => none

/-- The level of the OCH pin: high while the output port sends on the still channel, low for video (section 12.5). DESIGN
CHOICE (log 34): low while the port sends on neither. -/
def State.och (s : State) : Bool := s.op.group.isSome

/-- STILL_GROUP_BEGIN: the group leaves the queue, groups begun rises, and the queue is refilled (R159). -/
def State.groupBegin (s : State) : State :=
  match s.readyGroup with
  | none => s
  | some (x, g) =>
    ({ s with op := { s.op with queue := s.op.queue.tail, group := some g } }.setStill
      (some { x with begun := x.begun + 1 })).fillQueue

/-- STILL_DONE (R164). -/
def State.postStillDone (x : Still) (s : State) : State :=
  s.post none (.stillDone x.id x.kind x.source (x.width.getD 0) (x.total.getD 0) s.cru.time)

/-- What the end of group `number` does to the still (R160, R162). -/
def State.afterGroup (number : Nat) (s : State) : State :=
  match s.cc.still with
  | none => s
  | some x =>
    if x.state = .ending then s.endStill x
    else if x.total = some (number + 1) then (s.endStill x).postStillDone x
    else s

/-- STILL_GROUP_END (R160). -/
def State.groupEnd (s : State) : State :=
  match s.op.group with
  | none => s
  | some g =>
    let t := s.waitTimer g.timer
    ({ t with op := { t.op with group := none } }).afterGroup g.number

/-- PAUSE_TIMEOUT: the still is aborted with cause TIMEOUT (R161, R162). -/
def State.pauseTimeout (s : State) : State :=
  match s.cc.still with
  | none => s
  | some x =>
    match x.pause with
    | none => s
    | some t => (s.waitTimer t).abortStill x .timeout

/-- STILL_GROUP_BEGIN (R159). -/
def execStillGroupBegin (s : State) : Host.Outcome State Fault Refusal := .next s.groupBegin

/-- STILL_GROUP_END (R160, log 2). -/
def execStillGroupEnd (s : State) : Host.Outcome State Fault Refusal := .next s.groupEnd

/-- PAUSE_TIMEOUT (R162, log 2). -/
def execPauseTimeout (s : State) : Host.Outcome State Fault Refusal := .next s.pauseTimeout

end Sys2Proof.Machine
end

