-- ==== Sys2Proof/Machine/Output.lean ====
section
/-! DEFINITION. Output pacing and composition: OUTPUT_SET, OUTPUT_START, OUTPUT_STOP, the tick, the compose and the video
channel (R131 to R152), and MATCH_WINDOW_EXPIRY (R96). -/

namespace Sys2Proof.Machine

/-! OUTPUT_SET (R131, R132) -/

/-- The first field out of its range in R131, by its index in the payload of R197. -/
def Settings.badField (x : Settings) : Option Nat :=
  if x.wo < 640 ∨ 3840 < x.wo ∨ x.wo % 16 ≠ 0 then some 0
  else if x.period < 8333 ∨ 100000 < x.period then some 1
  else if 32 < x.n then some 2
  else if 255 < x.tolerance then some 3
  else if x.m < 1 ∨ 15 < x.m then some 4
  else if x.window < 1 ∨ 255 < x.window then some 5
  else none

/-- The video transmission time of one composite: Wo × Ho ÷ 1,250 µs, rounded up (R149). -/
def Settings.videoTime (x : Settings) : Nat := transmissionTime (x.wo * heightOf x.wo)

/-- The reply of an OUTPUT_SET that is taken: the six settings, Ho and the video transmission time (R132, R197). -/
def Settings.bytes (x : Settings) : List Byte :=
  u16 x.wo ++ u32 x.period ++ [u8 x.n, u8 x.tolerance, u8 x.m, u8 x.window] ++ u16 (heightOf x.wo) ++ u16 x.videoTime

/-- OUTPUT_SET, with or without QUERY_ONLY (R132). -/
def State.outputSet (x : Settings) (queryOnly : Bool) (s : State) : Answer :=
  match x.badField with
  | some k => s.refuse .badValue [u8 k]
  | none => ⟨if queryOnly then s else { s with cp := { s.cp with settings := x } }, .ok, x.bytes⟩

/-! OUTPUT_START (R134 to R136) -/

/-- The part state replaced. -/
def State.setPart (x : PartState) (s : State) : State := { s with link := { s.link with part := x } }

/-- The source of the highest rung k for which k = 0 or Z ≥ U_k (R134). -/
def startingRung (z : Nat) : Ladder → Option Src
  | [] => none
  | r :: rest => some (((rest.filter fun q => decide (q.u ≤ z)).getLast?.getD r).source)

/-- The output state and the tick timer as OUTPUT_START sets them (R136, R140). -/
def State.beginOutput (s : State) : State :=
  { s with
    link := { s.link with part := .streaming }
    zc := { s.zc with bounds := none }
    cp := { s.cp with
      deadline := some (s.cru.time + BitVec.ofNat 32 s.cp.settings.period), compose := none, newest := none,
      lastSent := none, fresh := false, overruns := 0, repeats := 0 } }

/-- The starting primary waits: it is the pending primary of a STARTING output (R136). -/
def State.awaitPrimary (p : Src) (s : State) : State := ((s.setSub .starting).setPending (some p)).stopIdle p

/-- The starting primary dealt with according to its state (R136). -/
def State.placePrimary (p : Src) (s : State) : State :=
  match (s.source p).state with
  | .warm => (s.setSub .running).setRole p .primary
  | .parked => (s.awaitPrimary p).wake .normal p
  | .waking => s.awaitPrimary p
  | .syncing => s.awaitPrimary p
  | .primary => s
  | .outgoing => s
  | .incoming => s
  | .fault => s

/-- The reply of an OUTPUT_START that is taken: the starting primary and the sub-state entered (R135, R197). -/
def State.startBytes (p : Src) (s : State) : List Byte := [sourceByte (some p), s.cp.sub.code]

/-- OUTPUT_START (R135, R136). -/
def State.outputStart (s : State) : Answer :=
  if s.link.part ≠ .config then s.refuse .wrongState []
  else if s.cru.test.isSome = true then s.refuse .wrongState []
  else match s.zc.ladder.bind (startingRung s.zc.shown) with
    | none => s.refuse .wrongState []
    | some p =>
      if (s.source p).state = .fault then s.refuse .noSource []
      else ⟨s.beginOutput.placePrimary p, .ok, (s.beginOutput.placePrimary p).startBytes p⟩

/-! OUTPUT_STOP (R80, R112, R139, R140, R163) -/

/-- A pending report with nothing left to act on (R112). -/
def Report.ended : Report := ⟨.warm, none⟩

/-- A source in a role becomes WARM, and its pending reports concern no output any more (R112, log 11). -/
def State.endRole (i : Src) (s : State) : State :=
  (if (s.source i).state.isRole = true then s.takeRole i .warm else s).setReports i
    ((s.zc.reports.get i).map fun _ => .ended)

/-- Every PRIMARY, OUTGOING and INCOMING source becomes WARM (R11). -/
def State.endRoles (s : State) : State := (((s.endRole .s0).endRole .s1).endRole .s2).endRole .s3

/-- Every compositor hold is released (R42). -/
def State.releaseAll (s : State) : State :=
  (((s.releaseHolds .compositor .s0).releaseHolds .compositor .s1).releaseHolds .compositor .s2).releaseHolds
    .compositor .s3

/-- held becomes no, and ZOOM_HELD is posted if it was yes (R80); the bounding source is that of the last zoom step
(log 16). -/
def State.clearHeld (s : State) : State :=
  if s.zc.held then
    ({ s with zc := { s.zc with held := false } }).post none
      (.zoomHeld false .none s.zc.target s.zc.shown (s.zc.bounds.map Bounds.who) s.cru.time)
  else s

/-- The compose in flight becomes discarded (R140). -/
def State.discardCompose (s : State) : State :=
  { s with cp := { s.cp with compose := s.cp.compose.map fun c => { c with live := false } } }

/-- A CAPTURING still is aborted with cause OUTPUT_STOP (R163). -/
def State.abortCapture (s : State) : State :=
  match s.cc.still with
  | none => s
  | some x => if x.state = .capturing then s.abortStill x .outputStop else s

/-- The end of the output state: ticks, sub-state and part state (R139). -/
def State.endOutput (s : State) : State :=
  { s with
    link := { s.link with part := .config }
    zc := { s.zc with bounds := none, pinned := false }
    cp := { s.cp with deadline := none, sub := .none } }

/-- OUTPUT_STOP in STREAMING (R139). -/
def State.stopOutput (s : State) : State :=
  s.removeRecord.dropPending.endRoles.clearHeld.releaseAll.discardCompose.abortCapture.endOutput

/-- OUTPUT_STOP (R139). -/
def State.outputStop (s : State) : Answer :=
  if s.link.part = .streaming then ⟨s.stopOutput, .ok, []⟩ else s.refuse .wrongState []

/-! The video channel (R142, R149) -/

/-- The picture of a buffer. -/
def Compositor.picture (c : Compositor) : Buf → Option Picture
  | .ping => c.ping
  | .pong => c.pong

/-- The buffer the video channel sends at this tick, if any (R142). -/
def State.sendChoice (s : State) : Option Buf :=
  match s.cp.sub with
  | .none => none
  | .starting => none
  | .running => if s.cp.fresh then s.cp.newest else s.cp.lastSent
  | .frozen => if s.cp.fresh then s.cp.newest else s.cp.lastSent

/-- A transmission of a buffer begins (R149). -/
def State.beginVideo (b : Buf) (s : State) : State :=
  { s with
    cp := { s.cp with lastSent := some b }
    op := { s.op with video := some ⟨b, s.cp.picture b, s.timer s.cp.settings.videoTime⟩ } }

/-- The send of a tick (R142). -/
def State.videoSend (s : State) : State :=
  let sent := match s.sendChoice with
    | none => s
    | some b => s.beginVideo b
  { sent with cp := { sent.cp with fresh := false } }

/-- VIDEO_TRANSMISSION_END (R149). -/
def State.videoEnd (s : State) : State :=
  match s.op.video with
  | none => s
  | some v =>
    let t := s.waitTimer v.timer
    { t with op := { t.op with video := none } }

/-! Participants and the compose begin (R111, R144 to R146) -/

/-- A participant as the zoom controller hands it (R111). -/
structure Handed where
  source : Src
  weight : Nat
  gains : Gains
  deriving DecidableEq, Repr

/-- What stage 5 hands the compositor (R111). -/
def State.handed (s : State) : List Handed :=
  match s.cp.sub with
  | .none => []
  | .starting => []
  | .frozen => []
  | .running =>
    match s.zc.record with
    | some r =>
      if r.phase = .blending then [⟨r.giver, 256 - r.weight, .unit⟩, ⟨r.taker, r.weight, r.blendGains⟩]
      else s.knownPrimary.toList.map fun p => ⟨p, 256, .unit⟩
    | none => s.knownPrimary.toList.map fun p => ⟨p, 256, .unit⟩

/-- A participant with the record chosen for it: the newest READY record of its ring (R144). -/
structure Chosen where
  handed : Handed
  record : FrameRec
  deriving DecidableEq, Repr

/-- The record chosen for a participant, if its ring holds a READY one (R45, R146). -/
def State.choose (s : State) (h : Handed) : Option Chosen := (newestReady (s.ring h.source)).map fun r => ⟨h, r⟩

/-- The participants that have a record; one left alone is composed at weight 256 with its own gain (R146). -/
def State.chosen (s : State) : List Chosen :=
  match s.handed.filterMap s.choose with
  | [x] => [{ x with handed := { x.handed with weight := 256 } }]
  | l => l

/-- The participants left out, whose rings hold no READY record (R146). -/
def State.leftOut (s : State) : List Src :=
  (s.handed.filter fun h => (newestReady (s.ring h.source)).isNone).map Handed.source

/-- The participants that give a frame repeat: the hold already rests on the chosen record (R145). -/
def repeated (l : List Chosen) : List Src := (l.filter fun x => x.record.heldC).map fun x => x.handed.source

/-- The compositor hold of one source at a compose begin: moved onto its chosen record, or released (R42, R144). -/
def State.settleHold (l : List Chosen) (i : Src) (s : State) : State :=
  match l.find? fun x => decide (x.handed.source = i) with
  | some x => s.moveHold i x.record.slot
  | none => s.releaseHolds .compositor i

/-- The compositor holds of all four sources at a compose begin (R42, R144). -/
def State.settleHolds (l : List Chosen) (s : State) : State :=
  (((s.settleHold l .s0).settleHold l .s1).settleHold l .s2).settleHold l .s3

/-- A participant of the compose, with its compose window at the shown zoom (R58, R144). -/
def State.partOf (s : State) (x : Chosen) : Part :=
  { source := x.handed.source, slot := x.record.slot, weight := x.handed.weight, gains := x.handed.gains,
    window := s.composeWindow x.handed.source x.record.width (x.record.focus.getD 0) }

/-- The compose window records of the participants are replaced (R64). -/
def keepWindows (windows : Four (Option ComposeWindow)) (parts : List Part) : Four (Option ComposeWindow) :=
  parts.foldl (fun w p => w.set p.source (some p.window)) windows

/-- The buffer of a compose: the one that is not the newest composite, or ping (R144). -/
def otherBuffer : Option Buf → Buf
  | none => .ping
  | some .ping => .pong
  | some .pong => .ping

/-- The picture of a buffer replaced (R148). -/
def Compositor.setPicture (c : Compositor) (b : Buf) (p : Option Picture) : Compositor :=
  match b with
  | .ping => { c with ping := p }
  | .pong => { c with pong := p }

/-- Steps 2 to 4 of R144; the buffer holds no picture while it is written (log 21). -/
def State.openCompose (parts : List Part) (s : State) : State :=
  { s with
    gu := { s.gu with windows := keepWindows s.gu.windows parts }
    cp := { (s.cp.setPicture (otherBuffer s.cp.newest) none) with
      compose := some ⟨true, otherBuffer s.cp.newest, s.cp.settings.wo, parts⟩ } }

/-- The compose begins (R144). -/
def State.beginCompose (l : List Chosen) (s : State) : State := (s.settleHolds l).openCompose (l.map s.partOf)

/-- A repeat counted and reported (R145, R146, R152). -/
def State.countRepeat (cause : RepeatCause) (sources : List Src) (s : State) : State :=
  ({ s with cp := { s.cp with repeats := min (s.cp.repeats + 1) 65535 } }).post none
    (.outputRepeat cause sources s.cp.overruns (min (s.cp.repeats + 1) 65535) s.zc.shown s.cru.time)

/-- The report of a compose begin: NO_FRAME for participants left out, else SAME_FRAME for repeats (R145, R146). -/
def State.reportRepeat (left again : List Src) (s : State) : State :=
  match left, again with
  | [], [] => s
  | [], _ :: _ => s.countRepeat .sameFrame again
  | _ :: _, _ => s.countRepeat .noFrame left

/-- The compose begin of a tick: none where no participant was handed or all were left out (R144 to R146). -/
def State.composeBegin (s : State) : State :=
  match s.chosen with
  | [] => s.reportRepeat s.leftOut []
  | x :: rest => (s.reportRepeat s.leftOut (repeated (x :: rest))).beginCompose (x :: rest)

/-! The tick (R138, R141, R143) -/

/-- An overrun: counted and reported in RUNNING only (R143, R152). -/
def State.overrun (s : State) : State :=
  if s.cp.sub = .running then
    ({ s with cp := { s.cp with overruns := min (s.cp.overruns + 1) 65535 } }).post none
      (.outputRepeat .overrun [] (min (s.cp.overruns + 1) 65535) s.cp.repeats s.zc.shown s.cru.time)
  else s

/-- The pending primary found WARM becomes PRIMARY and the output RUNNING (R138). -/
def State.promotePending (s : State) : State :=
  match s.cp.sub, s.cp.pendingPrimary with
  | .starting, some p =>
    if (s.source p).state = .warm then ((s.setPending none).setSub .running).setRole p .primary else s
  | _, _ => s

/-- Whether a live compose is in flight (R143). -/
def State.composing (s : State) : Bool :=
  match s.cp.compose with
  | none => false
  | some c => c.live

/-- The work of a tick, in the order of R141. -/
def State.tickWork (s : State) : State :=
  let sent := s.videoSend
  if sent.composing = true then sent.overrun else sent.promotePending.zoomStep.composeBegin

/-- TICK: the deadline advances by one period from the deadline before it (R141). -/
def State.tick (s : State) : State :=
  match s.link.part, s.cp.deadline with
  | .streaming, some d =>
    let t := s.waitDeadline d
    State.tickWork { t with cp := { t.cp with deadline := some (d + BitVec.ofNat 32 t.cp.settings.period) } }
  | _, _ => s

/-- Whether the next MATCHING work brings the match ticks to the match window (R95, R96). -/
def State.windowDue (s : State) : Bool :=
  match s.zc.record with
  | none => false
  | some r => decide (r.phase = .matching ∧ s.cp.settings.window ≤ min (r.ticks + 1) 255)

/-! Compose complete (R147) -/

/-- The content a participant is read from: the slot of its record (R67). -/
def State.partContent (s : State) (p : Part) : Content := (s.fs.slots.get p.source).get p.slot

/-- The resampled and gained value of a participant at an output pixel (R67, R126). -/
def State.partValue (s : State) (wo : Nat) (p : Part) (pick : Pixel → BitVec 10) (gain : Gains → Nat) (x y : Nat) : Nat :=
  gained (resample (s.partContent p) pick p.window.rect wo (heightOf wo) x y) (gain p.gains)

/-- An output component of a compose (R127). -/
def State.outValue (s : State) (k : Compose) (pick : Pixel → BitVec 10) (gain : Gains → Nat) (x y : Nat) : Nat :=
  match k.parts with
  | [] => 0
  | [b] => blended 0 (s.partValue k.wo b pick gain x y) 256
  | a :: b :: _ => blended (s.partValue k.wo a pick gain x y) (s.partValue k.wo b pick gain x y) b.weight

/-- An output pixel of a compose. -/
def State.outPixel (s : State) (k : Compose) (x y : Nat) : Pixel :=
  ⟨BitVec.ofNat 10 (s.outValue k Pixel.r Gains.r x y), BitVec.ofNat 10 (s.outValue k Pixel.g Gains.g x y),
   BitVec.ofNat 10 (s.outValue k Pixel.b Gains.b x y)⟩

/-- The composite of a compose: every output pixel resampled, gained and blended (R67, R126 to R128). -/
def State.compositeOf (s : State) (k : Compose) : Picture :=
  { width := k.wo
    lines := (List.range (heightOf k.wo)).map fun y => (List.range k.wo).map fun x => s.outPixel k x y }

/-- The compose complete of a live compose (R147). -/
def State.completeLive (k : Compose) (s : State) : State :=
  ({ s with cp := { (s.cp.setPicture k.buffer (some (s.compositeOf k))) with
      compose := none, newest := some k.buffer, fresh := true } }).captureFused (s.compositeOf k)

/-- COMPOSE_COMPLETE: a discarded compose only frees its buffer (R140, R147). -/
def State.composeComplete (s : State) : State :=
  match s.cp.compose with
  | none => s
  | some k => if k.live then s.completeLive k else { s with cp := { s.cp with compose := none } }

/-! The commands -/

/-- TICK (R141, log 2). -/
def execTick (s : State) : Host.Outcome State Fault Refusal := .next s.tick

/-- MATCH_WINDOW_EXPIRY: the tick whose MATCHING work brings the match ticks to the match window (R96, log 10). -/
def execMatchWindowExpiry (s : State) : Host.Outcome State Fault Refusal :=
  .next (if s.windowDue = true then s.tick else s)

/-- COMPOSE_COMPLETE (R147). -/
def execComposeComplete (s : State) : Host.Outcome State Fault Refusal := .next s.composeComplete

/-- VIDEO_TRANSMISSION_END (R149, log 2). -/
def execVideoTransmissionEnd (s : State) : Host.Outcome State Fault Refusal := .next s.videoEnd

end Sys2Proof.Machine
end

