-- ==== Sys2Proof/Machine/Sources.lean ====
section
/-! DEFINITION. The source controller: its timer expiries and its requests (R5 to R10, R13, R20 to R23). -/

namespace Sys2Proof.Machine

/-! Timer expiries -/

/-- A WAKING source enters SYNCING and its sync timer starts (R7). -/
def State.enterSyncing (i : Src) (s : State) : State :=
  (s.setSource i { s.source i with
    state := .syncing, settle := none, sync := some (s.timer ((s.source i).syncTens * 10000)) }).postState i
    (s.source i).purpose .syncing .waking

/-- SETTLE_EXPIRY (R7): it comes only while the settle timer of a WAKING source runs. -/
def State.settleExpiry (i : Src) (s : State) : State :=
  match (s.source i).settle with
  | none => s
  | some t => if (s.source i).state = .waking then (s.waitTimer t).enterSyncing i else s

/-- What a sync expiry makes of a SYNCING source (R7). -/
def State.syncFailed (i : Src) (s : State) : State :=
  match (s.source i).purpose with
  | .normal => s.faultSource .noSync i
  | .test => s.testEnd i .noSync

/-- SYNC_EXPIRY (R7, R13). -/
def State.syncExpiry (i : Src) (s : State) : State :=
  match (s.source i).sync with
  | none => s
  | some t => if (s.source i).state = .syncing then (s.waitTimer t).syncFailed i else s

/-- FRAME_TIMEOUT (R13): in WARM and the three roles. -/
def State.frameTimeout (i : Src) (s : State) : State :=
  match (s.source i).frame with
  | none => s
  | some t => if (s.source i).state.usable = true then (s.waitTimer t).faultSource .frameTimeout i else s

/-- IDLE_EXPIRY (R9). -/
def State.idleExpiry (i : Src) (s : State) : State :=
  match (s.source i).idle with
  | none => s
  | some t => if (s.source i).state = .warm then (s.waitTimer t).park i else s

/-- SETTLE_EXPIRY (R7, log 2). -/
def execSettleExpiry (i : Src) (s : State) : Host.Outcome State Fault Refusal := .next (s.settleExpiry i)

/-- SYNC_EXPIRY (R7, R13, log 2). -/
def execSyncExpiry (i : Src) (s : State) : Host.Outcome State Fault Refusal := .next (s.syncExpiry i)

/-- FRAME_TIMEOUT (R13, log 2). -/
def execFrameTimeout (i : Src) (s : State) : Host.Outcome State Fault Refusal := .next (s.frameTimeout i)

/-- IDLE_EXPIRY (R9, log 2). -/
def execIdleExpiry (i : Src) (s : State) : Host.Outcome State Fault Refusal := .next (s.idleExpiry i)

/-! SOURCE_DEFINE (R20) -/

/-- Whether the present ladder names a source. -/
def State.onLadder (s : State) (i : Src) : Bool :=
  match s.zc.ladder with
  | none => false
  | some rungs => rungs.any fun r => decide (r.source = i)

/-- Whether the still hold rests on a record of a source (R43). -/
def State.stillHolds (s : State) (i : Src) : Bool := (s.ring i).any FrameRec.heldS

/-- The description fields SOURCE_DEFINE writes (R1). -/
structure Description where
  base : Nat
  width : Nat
  period : Nat
  stretch : Nat
  settleMs : Nat
  syncTens : Nat
  idleTwenties : Nat
  deriving DecidableEq, Repr

/-- The first field out of its range in R1, by its index in the payload of R197, the source being field 0. -/
def Description.badField (d : Description) : Option Nat :=
  if d.base < 64 ∨ 4096 < d.base then some 1
  else if d.width < 640 ∨ 4096 < d.width ∨ d.width % 16 ≠ 0 then some 2
  else if d.period < 8333 ∨ 100000 < d.period then some 3
  else if d.stretch < 256 ∨ 1024 < d.stretch then some 4
  else if d.settleMs < 1 ∨ 255 < d.settleMs then some 5
  else if d.syncTens < 1 ∨ 200 < d.syncTens then some 6
  else if 255 < d.idleTwenties then some 7
  else none

/-- The source record with a new description, defined (R20). -/
def Source.describe (x : Source) (d : Description) : Source :=
  { x with defined := true, base := d.base, width := d.width, period := d.period, stretch := d.stretch,
           settleMs := d.settleMs, syncTens := d.syncTens, idleTwenties := d.idleTwenties }

/-- The compose window record of a source replaced (R64). -/
def State.setWindow (i : Src) (w : Option ComposeWindow) (s : State) : State :=
  { s with gu := { s.gu with windows := s.gu.windows.set i w } }

/-- SOURCE_DEFINE after its first check (R20); the compose window record of the source becomes absent (R64). -/
def State.define (i : Src) (d : Description) (s : State) : Answer :=
  if (s.source i).state ≠ .parked then s.refuse .wrongState []
  else if s.onLadder i = true then s.refuse .wrongRole []
  else if s.stillHolds i = true then s.refuse .stillActive []
  else match d.badField with
    | some k => s.refuse .badValue [u8 k]
    | none => ⟨(s.setSource i ((s.source i).describe d)).setWindow i none, .ok, []⟩

/-- SOURCE_DEFINE (R20). -/
def State.sourceDefine (src : Byte) (d : Description) (s : State) : Answer :=
  match byteSource src with
  | none => s.refuse .badValue []
  | some i => s.define i d

/-! SOURCE_POWER (R21, R22) -/

/-- Checks 4 to 6 of SOURCE_POWER (wake) (R21). -/
def State.wakeKnown (i : Src) (s : State) : Answer :=
  match (s.source i).state with
  | .fault => s.refuse .wrongState []
  | .parked => ⟨s.wake .normal i, .accepted, []⟩
  | .waking => ⟨s, .ok, []⟩
  | .syncing => ⟨s, .ok, []⟩
  | .warm => ⟨s, .ok, []⟩
  | .primary => ⟨s, .ok, []⟩
  | .outgoing => ⟨s, .ok, []⟩
  | .incoming => ⟨s, .ok, []⟩

/-- SOURCE_POWER with the wake action (R21). -/
def State.powerWake (src : Byte) (s : State) : Answer :=
  match byteSource src with
  | none => s.refuse .badValue []
  | some i =>
    if (s.source i).defined = false then s.refuse .noSource []
    else if s.underTest i = true then s.refuse .wrongState []
    else s.wakeKnown i

/-- Whether a source is the target of a RESCUE record (check 6 of R22). -/
def State.rescueTarget (s : State) (i : Src) : Bool :=
  match s.zc.record with
  | none => false
  | some r => decide (r.kind = .rescue ∧ r.taker = i)

/-- Whether a source is the target of a record that a park or a pin removes: UP or DOWN, in ARMED or MATCHING (R22). -/
def State.freeableTarget (s : State) (i : Src) : Bool :=
  match s.zc.record with
  | none => false
  | some r => decide (r.kind ≠ .rescue ∧ r.phase ≠ .blending ∧ r.taker = i)

/-- The park of case 8 of R22, any UP or DOWN record toward the source being removed first. -/
def State.freeAndPark (i : Src) (s : State) : State :=
  if s.freeableTarget i = true then s.removeRecord.park i else s.park i

/-- Checks 4 to 8 of SOURCE_POWER (park) (R22). -/
def State.parkKnown (i : Src) (s : State) : Answer :=
  if (s.source i).state.isRole = true then s.refuse .wrongRole []
  else if s.isPending i = true then s.refuse .wrongRole []
  else if s.rescueTarget i = true then s.refuse .wrongRole []
  else if (s.source i).state = .parked then ⟨s, .ok, []⟩
  else ⟨s.freeAndPark i, .ok, []⟩

/-- SOURCE_POWER with the park action (R22). -/
def State.powerPark (src : Byte) (s : State) : Answer :=
  match byteSource src with
  | none => s.refuse .badValue []
  | some i =>
    if (s.source i).defined = false then s.refuse .noSource []
    else if s.underTest i = true then s.refuse .wrongState []
    else s.parkKnown i

/-! SOURCE_QUERY (R23) -/

/-- The timer SOURCE_QUERY reports: of a frame and an idle timer that both run, the idle timer (R23). -/
def Source.runningTimer (x : Source) : Option (Byte × Timer) :=
  match x.settle, x.sync, x.idle, x.frame with
  | some t, _, _, _ => some (1, t)
  | none, some t, _, _ => some (2, t)
  | none, none, some t, _ => some (4, t)
  | none, none, none, some t => some (3, t)
  | none, none, none, none => none

/-- The timer fields of SOURCE_QUERY (R198). -/
def timerBytes (now : Time) : Option (Byte × Timer) → List Byte
  | none => 0 :: u32 0
  | some (k, t) => k :: u32 (t.left now)

/-- The newest READY record's fields of SOURCE_QUERY (R198). -/
def newestBytes : Option FrameRec → List Byte
  | none => 0 :: (u16 0 ++ u32 0)
  | some r => 1 :: (u16 (r.focus.getD 0) ++ be32 r.start)

/-- Last READY time, present byte first (R198). -/
def lastReadyBytes : Option Time → List Byte
  | none => 0 :: u32 0
  | some t => 1 :: be32 t

/-- The reply payload of SOURCE_QUERY, 40 bytes (R23, R198). -/
def State.sourceBytes (s : State) (i : Src) : List Byte :=
  let x := s.source i
  [sourceByte (some i), flag x.defined] ++ u16 x.base ++ u16 x.width ++ u16 x.height ++ u32 x.period ++
    u16 x.stretch ++ u16 x.zcap ++ [u8 x.settleMs, u8 x.syncTens, u8 x.idleTwenties, x.state.code, x.purpose.code,
    causeByte x.cause] ++ lastReadyBytes x.lastReady ++ [u8 (s.ring i).length] ++
    newestBytes (newestReady (s.ring i)) ++ timerBytes s.cru.time x.runningTimer

/-- SOURCE_QUERY (R23). -/
def State.sourceQuery (src : Byte) (s : State) : Answer :=
  match byteSource src with
  | none => s.refuse .badValue []
  | some i => ⟨s, .ok, s.sourceBytes i⟩

end Sys2Proof.Machine
end

