-- ==== Sys2Proof/Machine/Link.lean ====
section
/-! DEFINITION. The control link: transactions, the checks of a request, the acceptance table, execution by the owning
block, and the reply slot (R166 to R176, R179, R180). -/

namespace Sys2Proof.Machine

/-! The start of a transaction (R167, R168, R179, R180) -/

/-- The reply of an executed RESET_PART: code echo 0x04 and OK, which no refusal carries (R171, R179). -/
def Reply.isResetPart (r : Reply) : Bool := decide (r.code = Request.resetPart.code ∧ r.result = .ok)

/-- The transaction in progress replaced. -/
def State.setTxn (t : Option Txn) (s : State) : State := { s with link := { s.link with txn := t } }

/-- A transaction that delivers a reply: the slot is emptied at its start (R167); a RESET_PART reply discards the request
(R179). -/
def State.deliver (r : Reply) (s : State) : State :=
  { s with link := { s.link with slot := none, txn := some ⟨.reply r, !r.isResetPart, r.isResetPart⟩ } }

/-- What a transaction that begins in this phase will do (R167). -/
def State.decideTxn (s : State) : State :=
  match s.link.phase with
  | .idle => s.setTxn (some ⟨.empty, true, false⟩)
  | .executing => s.setTxn (some ⟨.busy, false, false⟩)
  | .replyReady =>
    match s.link.slot with
    | some r => s.deliver r
    | none => s.setTxn (some ⟨.empty, true, false⟩)

/-- Chip select is asserted (R167): ignored while the reset pin is held (R180), and while a transaction runs. -/
def State.beginTransaction (s : State) : State :=
  if s.cru.resetHeld = true ∨ s.link.txn.isSome = true then s
  else if s.link.part = .reset then s.setTxn (some ⟨.empty, false, false⟩)
  else s.decideTxn

/-! The end of a transaction (R167, R179) -/

/-- A release before the first whole byte makes no transaction: a reply that was to be delivered is in the slot as before
(R167, log 8). -/
def State.undoTransaction (t : Txn) (s : State) : State :=
  match t.out with
  | .empty => s.setTxn none
  | .busy => s.setTxn none
  | .reply r => { s with link := { s.link with slot := some r, txn := none } }

/-- The transaction is over, `n` bytes having been clocked. -/
def State.closeTransaction (t : Txn) (n : Nat) (s : State) : State :=
  { s with link := { s.link with txn := none, sdo := t.out.bytes n } }

/-- Chip select is released after `n` whole bytes (R167): `action` is what a taken request brings about; after the
delivery of a RESET_PART reply the link reset is taken (R179). -/
def State.endTransaction (n : Nat) (action : State → State) (s : State) : State :=
  match s.link.txn with
  | none => s
  | some t =>
    if n = 0 then s.undoTransaction t
    else if t.resets then (s.closeTransaction t n).linkReset
    else if t.take then action (s.closeTransaction t n)
    else s.closeTransaction t n

/-! The acceptance table (R176) -/

/-- Whether the acceptance table passes a request in a part state (R176). -/
def PartState.passes (x : PartState) : Request → Bool
  | .nop => decide (x ≠ .reset)
  | .ident => decide (x ≠ .reset)
  | .resetPart => decide (x ≠ .reset)
  | .noticeTake => decide (x ≠ .reset)
  | .noticeSetup .. => decide (x ≠ .reset)
  | .sourceQuery .. => decide (x ≠ .reset)
  | .zoomQuery => decide (x ≠ .reset)
  | .calRead .. => decide (x ≠ .reset)
  | .resume => decide (x = .suspended)
  | .suspend => decide (x = .config)
  | .sourceDefine .. => decide (x = .config ∨ x = .streaming)
  | .sourcePower .. => decide (x = .config ∨ x = .streaming)
  | .calRun .. => decide (x = .config ∨ x = .streaming)
  | .zoomSet .. => decide (x = .config ∨ x = .streaming)
  | .pinSource .. => decide (x = .config ∨ x = .streaming)
  | .stillTake .. => decide (x = .config ∨ x = .streaming)
  | .stillFlow .. => decide (x = .config ∨ x = .streaming)
  | .ladderSet .. => decide (x = .config)
  | .outputSet .. => decide (x = .config)
  | .outputStart => decide (x = .config)
  | .linkTest => decide (x = .config)
  | .outputStop => decide (x = .streaming)

/-! Execution (R172) -/

/-- The request handed to its owning block (R172); the action of SOURCE_POWER, PIN_SOURCE, STILL_TAKE and STILL_FLOW is
chosen by its byte (section 12.1). -/
def State.serve (q : Request) (queryOnly : Bool) (s : State) : Answer :=
  match q with
  | .nop => s.nop
  | .ident => s.ident
  | .linkTest => s.linkTest
  | .resetPart => s.resetPart
  | .suspend => s.suspend
  | .resume => s.resume
  | .sourceDefine src base width period stretch settle sync idle =>
    s.sourceDefine src ⟨base.toNat, width.toNat, period.toNat, stretch.toNat, settle.toNat, sync.toNat, idle.toNat⟩
  | .sourcePower src action => if action = 1 then s.powerWake src else s.powerPark src
  | .sourceQuery src => s.sourceQuery src
  | .calRun src start dir count points => s.calRun src start dir count points queryOnly
  | .calRead src => s.calRead src
  | .ladderSet count rungs => s.ladderSet count rungs queryOnly
  | .outputSet wo period n tolerance m window =>
    s.outputSet ⟨wo.toNat, period.toNat, n.toNat, tolerance.toNat, m.toNat, window.toNat⟩ queryOnly
  | .outputStart => s.outputStart
  | .outputStop => s.outputStop
  | .zoomSet target rate => s.zoomSet target rate
  | .zoomQuery => s.zoomQuery
  | .pinSource on => if on = 1 then s.pinOn else s.pinOff
  | .stillTake kind src => if kind = 1 then s.stillTakeSource src else s.stillTakeFused
  | .stillFlow action => if action = 1 then s.flowPause else if action = 2 then s.flowResume else s.flowAbort
  | .noticeTake => s.noticeTake
  | .noticeSetup mask unmask urgent routine => s.noticeSetup mask unmask urgent routine

/-- What is made of a request that passed the code and modifier checks: the length check (R171), the acceptance table
(R176), the encoding check (R197), then its owner. -/
def State.answer (q : Request) (queryOnly : Bool) (s : State) : Answer :=
  if q.lengthAgrees = false then s.refuse .badLength []
  else if s.link.part.passes q = false then s.refuse .wrongState []
  else if q.encodingGood = false then s.refuse .badValue []
  else s.serve q queryOnly

/-- A taken request executes, its reply being formed (R166, R172). -/
def Answer.execute (a : Answer) (request : Option RawRequest) (code tag : Byte) : State :=
  { a.state with link := { a.state.link with
      phase := .executing, current := some ⟨request, ⟨code, tag, a.result, a.payload⟩, a.state.cru.time⟩ } }

/-- A request is taken (R167, R172). -/
def State.takeRequest (tag : Byte) (queryOnly : Bool) (q : Request) (s : State) : State :=
  (s.answer q queryOnly).execute (some (q.raw tag (modifierByte queryOnly))) q.code tag

/-- A request is taken as its frame carries it (R171). -/
def State.takeRaw (raw : RawRequest) (s : State) : State :=
  match readRequest raw with
  | .error result => (s.refuse result []).execute (some raw) raw.code raw.tag
  | .ok (q, queryOnly) => (s.answer q queryOnly).execute (some raw) raw.code raw.tag

/-- The bytes of a transaction whose request is taken (R169): a frame that fails a check is answered FRAME_ERROR. -/
def State.takeFrame (bytes : List Byte) (s : State) : State :=
  match frameCheck bytes with
  | some cause => (s.refuse .frameError [cause.code]).execute none 0 0
  | none => s.takeRaw (frameRequest bytes)

/-- The owning block forms its reply: it fills the slot (R166, R172). -/
def State.formReply (s : State) : State :=
  match s.link.phase, s.link.current with
  | .executing, some e =>
    { s with link := { s.link with phase := .replyReady, current := none, slot := some e.reply } }
  | _, _ => s

/-- A request row: the whole transaction that carries this request in a well-formed frame (R167, R169), begun if none is in
progress, and as long as any reply (R196, log 5). -/
def State.hostRequest (tag : Byte) (queryOnly : Bool) (q : Request) (s : State) : State :=
  s.beginTransaction.endTransaction Config.wholeTransaction (State.takeRequest tag queryOnly q)

/-! Transaction rows -/

/-- TRANSACTION_START (R167). -/
def execTransactionStart (s : State) : Host.Outcome State Fault Refusal := .next s.beginTransaction

/-- TRANSACTION_END (R167): these whole bytes have been clocked in. -/
def execTransactionEnd (bytes : List Byte) (s : State) : Host.Outcome State Fault Refusal :=
  .next (s.endTransaction bytes.length (State.takeFrame bytes))

/-- FRAME_ERROR (R169): a whole transaction of bytes that are no well-formed frame (log 7). -/
def execFrameError (bytes : List Byte) (s : State) : Host.Outcome State Fault Refusal :=
  .next (s.beginTransaction.endTransaction bytes.length (State.takeFrame bytes))

/-- UNKNOWN (R171): a whole transaction whose well-formed frame carries this code (log 7). -/
def execUnknown (code tag modifier : Byte) (payload : List Byte) (s : State) : Host.Outcome State Fault Refusal :=
  .next (s.beginTransaction.endTransaction Config.wholeTransaction (State.takeRaw ⟨code, tag, modifier, payload⟩))

/-- REPLY_FORMED (R172). -/
def execReplyFormed (s : State) : Host.Outcome State Fault Refusal := .next s.formReply

end Sys2Proof.Machine
end

