-- ==== Sys2Proof/Machine/Requests.lean ====
section
/-! DEFINITION. The request rows of the opcode table: each is the whole transaction whose well-formed frame carries that
request (R167, R169, R197, log 5). What the request does is its owner's operation, which `State.serve` calls. -/

namespace Sys2Proof.Machine

/-- NOP (R181). -/
def execNop (tag : Byte) (s : State) : Host.Outcome State Fault Refusal := .next (s.hostRequest tag false .nop)

/-- IDENT (R193, R199). -/
def execIdent (tag : Byte) (s : State) : Host.Outcome State Fault Refusal := .next (s.hostRequest tag false .ident)

/-- LINK_TEST (R194). -/
def execLinkTest (tag : Byte) (s : State) : Host.Outcome State Fault Refusal :=
  .next (s.hostRequest tag false .linkTest)

/-- RESET_PART (R179). -/
def execResetPart (tag : Byte) (s : State) : Host.Outcome State Fault Refusal :=
  .next (s.hostRequest tag false .resetPart)

/-- SUSPEND (R177). -/
def execSuspend (tag : Byte) (s : State) : Host.Outcome State Fault Refusal :=
  .next (s.hostRequest tag false .suspend)

/-- RESUME (R178). -/
def execResume (tag : Byte) (s : State) : Host.Outcome State Fault Refusal := .next (s.hostRequest tag false .resume)

/-- SOURCE_DEFINE (R20). -/
def execSourceDefine (tag : Byte) (src : Byte) (base width : Half) (period : Word) (stretch : Half) (settle sync idle : Byte)
    (s : State) : Host.Outcome State Fault Refusal :=
  .next (s.hostRequest tag false (.sourceDefine src base width period stretch settle sync idle))

/-- SOURCE_POWER, action wake (R21). -/
def execSourcePowerWake (tag : Byte) (src : Byte) (s : State) : Host.Outcome State Fault Refusal :=
  .next (s.hostRequest tag false (.sourcePower src 1))

/-- SOURCE_POWER, action park (R22). -/
def execSourcePowerPark (tag : Byte) (src : Byte) (s : State) : Host.Outcome State Fault Refusal :=
  .next (s.hostRequest tag false (.sourcePower src 0))

/-- SOURCE_QUERY (R23). -/
def execSourceQuery (tag : Byte) (src : Byte) (s : State) : Host.Outcome State Fault Refusal :=
  .next (s.hostRequest tag false (.sourceQuery src))

/-- CAL_RUN (R52 to R54). -/
def execCalRun (tag : Byte) (src start dir count : Byte) (points : List PointRec)
    (s : State) : Host.Outcome State Fault Refusal :=
  .next (s.hostRequest tag false (.calRun src start dir count points))

/-- CAL_RUN with QUERY_ONLY (R55). -/
def execCalRunQueryOnly (tag : Byte) (src start dir count : Byte) (points : List PointRec)
    (s : State) : Host.Outcome State Fault Refusal :=
  .next (s.hostRequest tag true (.calRun src start dir count points))

/-- CAL_READ (R57). -/
def execCalRead (tag : Byte) (src : Byte) (s : State) : Host.Outcome State Fault Refusal :=
  .next (s.hostRequest tag false (.calRead src))

/-- LADDER_SET (R70, R71). -/
def execLadderSet (tag : Byte) (count : Byte) (rungs : List RungRec) (s : State) : Host.Outcome State Fault Refusal :=
  .next (s.hostRequest tag false (.ladderSet count rungs))

/-- LADDER_SET with QUERY_ONLY (R72). -/
def execLadderSetQueryOnly (tag : Byte) (count : Byte) (rungs : List RungRec)
    (s : State) : Host.Outcome State Fault Refusal :=
  .next (s.hostRequest tag true (.ladderSet count rungs))

/-- OUTPUT_SET (R132). -/
def execOutputSet (tag : Byte) (wo : Half) (period : Word) (n tolerance m window : Byte)
    (s : State) : Host.Outcome State Fault Refusal :=
  .next (s.hostRequest tag false (.outputSet wo period n tolerance m window))

/-- OUTPUT_SET with QUERY_ONLY (R132). -/
def execOutputSetQueryOnly (tag : Byte) (wo : Half) (period : Word) (n tolerance m window : Byte)
    (s : State) : Host.Outcome State Fault Refusal :=
  .next (s.hostRequest tag true (.outputSet wo period n tolerance m window))

/-- OUTPUT_START (R134 to R136). -/
def execOutputStart (tag : Byte) (s : State) : Host.Outcome State Fault Refusal :=
  .next (s.hostRequest tag false .outputStart)

/-- OUTPUT_STOP (R139). -/
def execOutputStop (tag : Byte) (s : State) : Host.Outcome State Fault Refusal :=
  .next (s.hostRequest tag false .outputStop)

/-- ZOOM_SET (R75). -/
def execZoomSet (tag : Byte) (target rate : Half) (s : State) : Host.Outcome State Fault Refusal :=
  .next (s.hostRequest tag false (.zoomSet target rate))

/-- ZOOM_QUERY (R85). -/
def execZoomQuery (tag : Byte) (s : State) : Host.Outcome State Fault Refusal :=
  .next (s.hostRequest tag false .zoomQuery)

/-- PIN_SOURCE, on (R83). -/
def execPinSourceOn (tag : Byte) (s : State) : Host.Outcome State Fault Refusal :=
  .next (s.hostRequest tag false (.pinSource 1))

/-- PIN_SOURCE, off (R84). -/
def execPinSourceOff (tag : Byte) (s : State) : Host.Outcome State Fault Refusal :=
  .next (s.hostRequest tag false (.pinSource 0))

/-- STILL_TAKE, kind SOURCE (R155). -/
def execStillTakeSource (tag : Byte) (src : Byte) (s : State) : Host.Outcome State Fault Refusal :=
  .next (s.hostRequest tag false (.stillTake 1 src))

/-- STILL_TAKE, kind FUSED (R156). -/
def execStillTakeFused (tag : Byte) (src : Byte) (s : State) : Host.Outcome State Fault Refusal :=
  .next (s.hostRequest tag false (.stillTake 2 src))

/-- STILL_FLOW, action PAUSE (R161). -/
def execStillFlowPause (tag : Byte) (s : State) : Host.Outcome State Fault Refusal :=
  .next (s.hostRequest tag false (.stillFlow 1))

/-- STILL_FLOW, action RESUME (R161). -/
def execStillFlowResume (tag : Byte) (s : State) : Host.Outcome State Fault Refusal :=
  .next (s.hostRequest tag false (.stillFlow 2))

/-- STILL_FLOW, action ABORT (R161, R162). -/
def execStillFlowAbort (tag : Byte) (s : State) : Host.Outcome State Fault Refusal :=
  .next (s.hostRequest tag false (.stillFlow 3))

/-- NOTICE_TAKE (R188). -/
def execNoticeTake (tag : Byte) (s : State) : Host.Outcome State Fault Refusal :=
  .next (s.hostRequest tag false .noticeTake)

/-- NOTICE_SETUP (R189). -/
def execNoticeSetup (tag : Byte) (mask unmask urgent routine : Half) (s : State) : Host.Outcome State Fault Refusal :=
  .next (s.hostRequest tag false (.noticeSetup mask unmask urgent routine))

end Sys2Proof.Machine
end

