-- ==== Sys2Proof/Machine/Dispatch.lean ====
section
/-! DEFINITION. One arm for each command of the opcode table, in the order of Syntax. -/

namespace Sys2Proof.Machine

def exec (i : Instr) (s : State) : Host.Outcome State Fault Refusal :=
  match i with
  | .transactionStart => Sys2Proof.Machine.execTransactionStart s
  | .frameError bytes => Sys2Proof.Machine.execFrameError bytes s
  | .unknown code tag modifier payload => Sys2Proof.Machine.execUnknown code tag modifier payload s
  | .nop tag => Sys2Proof.Machine.execNop tag s
  | .ident tag => Sys2Proof.Machine.execIdent tag s
  | .linkTest tag => Sys2Proof.Machine.execLinkTest tag s
  | .resetPart tag => Sys2Proof.Machine.execResetPart tag s
  | .linkResetEnd => Sys2Proof.Machine.execLinkResetEnd s
  | .suspend tag => Sys2Proof.Machine.execSuspend tag s
  | .resume tag => Sys2Proof.Machine.execResume tag s
  | .sourceDefine tag src base width period stretch settle sync idle => Sys2Proof.Machine.execSourceDefine tag src base width period stretch settle sync idle s
  | .sourcePowerWake tag src => Sys2Proof.Machine.execSourcePowerWake tag src s
  | .sourcePowerPark tag src => Sys2Proof.Machine.execSourcePowerPark tag src s
  | .sourceQuery tag src => Sys2Proof.Machine.execSourceQuery tag src s
  | .calRun tag src start dir count points => Sys2Proof.Machine.execCalRun tag src start dir count points s
  | .calRunQueryOnly tag src start dir count points => Sys2Proof.Machine.execCalRunQueryOnly tag src start dir count points s
  | .calRead tag src => Sys2Proof.Machine.execCalRead tag src s
  | .ladderSet tag count rungs => Sys2Proof.Machine.execLadderSet tag count rungs s
  | .ladderSetQueryOnly tag count rungs => Sys2Proof.Machine.execLadderSetQueryOnly tag count rungs s
  | .outputSet tag wo period n tolerance m window => Sys2Proof.Machine.execOutputSet tag wo period n tolerance m window s
  | .outputSetQueryOnly tag wo period n tolerance m window => Sys2Proof.Machine.execOutputSetQueryOnly tag wo period n tolerance m window s
  | .outputStart tag => Sys2Proof.Machine.execOutputStart tag s
  | .outputStop tag => Sys2Proof.Machine.execOutputStop tag s
  | .zoomSet tag target rate => Sys2Proof.Machine.execZoomSet tag target rate s
  | .zoomQuery tag => Sys2Proof.Machine.execZoomQuery tag s
  | .pinSourceOn tag => Sys2Proof.Machine.execPinSourceOn tag s
  | .pinSourceOff tag => Sys2Proof.Machine.execPinSourceOff tag s
  | .stillTakeSource tag src => Sys2Proof.Machine.execStillTakeSource tag src s
  | .stillTakeFused tag src => Sys2Proof.Machine.execStillTakeFused tag src s
  | .stillFlowPause tag => Sys2Proof.Machine.execStillFlowPause tag s
  | .stillFlowResume tag => Sys2Proof.Machine.execStillFlowResume tag s
  | .stillFlowAbort tag => Sys2Proof.Machine.execStillFlowAbort tag s
  | .noticeTake tag => Sys2Proof.Machine.execNoticeTake tag s
  | .noticeSetup tag mask unmask urgent routine => Sys2Proof.Machine.execNoticeSetup tag mask unmask urgent routine s
  | .hardReset => Sys2Proof.Machine.execHardReset s
  | .resetRelease strapLink strapAttn strapClk1 strapClk0 => Sys2Proof.Machine.execResetRelease strapLink strapAttn strapClk1 strapClk0 s
  | .clockLock => Sys2Proof.Machine.execClockLock s
  | .frameStart src => Sys2Proof.Machine.execFrameStart src s
  | .metadataLine src pixels => Sys2Proof.Machine.execMetadataLine src pixels s
  | .imageLine src pixels => Sys2Proof.Machine.execImageLine src pixels s
  | .frameEnd src => Sys2Proof.Machine.execFrameEnd src s
  | .settleExpiry src => Sys2Proof.Machine.execSettleExpiry src s
  | .syncExpiry src => Sys2Proof.Machine.execSyncExpiry src s
  | .frameTimeout src => Sys2Proof.Machine.execFrameTimeout src s
  | .idleExpiry src => Sys2Proof.Machine.execIdleExpiry src s
  | .faultReport src => Sys2Proof.Machine.execFaultReport src s
  | .tick => Sys2Proof.Machine.execTick s
  | .matchWindowExpiry => Sys2Proof.Machine.execMatchWindowExpiry s
  | .composeComplete => Sys2Proof.Machine.execComposeComplete s
  | .stillGroupBegin => Sys2Proof.Machine.execStillGroupBegin s
  | .stillGroupEnd => Sys2Proof.Machine.execStillGroupEnd s
  | .pauseTimeout => Sys2Proof.Machine.execPauseTimeout s
  | .attnPulseEnd => Sys2Proof.Machine.execAttnPulseEnd s
  | .transactionEnd bytes => Sys2Proof.Machine.execTransactionEnd bytes s
  | .replyFormed => Sys2Proof.Machine.execReplyFormed s
  | .videoTransmissionEnd => Sys2Proof.Machine.execVideoTransmissionEnd s

end Sys2Proof.Machine
end

