-- ==== Sys2Proof/Machine/Idle.lean ====
section
/-! DEFINITION. What the part does by itself when no command waits: the next event of its own that is due, or the passing of
one microsecond (log 1). -/

namespace Sys2Proof.Machine

/-- Whether a running timer has expired. -/
def Timer.due (t : Option Timer) (now : Time) : Bool :=
  match t with
  | none => false
  | some x => x.expired now

/-- Whether a span that began at `start`, if it began, has lasted `len`. -/
def spanOver (start : Option Time) (len : Nat) (now : Time) : Bool :=
  match start with
  | none => false
  | some t => decide (len ≤ now.since t)

/-- The events of one source that are due: a fault report, and the expiries of its timers in the order of R5. -/
def State.sourceDue (s : State) (i : Src) : List Instr :=
  (if (s.zc.reports.get i) ≠ [] then [Instr.faultReport i] else []) ++
    (if Timer.due (s.source i).settle s.cru.time then [Instr.settleExpiry i] else []) ++
    (if Timer.due (s.source i).sync s.cru.time then [Instr.syncExpiry i] else []) ++
    (if Timer.due (s.source i).frame s.cru.time then [Instr.frameTimeout i] else []) ++
    (if Timer.due (s.source i).idle s.cru.time then [Instr.idleExpiry i] else [])

/-- Whether the tick deadline is reached (R141). -/
def State.tickDue (s : State) : Bool :=
  match s.link.part, s.cp.deadline with
  | .streaming, some d => !ahead d s.cru.time
  | _, _ => false

/-- The pause timer of a still (R161). -/
def State.pauseTimer (s : State) : Option Timer := s.cc.still.bind Still.pause

/-- The events of the link, the attention line, the output port and the capture controller that are due. -/
def State.partDue (s : State) : List Instr :=
  (if Timer.due s.nq.pulse s.cru.time then [Instr.attnPulseEnd] else []) ++
    (if spanOver (s.link.current.map Executing.since) Config.executionLimit s.cru.time then [Instr.replyFormed] else []) ++
    (if spanOver s.cru.linkResetAt Config.linkResetLimit s.cru.time then [Instr.linkResetEnd] else []) ++
    (if Timer.due (s.op.video.map VideoTx.timer) s.cru.time then [Instr.videoTransmissionEnd] else []) ++
    (if Timer.due (s.op.group.map GroupTx.timer) s.cru.time then [Instr.stillGroupEnd] else []) ++
    (if Timer.due s.pauseTimer s.cru.time then [Instr.pauseTimeout] else []) ++
    (if s.tickDue then [Instr.tick] else []) ++
    (if s.readyGroup.isSome then [Instr.stillGroupBegin] else [])

/-- Every event of the part's own that is due, in the order in which the model takes them (log 1). -/
def State.due (s : State) : List Instr :=
  s.sourceDue .s0 ++ s.sourceDue .s1 ++ s.sourceDue .s2 ++ s.sourceDue .s3 ++ s.partDue

/-- The part by itself: the first due event is taken, otherwise one microsecond passes (log 1). -/
def idle (s : State) : Host.Outcome State Fault Refusal :=
  match s.due with
  | [] => .next s.passMicrosecond
  | c :: _ => exec c s

end Sys2Proof.Machine
end

