-- ==== Sys2Proof/Machine/Step.lean ====
section
/-! DEFINITION. One step: the command at the front of the queue is taken and executed on the machine with the queue's rest;
on an empty queue the part runs by itself (log 1). -/

namespace Sys2Proof.Machine

/-- The machine with this queue. -/
def State.setPendingQueue (queue : List Instr) (s : State) : State := { s with pending := queue }

/-- One step. -/
def step (s : State) : Host.Outcome State Fault Refusal :=
  match s.pending with
  | [] => idle s
  | c :: rest => exec c (s.setPendingQueue rest)

/-- The command a table word spells put at the front of the queue; no row of the table gives bits, so none is spelled
(log 4). -/
def State.withFetchWord (s : State) (nbits w : Nat) : State :=
  match decodeTableWord nbits w with
  | none => s
  | some c => s.setPendingQueue (c :: s.pending)

end Sys2Proof.Machine
end

