-- ==== Sys2Proof/Safety.lean ====
section
/-! DEFINITION. What counts as a safe run of the ZH40, and the laws of the device in the terms claims use: each law is a
property of one state that every step keeps. -/

namespace Sys2Proof.Machine

/-- A law that every step keeps. -/
def Kept (law : State → Prop) : Prop := ∀ s s', law s → step s = .next s' → law s'

/-- The machine goes on from every state: no command and no passing of time stops it. -/
def NeverStops : Prop := ∀ s, ∃ s', step s = .next s'

/-! Sources (R1, R4, R5) -/

/-- A source record as section 1.2 gathers it: the enable line by the state (R4), the timer of the state (R5), a fault
cause exactly in FAULT (R1), purpose TEST only on the way through a link test (R7), and an undefined source PARKED (R6). -/
structure Source.Lawful (x : Source) : Prop where
  enable : x.enable = x.state.powered
  settle : x.settle.isSome = true ↔ x.state = .waking
  sync : x.sync.isSome = true ↔ x.state = .syncing
  frame : x.frame.isSome = true ↔ x.state.usable = true
  idle : x.idle.isSome = true → x.state = .warm
  cause : x.cause.isSome = true ↔ x.state = .fault
  purpose : x.purpose = .test → x.state = .waking ∨ x.state = .syncing
  undefined : x.defined = false → x.state = .parked

/-- Every source record is lawful. -/
def SourceLaw (s : State) : Prop := ∀ i, (s.source i).Lawful

/-- The idle timer of a source runs exactly under the conditions of R8. -/
def IdleLaw (s : State) : Prop := ∀ i, (s.source i).idle.isSome = s.idleRuns i

/-! Frame rings (R27, R28, R31, R43, R44) -/

/-- Whether a receiver has a frame in progress that has a record (R24). -/
def Intake.filling (x : Intake) : Bool := decide (x = .awaitMeta ∨ x = .receiving)

/-- A record carries everything a metadata line gives it (R28). -/
def FrameRec.HasMeta (r : FrameRec) : Prop :=
  r.counter.isSome = true ∧ r.focus.isSome = true ∧ r.window.isSome = true

/-- A ring with its receiver: at most 4 records on distinct slots, a FILLING record last, unheld and there exactly while
the receiver fills it, READY records complete, and at most one compositor hold (R24, R27, R28, R31, R44). -/
structure RingLawful (ring : List FrameRec) (x : Receiver) : Prop where
  depth : ring.length ≤ Config.ringDepth
  slots : (ring.map FrameRec.slot).Nodup
  last : ∀ r ∈ ring, r.isReady = false → ring.getLast? = some r ∧ r.held = false
  intake : ring.any (fun r => !r.isReady) = x.intake.filling
  filled : x.intake = .receiving → ∀ r ∈ ring, r.HasMeta
  ready : ∀ r ∈ ring, r.isReady = true → r.HasMeta ∧ r.means.isSome = true
  holds : (ring.filter FrameRec.heldC).length ≤ 1

/-- The number of still holds in the ring of a source: one for the source of a source still, otherwise none (R43). -/
def State.stillHoldsDue (s : State) (i : Src) : Nat :=
  match s.cc.still with
  | none => 0
  | some x => if x.source = some i then 1 else 0

/-- Every ring is lawful, and the still hold rests where R43 places it. -/
structure RingLaw (s : State) : Prop where
  ring : ∀ i, RingLawful (s.ring i) (s.receiver i)
  still : ∀ i, ((s.ring i).filter FrameRec.heldS).length = s.stillHoldsDue i

/-! Calibration (R46, R47) -/

/-- A calibration list whose points, in position order, have strictly ascending focus codes, at most 1023 (R46, R47). -/
def CalList.Ascending (l : CalList) : Prop :=
  (l.points.map CalPoint.focus).Pairwise (· < ·) ∧ ∀ p ∈ l.points, p.focus ≤ 1023

/-- Every calibration list is ascending (R47). -/
def CalLaw (s : State) : Prop := ∀ i, (s.gu.cal.get i).Ascending

/-! Settings and the transition record (R87, R99, R121, R131) -/

/-- Every output setting within its range (R131). -/
structure Settings.Lawful (x : Settings) : Prop where
  wo : 640 ≤ x.wo ∧ x.wo ≤ 3840 ∧ x.wo % 16 = 0
  period : 8333 ≤ x.period ∧ x.period ≤ 100000
  n : x.n ≤ 32
  tolerance : x.tolerance ≤ 255
  m : 1 ≤ x.m ∧ x.m ≤ 15
  window : 1 ≤ x.window ∧ x.window ≤ 255

/-- One match gain within 512 to 2048 (R121). -/
def GainLawful (g : Nat) : Prop := 512 ≤ g ∧ g ≤ 2048

/-- A transition record within the ranges of R87: a RESCUE record stays in ARMED, and a blend has begun its index. -/
structure Transition.Lawful (r : Transition) : Prop where
  n : r.n ≤ 32
  index : r.index ≤ r.n
  gains : GainLawful r.gains.r ∧ GainLawful r.gains.g ∧ GainLawful r.gains.b
  run : r.run ≤ 15
  ticks : r.ticks ≤ 255
  rescue : r.kind = .rescue → r.phase = .armed
  matching : r.phase = .matching → 1 ≤ r.n
  blending : r.phase = .blending → 1 ≤ r.index

/-- The output settings, the transition record, and the record of every spoiled change are within their ranges. -/
structure RecordLaw (s : State) : Prop where
  settings : s.cp.settings.Lawful
  record : ∀ r, s.zc.record = some r → r.Lawful
  spoiled : ∀ i, ∀ x ∈ s.zc.reports.get i, ∀ y, x.spoiled = some y → y.record.Lawful

/-! Part state and output state (R3, R73, R80, R87, R133, R175, R190) -/

/-- The part state against the output state, the roles and the lock: roles, a record, held, pinned and a tick deadline
exist in STREAMING only (R3, R73, R87, R133, R175), and the time base stands at 0 while LOCKING (R190). -/
structure OutputLaw (s : State) : Prop where
  held : s.cru.resetHeld = true → s.cru.lock = .locking
  locking : s.cru.lock = .locking → s.link.part = .reset ∧ s.cru.time = 0
  sub : s.link.part = .streaming ↔ s.cp.sub ≠ .none
  deadline : s.link.part = .streaming ↔ s.cp.deadline.isSome = true
  waiting : s.cp.pendingPrimary.isSome = true → s.cp.sub = .starting
  record : s.link.part ≠ .streaming → s.zc.record = none
  zoom : s.link.part ≠ .streaming → s.zc.held = false ∧ s.zc.pinned = false
  roles : s.link.part ≠ .streaming → ∀ i, (s.source i).state.isRole = false
  reports : s.link.part ≠ .streaming → ∀ i, ∀ x ∈ s.zc.reports.get i, x.role.isRole = false ∧ x.spoiled = none

/-! The picture (R3, R12, R15, R76, R87, R104 to R110, R136) -/

/-- The pending reports of a source that hold a role in the picture. -/
def State.roleReports (s : State) (i : Src) : List Report := (s.zc.reports.get i).filter fun x => x.role.isRole

/-- The state the zoom controller takes a source to be in: that of a pending report that holds a role, otherwise the one it
stands in (R12, R15). -/
def State.belief (s : State) (i : Src) : SrcState :=
  match s.roleReports i with
  | [] => (s.source i).state
  | x :: _ => x.role

/-- Whether the zoom controller takes a source to be in the picture. -/
def State.believed (s : State) (i : Src) : Bool := (s.belief i).isRole

/-- The record is in BLENDING. -/
def State.Blending (s : State) : Prop := ∃ r, s.zc.record = some r ∧ r.phase = .blending

/-- The first law of R3: with no fault report pending at most one source is PRIMARY; OUTGOING and INCOMING sources exist
together, one of each, exactly while the record is in BLENDING, and then no source is PRIMARY. -/
structure FirstLaw (s : State) : Prop where
  primary : (∀ i, s.zc.reports.get i = []) →
    ∀ i j, (s.source i).state = .primary → (s.source j).state = .primary → i = j
  outgoing : (∀ i, s.zc.reports.get i = []) → ((∃ i, (s.source i).state = .outgoing) ↔ s.Blending) ∧
    ∀ i j, (s.source i).state = .outgoing → (s.source j).state = .outgoing → i = j
  incoming : (∀ i, s.zc.reports.get i = []) → ((∃ i, (s.source i).state = .incoming) ↔ s.Blending) ∧
    ∀ i j, (s.source i).state = .incoming → (s.source j).state = .incoming → i = j
  blending : (∀ i, s.zc.reports.get i = []) → s.Blending → ∀ i, (s.source i).state ≠ .primary

/-- What the zoom controller takes the picture to be, and the records that go with it; with no report pending its view is
the sources' own, and this is the first law of R3. A RUNNING output has one PRIMARY, or the pair of its blend; any
other output has no role (R3, R133). An UP or DOWN record goes from the primary, a RESCUE record stands while the output
is STARTING or FROZEN (R87, R106, R107); a MATCHING target is WARM or its fault is pending (R92, R93); a spoiled change
stands with the report of one of its two sources, and its taker's report stands in the role of the primary with no
record (R110); a pending primary waits in STARTING with no record (R107, R136). -/
structure PictureLaw (s : State) : Prop where
  single : ∀ i, (s.roleReports i).length ≤ 1 ∧ (s.roleReports i ≠ [] → (s.source i).state.isRole = false)
  quiet : s.cp.sub ≠ .running → ∀ i, s.believed i = false
  lone : s.cp.sub = .running → ¬ s.Blending → ∃ p, s.belief p = .primary ∧ ∀ i, i ≠ p → s.believed i = false
  blend : ∀ r, s.zc.record = some r → r.phase = .blending → s.cp.sub = .running ∧ r.kind ≠ .rescue ∧ r.giver ≠ r.taker ∧
    s.belief r.giver = .outgoing ∧ s.belief r.taker = .incoming ∧
    ∀ i, i ≠ r.giver → i ≠ r.taker → s.believed i = false
  handoff : ∀ r, s.zc.record = some r → r.kind ≠ .rescue → r.phase ≠ .blending →
    s.cp.sub = .running ∧ r.giver ≠ r.taker ∧ s.belief r.giver = .primary
  rescue : ∀ r, s.zc.record = some r → r.kind = .rescue →
    (s.cp.sub = .starting ∨ s.cp.sub = .frozen) ∧ r.giver ≠ r.taker ∧ r.phase = .armed
  matching : ∀ r, s.zc.record = some r → r.phase = .matching →
    (s.source r.taker).state = .warm ∨ ((s.source r.taker).state = .fault ∧ s.zc.reports.get r.taker ≠ [])
  spoiled : ∀ i, ∀ x ∈ s.zc.reports.get i, ∀ y, x.spoiled = some y → y.change ≠ .rescue ∧ y.record.giver ≠ y.record.taker ∧
    (i = y.record.giver ∨ (i = y.record.taker ∧ x.role = .primary ∧ s.zc.record = none ∧ s.cp.sub = .running))
  waiting : s.cp.pendingPrimary.isSome = true → s.cp.sub = .starting ∧ s.zc.record = none
  rungs : ∀ l, s.zc.ladder = some l → (l.map Rung.source).Nodup

/-! Zoom ladder (R69, R70, R74) -/

/-- Whether the present ladder has a rung of a source. -/
def State.OnLadder (s : State) (i : Src) : Prop := ∃ l, s.zc.ladder = some l ∧ ∃ r ∈ l, r.source = i

/-- A source that has, or is to have, a part in the picture. -/
def State.Involved (s : State) (i : Src) : Prop :=
  (s.source i).state.isRole = true ∨ s.cp.pendingPrimary = some i ∨
    (∃ r, s.zc.record = some r ∧ (r.giver = i ∨ r.taker = i)) ∨
    (∃ j, ∃ x ∈ s.zc.reports.get j, ∃ y, x.spoiled = some y ∧ (y.record.giver = i ∨ y.record.taker = i)) ∨
    s.believed i = true

/-- The law of R74 with what keeps it: T and Z within the limits of the ladder, every rung's source described within
them, and every source with a part in the picture on the ladder (R69, R70, R88). -/
structure ZoomLaw (s : State) : Prop where
  stretch : ∀ i, 256 ≤ (s.source i).stretch
  rungs : ∀ l, s.zc.ladder = some l → ∀ r ∈ l,
    s.zmin l ≤ (s.source r.source).base ∧ (s.source r.source).zcap ≤ s.zmax l
  nonempty : ∀ l, s.zc.ladder = some l → l ≠ []
  shown : ∀ l, s.zc.ladder = some l → s.zmin l ≤ s.zc.shown ∧ s.zc.shown ≤ s.zmax l
  target : ∀ l, s.zc.ladder = some l → s.zmin l ≤ s.zc.target ∧ s.zc.target ≤ s.zmax l
  involved : ∀ i, s.Involved i → s.OnLadder i

/-! Control link (R166, R167, R174) -/

/-- Whether a transaction in progress delivers a reply. -/
def Txn.delivers (t : Txn) : Bool :=
  match t.out with
  | .empty => false
  | .busy => false
  | .reply _ => true

/-- The link phase against the current request, the reply slot and the transaction in progress: there is exactly one
reply for a request taken, being formed, held, or being delivered (R166, R167, R174). -/
structure LinkLaw (s : State) : Prop where
  executing : s.link.phase = .executing ↔ s.link.current.isSome = true
  slot : s.link.slot.isSome = true → s.link.phase = .replyReady
  ready : s.link.phase = .replyReady → s.link.slot.isSome = true ∨ ∃ t, s.link.txn = some t ∧ t.delivers = true
  delivering : ∀ t, s.link.txn = some t → t.delivers = true →
    s.link.phase = .replyReady ∧ s.link.slot = none ∧ (t.take = true ∨ t.resets = true)
  taking : ∀ t, s.link.txn = some t → t.take = true → t.delivers = true ∨ s.link.phase = .idle

/-! Notices (R182 to R187) -/

/-- The kinds kept per source (R182). -/
def NoticeKind.perSource : NoticeKind → Bool
  | .sourceState => true
  | .sourceFault => true
  | .linkFault => true
  | .frameLoss => true
  | .ready => false
  | .handoffDone => false
  | .handoffAborted => false
  | .zoomHeld => false
  | .matchLimited => false
  | .outputRepeat => false
  | .outputFrozen => false
  | .stillDone => false
  | .stillAborted => false
  | .testDone => false

/-- The name of an entry (R182). -/
def Notice.name (e : Notice) : NoticeKind × Option Src := (e.kind, e.source)

/-- An entry within its ranges: its payload is one of its kind, its source is that of a per-source kind, its count is 1 to
255, and a fixed-urgent kind is urgent (R182, R183). -/
structure Notice.Lawful (e : Notice) : Prop where
  kind : e.payload.kind = e.kind
  source : e.source.isSome = e.kind.perSource
  count : 1 ≤ e.count ∧ e.count ≤ 255
  fixed : e.kind.fixedUrgent = true → e.cls = .urgent

/-- The notice queue never holds two entries of one name, and reads as all urgent entries followed by all routine ones
(R182, R184). -/
structure NoticeLaw (s : State) : Prop where
  names : (s.nq.entries.map Notice.name).Nodup
  entries : ∀ e ∈ s.nq.entries, e.Lawful
  order : s.nq.entries.Pairwise fun a b => b.isUrgent = true → a.isUrgent = true

/-- The part while it is in RESET: every block but the clock and the receivers' view of frames passing by stands at its
reset value, and no request is to be taken (R2, R29, R166, R167, R185, R190, R192). -/
structure AtRest (s : State) : Prop where
  link : s.link.phase = .idle ∧ s.link.current = none ∧ s.link.slot = none
  txn : ∀ t, s.link.txn = some t → t = ⟨.empty, false, false⟩
  nq : s.nq = NoticeQueue.reset
  sources : s.sources = Four.fill Source.reset
  receivers : ∀ i, (s.receiver i).intake.filling = false ∧
    (s.cru.resetHeld = true → s.receiver i = Receiver.reset)
  rings : s.fs.rings = Four.fill []
  windows : s.gu.windows = Four.fill none
  zc : s.zc = ZoomCtl.reset
  cp : s.cp = Compositor.reset
  op : s.op = { video := none, queue := [], group := none }
  cc : s.cc = { still := none, lastId := 0 }
  test : s.cru.test = none

/-- The RESET part state is a rest, and the reset pin and the search for lock keep the part in it (R190, R192). -/
structure ResetLaw (s : State) : Prop where
  held : s.cru.resetHeld = true → s.cru.lock = .locking
  locking : s.cru.lock = .locking → s.link.part = .reset
  rest : s.link.part = .reset → AtRest s

/-- The attention line: in level mode asserted exactly while an entry waits, in pulse mode exactly while a pulse runs
(R186, R187). -/
def AttnLaw (s : State) : Prop :=
  match s.cru.straps.attnMode with
  | .level => s.nq.pulse = none ∧ s.nq.attn = !s.nq.entries.isEmpty
  | .pulse => s.nq.attn = s.nq.pulse.isSome

/-! The host's side of a request -/

/-- The link is free for a request: the pin is not held, the part is not in RESET, no transaction runs, and the next
transaction takes its request: the phase is IDLE with the slot empty, or a reply other than an executed RESET_PART's waits (R167, R179). -/
structure LinkReady (s : State) : Prop where
  held : s.cru.resetHeld = false
  part : s.link.part ≠ .reset
  txn : s.link.txn = none
  phase : (s.link.phase = .idle ∧ s.link.slot = none) ∨
    ∃ r, s.link.phase = .replyReady ∧ s.link.slot = some r ∧ r.isResetPart = false

/-- What a transaction that begins now clocks out when its request is taken (R167). -/
def State.outgoing (s : State) : LinkOut :=
  match s.link.phase, s.link.slot with
  | .replyReady, some r => .reply r
  | _, _ => .empty

/-- The machine after a transaction of `n` bytes has delivered what it had to deliver, before its request acts. -/
def State.delivered (n : Nat) (s : State) : State :=
  { s with link := { s.link with slot := none, txn := none, sdo := s.outgoing.bytes n } }

/-- The machine with this reply being formed for a request it took, or for a frame that failed its checks (R166, R172). -/
def State.forming (request : Option RawRequest) (reply : Reply) (s : State) : State :=
  { s with link := { s.link with phase := .executing, current := some ⟨request, reply, s.cru.time⟩ } }

/-- The machine with a request taken and this reply being formed for it (R166, R172, R173). -/
def State.answered (tag : Byte) (queryOnly : Bool) (q : Request) (result : Result) (payload : List Byte) (s : State) :
    State :=
  s.forming (some (q.raw tag (modifierByte queryOnly))) ⟨q.code, tag, result, payload⟩

/-! Ticks, notices and the choice of a rescue -/

/-- A tick has fallen due and is no overrun (R141, R143). -/
structure TickDue (s : State) (d : Time) : Prop where
  part : s.link.part = .streaming
  deadline : s.cp.deadline = some d
  due : ahead d s.cru.time = false
  free : s.composing = false

/-- Z after stage 1 of a zoom step that is bounded by the range of one source (R77, R78). -/
def State.steppedZoom (s : State) (p : Src) : Nat :=
  zoomMove s.zc.shown s.zc.rate (clamp s.zc.target (s.source p).base (s.source p).zcap)

/-- An occurrence with this payload has been posted on the way from `s` to `t`, unless its kind is masked (R183). -/
def Posted (s t : State) (p : Payload) : Prop :=
  s.nq.isMasked p.kind = true ∨ ∃ e ∈ t.nq.entries, e.kind = p.kind ∧ e.payload = p

/-- No occurrence of this kind has been posted on the way from `s` to `t`. -/
def NotPosted (s t : State) (k : NoticeKind) : Prop := ∀ e ∈ t.nq.entries, e.kind = k → e ∈ s.nq.entries

/-- The adjacent source a rescue from `i` passes the picture to at once: the lower one if it is WARM, otherwise the upper one
if that is WARM (R105). -/
def WarmChoice (s : State) (i p : Src) : Prop :=
  (s.source p).state = .warm ∧
    (s.lowerOf i = some p ∨ (s.upperOf i = some p ∧ ∀ q, s.lowerOf i = some q → (s.source q).state ≠ .warm))

/-- The adjacent source a rescue from `i` waits for: none is WARM, and it is the lower one unless that is in FAULT, otherwise
the upper one (R106); it is defined, and PARKED, WAKING or SYNCING. -/
def ColdChoice (s : State) (i p : Src) : Prop :=
  (∀ q, s.lowerOf i = some q ∨ s.upperOf i = some q → (s.source q).state ≠ .warm) ∧ (s.source p).defined = true ∧
    ((s.source p).state = .parked ∨ (s.source p).state = .waking ∨ (s.source p).state = .syncing) ∧
    (s.lowerOf i = some p ∨ (s.upperOf i = some p ∧ ∀ q, s.lowerOf i = some q → (s.source q).state = .fault))

/-- No source adjacent to `i` is out of FAULT (R106). -/
def NoChoice (s : State) (i : Src) : Prop :=
  ∀ q, s.lowerOf i = some q ∨ s.upperOf i = some q → (s.source q).state = .fault

/-- A source as a wake leaves it (R6). -/
def State.wokenRec (s : State) (i : Src) : Source :=
  { s.source i with
    state := .waking, purpose := .normal, lastReady := none, enable := true,
    settle := some ⟨s.cru.time, (s.source i).settleMs * 1000⟩ }

end Sys2Proof.Machine
end

