-- ==== Sys2Proof/WellFormed.lean ====
section
/-! DEFINITION. Which commands a sender can give: the rows whose operands the row's own words bind. Every other operand is
taken at every value, its owner's checks refusing what is out of range. -/

namespace Sys2Proof

/-- A FRAME_ERROR row carries whole bytes that fail a check of R169, at least one. -/
def frameErrorWf (bytes : List Byte) : Bool := !bytes.isEmpty && (Machine.frameCheck bytes).isSome

/-- An UNKNOWN row carries a code that is none of the twenty-two requests, and a payload a frame can hold (R169, R171). -/
def unknownWf (code : Byte) (payload : List Byte) : Bool :=
  !Machine.knownCode code && decide (payload.length ≤ Config.maxPayload)

/-- The longest CAL_RUN frame: 4 + 6 × 41 = 250 bytes (R169, R197). -/
def calRunWf (points : List PointRec) : Bool := decide (points.length ≤ 41)

/-- The longest LADDER_SET frame: 1 + 9 × 27 = 244 bytes (R169, R197). -/
def ladderSetWf (rungs : List RungRec) : Bool := decide (rungs.length ≤ 27)

/-- A METADATA_LINE or IMAGE_LINE row carries a line of at least one pixel. -/
def lineWf (pixels : List Pixel) : Bool := !pixels.isEmpty

/-- Whether a command's operands are ones its row can carry. -/
def Instr.wf : Instr → Bool
  | .frameError bytes => frameErrorWf bytes
  | .unknown code _ _ payload => unknownWf code payload
  | .calRun _ _ _ _ _ points => calRunWf points
  | .calRunQueryOnly _ _ _ _ _ points => calRunWf points
  | .ladderSet _ _ rungs => ladderSetWf rungs
  | .ladderSetQueryOnly _ _ rungs => ladderSetWf rungs
  | .metadataLine _ pixels => lineWf pixels
  | .imageLine _ pixels => lineWf pixels
  | .transactionStart => true
  | .nop _ => true
  | .ident _ => true
  | .linkTest _ => true
  | .resetPart _ => true
  | .linkResetEnd => true
  | .suspend _ => true
  | .resume _ => true
  | .sourceDefine .. => true
  | .sourcePowerWake .. => true
  | .sourcePowerPark .. => true
  | .sourceQuery .. => true
  | .calRead .. => true
  | .outputSet .. => true
  | .outputSetQueryOnly .. => true
  | .outputStart _ => true
  | .outputStop _ => true
  | .zoomSet .. => true
  | .zoomQuery _ => true
  | .pinSourceOn _ => true
  | .pinSourceOff _ => true
  | .stillTakeSource .. => true
  | .stillTakeFused .. => true
  | .stillFlowPause _ => true
  | .stillFlowResume _ => true
  | .stillFlowAbort _ => true
  | .noticeTake _ => true
  | .noticeSetup .. => true
  | .hardReset => true
  | .resetRelease .. => true
  | .clockLock => true
  | .frameStart _ => true
  | .frameEnd _ => true
  | .settleExpiry _ => true
  | .syncExpiry _ => true
  | .frameTimeout _ => true
  | .idleExpiry _ => true
  | .faultReport _ => true
  | .tick => true
  | .matchWindowExpiry => true
  | .composeComplete => true
  | .stillGroupBegin => true
  | .stillGroupEnd => true
  | .pauseTimeout => true
  | .attnPulseEnd => true
  | .transactionEnd _ => true
  | .replyFormed => true
  | .videoTransmissionEnd => true

end Sys2Proof
end

