-- ==== Sys2Proof/Certificates/Slice0/Obligations.lean ====
section
/-! DEFINITION. The statements for the provers. A statement whose docstring names a log entry rests on the model's choice for
that part; every other clause is the cited rule's. -/

open Sys2Proof Sys2Proof.Machine

/-! The queue and the step -/

/-- One step takes the command at the front of the queue and executes it on the machine with the queue's rest. -/
def Obligations.StepTakesFrontCommand : Prop :=
  ∀ (c : Instr) (rest : List Instr) (s : State),
    step { s with pending := c :: rest } = exec c { s with pending := rest }

/-- Every command completes from every state and leaves the queue alone, and no step stops the machine. The model's
choice (log 1): with no command waiting, the first event of the part's own that is due is taken; with none due, the
locked time base moves on by 1 µs and nothing else changes (R190, R191). -/
def Obligations.EveryStepCompletes : Prop :=
  ((∀ (c : Instr) (s : State), ∃ t, exec c s = .next t ∧ t.pending = s.pending) ∧ NeverStops) ∧
  (∀ s : State, s.pending = [] →
    (∀ c rest, s.due = c :: rest → step s = exec c s) ∧
    (s.due = [] → s.cru.lock = .locked → step s = .next { s with cru := { s.cru with time := s.cru.time + 1 } }) ∧
    (s.due = [] → s.cru.lock = .locking → step s = .next s))

/-! Resets and lock (chapter 11) -/

/-- HARD_RESET: every block takes its hard reset value (R2, R24, R29, R48, R64, R69, R73, R87, R131, R133, R154, R166,
R185, R190); the straps stand until the release (R191). The end of the transaction that delivers the reply to
RESET_PART takes the link reset: the straps, the lock, the time base and the calibration lists stay; every other block
takes its reset value, and the clocked request is discarded (R166, R179, R192). -/
def Obligations.ResetValues : Prop :=
  (∀ s : State, ∃ t, exec .hardReset s = .next t ∧
    t.cru = { resetHeld := true, straps := s.cru.straps, lock := .locking, time := 0, test := none, linkResetAt := none } ∧
    t.link.part = .reset ∧ t.link.phase = .idle ∧ t.link.current = none ∧ t.link.slot = none ∧ t.link.txn = none ∧
    t.nq = { entries := [], masked := 0, urgent := 0, attn := false, pulse := none } ∧
    (∀ i, t.source i =
      { defined := false, base := 256, width := 1920, period := 33333, stretch := 256, settleMs := 20, syncTens := 20,
        idleTwenties := 0, state := .parked, purpose := .normal, cause := none, lastReady := none, enable := false,
        settle := none, sync := none, frame := none, idle := none }) ∧
    (∀ i, (t.receiver i).intake = .between ∧ (t.receiver i).lines = 0 ∧ (t.receiver i).run = 0 ∧
      (t.receiver i).last = none) ∧
    (∀ i, t.ring i = []) ∧ (∀ i, (t.gu.cal.get i).toList = List.replicate 12 none) ∧ (∀ i, t.gu.windows.get i = none) ∧
    t.zc.ladder = none ∧ t.zc.target = 256 ∧ t.zc.shown = 256 ∧ t.zc.rate = 0 ∧ t.zc.held = false ∧ t.zc.pinned = false ∧
    t.zc.record = none ∧
    t.cp.settings = { wo := 1920, period := 33333, n := 8, tolerance := 16, m := 3, window := 30 } ∧ t.cp.sub = .none ∧
    t.cp.pendingPrimary = none ∧ t.cp.deadline = none ∧ t.cp.compose = none ∧ t.cp.newest = none ∧ t.cp.lastSent = none ∧
    t.cp.overruns = 0 ∧ t.cp.repeats = 0 ∧ t.op = { video := none, queue := [], group := none } ∧
    t.cc = { still := none, lastId := 0 } ∧ t.pending = s.pending) ∧
  (∀ (s : State) (r : Reply) (bytes : List Byte), s.link.txn = some ⟨.reply r, false, true⟩ → bytes ≠ [] →
    ∃ t, exec (.transactionEnd bytes) s = .next t ∧
      t.link.part = .reset ∧ t.link.phase = .idle ∧ t.link.current = none ∧ t.link.slot = none ∧ t.link.txn = none ∧
      t.cru.straps = s.cru.straps ∧ t.cru.lock = s.cru.lock ∧ t.cru.time = s.cru.time ∧ t.cru.test = none ∧
      t.gu.cal = s.gu.cal ∧ t.gu.windows = State.reset.gu.windows ∧ t.nq = State.reset.nq ∧
      t.sources = State.reset.sources ∧ t.receivers = State.reset.receivers ∧ t.fs.rings = State.reset.fs.rings ∧
      t.zc = State.reset.zc ∧ t.cp.settings = State.reset.cp.settings ∧ t.cp.sub = .none ∧ t.cp.deadline = none ∧
      t.cp.pendingPrimary = none ∧ t.cp.compose = none ∧ t.cp.newest = none ∧ t.cp.lastSent = none ∧
      t.cp.overruns = 0 ∧ t.cp.repeats = 0 ∧ t.op = State.reset.op ∧ t.cc = State.reset.cc ∧ t.pending = s.pending)

/-- RESET_RELEASE samples the straps and nothing else changes (R190, R191). CLOCK_LOCK and LINK_RESET_END: READY is
posted as the first entry of the empty queue, the line rises, and the part state becomes CONFIG (R175, R185 to R187,
R190, R192). -/
def Obligations.ResetIsLeft : Prop :=
  (∀ (link attn clk1 clk0 : Bool) (s : State), s.cru.resetHeld = true →
    exec (.resetRelease link attn clk1 clk0) s = .next { s with cru := { s.cru with
      resetHeld := false
      straps := { linkMode := if link then .mode3 else .mode0
                  attnMode := if attn then .pulse else .level
                  refClk := if clk1 then (if clk0 then .mhz38 else .mhz26) else if clk0 then .mhz24 else .mhz19 } } }) ∧
  ((∀ s : State, s.cru.resetHeld = false → s.cru.lock = .locking → s.nq = ⟨[], 0, 0, false, none⟩ →
    exec .clockLock s = .next { s with
      cru := { s.cru with lock := .locked }
      link := { s.link with part := .config }
      nq := { entries := [⟨.ready, none, .urgent, 1, s.cru.time, .ready .hard s.cru.straps s.cru.time⟩], masked := 0,
              urgent := 0, attn := true,
              pulse := if s.cru.straps.attnMode = .pulse then some ⟨s.cru.time, 2⟩ else none } }) ∧
  (∀ s : State, s.link.part = .reset → s.cru.lock = .locked → s.nq = ⟨[], 0, 0, false, none⟩ →
    exec .linkResetEnd s = .next { s with
      cru := { s.cru with linkResetAt := none }
      link := { s.link with part := .config }
      nq := { entries := [⟨.ready, none, .urgent, 1, s.cru.time, .ready .link s.cru.straps s.cru.time⟩], masked := 0,
              urgent := 0, attn := true,
              pulse := if s.cru.straps.attnMode = .pulse then some ⟨s.cru.time, 2⟩ else none } }))

/-! The control link (chapter 9) -/

/-- TRANSACTION_START: the table of R167, with the empty slot of a delivery and the discarded request of R179; a start
while the reset pin is held is ignored (R180). TRANSACTION_END with a discarded request changes nothing but what was
clocked out; before the first whole byte it makes no transaction, and a reply that was to go out is in the slot again
(R167; the latter by log 8). -/
def Obligations.TransactionDecisions : Prop :=
  ((∀ s : State, s.cru.resetHeld = true → exec .transactionStart s = .next s) ∧
  ∀ s : State, s.cru.resetHeld = false → s.link.txn = none →
    (s.link.part = .reset →
      exec .transactionStart s = .next { s with link := { s.link with txn := some ⟨.empty, false, false⟩ } }) ∧
    (s.link.part ≠ .reset → s.link.phase = .idle →
      exec .transactionStart s = .next { s with link := { s.link with txn := some ⟨.empty, true, false⟩ } }) ∧
    (s.link.part ≠ .reset → s.link.phase = .executing →
      exec .transactionStart s = .next { s with link := { s.link with txn := some ⟨.busy, false, false⟩ } }) ∧
    (∀ r, s.link.part ≠ .reset → s.link.phase = .replyReady → s.link.slot = some r →
      exec .transactionStart s = .next { s with link := { s.link with
        slot := none
        txn := some ⟨.reply r, decide (¬(r.code = 0x04 ∧ r.result = .ok)), decide (r.code = 0x04 ∧ r.result = .ok)⟩ } })) ∧
  ((∀ (s : State) (out : LinkOut) (bytes : List Byte), s.link.txn = some ⟨out, false, false⟩ → bytes ≠ [] →
    exec (.transactionEnd bytes) s =
      .next { s with link := { s.link with txn := none, sdo := out.bytes bytes.length } }) ∧
  (∀ s : State, s.cru.resetHeld = false → s.link.txn = none →
    ∃ t, exec .transactionStart s = .next t ∧ exec (.transactionEnd []) t = .next s))

/-- REPLY_FORMED: the reply being formed fills the slot and the phase becomes REPLY_READY (R166, R172). What a
delivering transaction clocks out: sync, payload length, code echo, tag echo, result, payload and CRC, then the EMPTY
marker on every byte after it, cut short where fewer bytes are clocked (R168, R173, R196). -/
def Obligations.ReplyFormedAndSent : Prop :=
  (∀ (s : State) (e : Executing), s.link.phase = .executing → s.link.current = some e →
    exec .replyFormed s =
      .next { s with link := { s.link with phase := .replyReady, current := none, slot := some e.reply } }) ∧
  (∀ (s : State) (r : Reply) (bytes : List Byte), s.link.txn = some ⟨.reply r, true, false⟩ → bytes ≠ [] →
    ∃ t, exec (.transactionEnd bytes) s = .next t ∧
      t.link.sdo =
        ([0x5A] ++ ([u8 r.payload.length, r.code, r.tag, r.result.code] ++ r.payload) ++
          be16 (crc ([u8 r.payload.length, r.code, r.tag, r.result.code] ++ r.payload)) ++
          List.replicate bytes.length 0xEE).take bytes.length)

/-- FRAME_ERROR: the bytes of a taken transaction that fail a check of R169 are answered FRAME_ERROR with code echo 0,
tag echo 0 and the cause, and nothing else changes (R169, R173). The checks of R169 in their order, on the bytes of a
transaction. -/
def Obligations.FrameErrors : Prop :=
  (∀ (s : State) (bytes : List Byte) (cause : FrameCause), LinkReady s → bytes ≠ [] → frameCheck bytes = some cause →
    exec (.frameError bytes) s =
      .next ((s.delivered bytes.length).forming none ⟨0, 0, .frameError, [cause.code]⟩)) ∧
  (∀ bytes : List Byte,
    (bytes.head? ≠ some 0xA5 → frameCheck bytes = some .badSync) ∧
    (bytes = [0xA5] → frameCheck bytes = some .badLengthField) ∧
    (∀ (len : Byte) (rest : List Byte), bytes = 0xA5 :: len :: rest →
      (250 < len.toNat → frameCheck bytes = some .badLengthField) ∧
      (len.toNat ≤ 250 → bytes.length < len.toNat + 7 → frameCheck bytes = some .short) ∧
      (len.toNat ≤ 250 → ∀ (body fill : List Byte) (c : Half), body.length = len.toNat + 3 →
        rest = body ++ be16 c ++ fill →
        frameCheck bytes = if c = crc (len :: body) then none else some .badCrc)))

/-- A transaction's bytes are well-formed exactly when they are the frame of a request with at most 250 payload bytes
followed by fill, and reading that frame gives the request back (R169, R170). The CRC of R170: its check value, and
that a body followed by its own CRC leaves the register at 0. -/
def Obligations.FrameRoundTrip : Prop :=
  ((∀ (q : RawRequest) (fill : List Byte), q.payload.length ≤ 250 →
    frameCheck (q.frame ++ fill) = none ∧ frameRequest (q.frame ++ fill) = q) ∧
  (∀ bytes : List Byte, frameCheck bytes = none →
    ∃ (q : RawRequest) (fill : List Byte), q.payload.length ≤ 250 ∧ bytes = q.frame ++ fill)) ∧
  (crc [0x31, 0x32, 0x33, 0x34, 0x35, 0x36, 0x37, 0x38, 0x39] = 0x29B1 ∧
  ∀ bytes : List Byte, crc (bytes ++ be16 (crc bytes)) = 0)

/-- A request row is the transaction whose 257 bytes are the request's frame and fill: TRANSACTION_START and
TRANSACTION_END of those bytes leave the state the row leaves (log 5; R167, R169, R196). Every request whose length
agrees with its own count is read back from its code, modifier and payload, with QUERY_ONLY where it is allowed (R171,
R197). -/
def Obligations.RequestRowIsItsFrame : Prop :=
  (∀ (s : State) (q : Request) (tag : Byte) (queryOnly : Bool) (fill : List Byte), q.lengthAgrees = true →
    (queryOnly = true → q.mayQuery = true) → q.payload.length ≤ 250 →
    ((q.raw tag (modifierByte queryOnly)).frame ++ fill).length = 257 →
    ∃ t, exec .transactionStart s = .next t ∧
      exec (.transactionEnd ((q.raw tag (modifierByte queryOnly)).frame ++ fill)) t =
        .next (s.hostRequest tag queryOnly q)) ∧
  (∀ (q : Request) (tag : Byte) (queryOnly : Bool), q.lengthAgrees = true → (queryOnly = true → q.mayQuery = true) →
    readRequest (q.raw tag (modifierByte queryOnly)) = .ok (q, queryOnly))

/-- UNKNOWN, BAD_MODIFIER and BAD_LENGTH: a well-formed frame that fails a check of R171 is answered with the result
of the first one, its code and tag echoed and no payload, and nothing else changes (R171, R173). The acceptance table
of R176: the part states in which each request reaches its owner; elsewhere the answer is WRONG_STATE with no payload
and no change, with QUERY_ONLY as without it. The payload length each request needs: one length for most codes, and for CAL_RUN and
LADDER_SET the length their count names, 12 points for the count 0, any length past the fixed part for a count out of
range (R171, R197). -/
def Obligations.RequestsRefusedOrPassed : Prop :=
  ((∀ (s : State) (code tag modifier : Byte) (payload : List Byte), LinkReady s → (code = 0 ∨ 0x16 < code.toNat) →
    exec (.unknown code tag modifier payload) s =
      .next ((s.delivered 257).forming (some ⟨code, tag, modifier, payload⟩) ⟨code, tag, .unknown, []⟩)) ∧
  (∀ (s : State) (q : RawRequest) (out : LinkOut) (fill : List Byte), s.link.txn = some ⟨out, true, false⟩ →
    q.payload.length ≤ 250 → 1 ≤ q.code.toNat → q.code.toNat ≤ 0x16 →
    (1 < q.modifier.toNat ∨ (q.modifier = 1 ∧ q.code ≠ 0x0A ∧ q.code ≠ 0x0C ∧ q.code ≠ 0x0D) →
      exec (.transactionEnd (q.frame ++ fill)) s =
        .next ({ s with link := { s.link with txn := none, sdo := out.bytes (q.frame ++ fill).length } }.forming (some q)
          ⟨q.code, q.tag, .badModifier, []⟩)) ∧
    (q.modifier = 0 ∨ (q.modifier = 1 ∧ (q.code = 0x0A ∨ q.code = 0x0C ∨ q.code = 0x0D)) →
      readPayload q.code q.payload = none →
      exec (.transactionEnd (q.frame ++ fill)) s =
        .next ({ s with link := { s.link with txn := none, sdo := out.bytes (q.frame ++ fill).length } }.forming (some q)
          ⟨q.code, q.tag, .badLength, []⟩)))) ∧
  ((∀ q : Request,
    (q.code ∈ [0x01, 0x02, 0x04, 0x15, 0x16, 0x09, 0x11, 0x0B] →
      PartState.config.passes q = true ∧ PartState.streaming.passes q = true ∧ PartState.suspended.passes q = true) ∧
    (q.code = 0x06 →
      PartState.config.passes q = false ∧ PartState.streaming.passes q = false ∧ PartState.suspended.passes q = true) ∧
    (q.code ∈ [0x07, 0x08, 0x0A, 0x10, 0x12, 0x13, 0x14] →
      PartState.config.passes q = true ∧ PartState.streaming.passes q = true ∧ PartState.suspended.passes q = false) ∧
    (q.code ∈ [0x05, 0x0C, 0x0D, 0x0E, 0x03] →
      PartState.config.passes q = true ∧ PartState.streaming.passes q = false ∧ PartState.suspended.passes q = false) ∧
    (q.code = 0x0F →
      PartState.config.passes q = false ∧ PartState.streaming.passes q = true ∧ PartState.suspended.passes q = false)) ∧
  (∀ (s : State) (q : Request) (tag : Byte) (queryOnly : Bool), LinkReady s → q.lengthAgrees = true →
    s.link.part.passes q = false →
    s.hostRequest tag queryOnly q = (s.delivered 257).answered tag queryOnly q .wrongState [])) ∧
  ((∀ (code n : Byte) (payload : List Byte),
    (code, n) ∈ ([(0x01, 0), (0x02, 0), (0x03, 0), (0x04, 0), (0x05, 0), (0x06, 0), (0x07, 14), (0x08, 2), (0x09, 1),
      (0x0B, 1), (0x0D, 10), (0x0E, 0), (0x0F, 0), (0x10, 4), (0x11, 0), (0x12, 1), (0x13, 2), (0x14, 1), (0x15, 0),
      (0x16, 8)] : List (Byte × Byte)) →
    ((readPayload code payload).isSome = true ↔ payload.length = n.toNat)) ∧
  (∀ payload : List Byte, payload.length < 4 → readPayload 0x0A payload = none) ∧
  (∀ (src start dir count : Byte) (rest : List Byte),
    ((readPayload 0x0A (src :: start :: dir :: count :: rest)).isSome = true ↔
      12 < count.toNat ∨ rest.length = 6 * (if count = 0 then 12 else count.toNat))) ∧
  readPayload 0x0C [] = none ∧
  (∀ (count : Byte) (rest : List Byte),
    ((readPayload 0x0C (count :: rest)).isSome = true ↔
      count = 0 ∨ 4 < count.toNat ∨ rest.length = 9 * count.toNat)))

/-- A refusal changes no state: under every result but OK, ACCEPTED and PARTIAL the answer leaves the machine as it
was (R173). -/
def Obligations.RefusalsChangeNothing : Prop :=
  ∀ (s : State) (q : Request) (queryOnly : Bool),
    (s.answer q queryOnly).result ≠ .ok → (s.answer q queryOnly).result ≠ .accepted →
    (s.answer q queryOnly).result ≠ .partialDone → (s.answer q queryOnly).state = s

/-! Requests that only report -/

/-- NOP, IDENT and RESET_PART complete and change nothing but the link's own exchange (R179, R181, R193, R199).
SOURCE_QUERY, CAL_READ and ZOOM_QUERY complete, change nothing but the link's own exchange, and their payloads have
40, 72 and 117 bytes; a source number above 3 gives BAD_VALUE (R23, R57, R85, R198). The fields of the SOURCE_QUERY
reply, in order: a timer due and not yet taken has 0 left (log 23) (R1, R23, R198). The fields of the ZOOM_QUERY reply, in
order: with no record from and to are 0xFF and the other fields 0 (log 30), and the current participants are those R111
would hand in RUNNING, none elsewhere (log 13, log 18) (R69, R85, R99, R117, R198). -/
def Obligations.ReportsAnswer : Prop :=
  (∀ (s : State) (tag : Byte), LinkReady s →
    exec (.nop tag) s = .next ((s.delivered 257).answered tag false .nop .ok
      ([s.link.part.code, s.cp.sub.code, flag s.cru.test.isSome] ++ be32 s.cru.time)) ∧
    exec (.ident tag) s = .next ((s.delivered 257).answered tag false .ident .ok
      [0x2D, 0x40, Config.revision, s.cru.straps.linkMode.code, s.cru.straps.attnMode.code, s.cru.straps.refClk.code,
       4, 4, 12, 4, 26, 2, 0x10, 0x00, 0x0F, 0x00, 32]) ∧
    1 ≤ Config.revision.toNat ∧
    exec (.resetPart tag) s = .next ((s.delivered 257).answered tag false .resetPart .ok [])) ∧
  (∀ (s : State) (tag src : Byte), LinkReady s →
    (∀ i, byteSource src = some i →
      exec (.sourceQuery tag src) s =
        .next ((s.delivered 257).answered tag false (.sourceQuery src) .ok (s.sourceBytes i)) ∧
      (s.sourceBytes i).length = 40 ∧
      exec (.calRead tag src) s = .next ((s.delivered 257).answered tag false (.calRead src) .ok
        ((s.gu.cal.get i).toList.flatMap fun p => match p with
          | none => [0xFF, 0xFF, 0, 0, 0, 0]
          | some x => u16 x.focus ++ i16 x.ox ++ i16 x.oy)) ∧
      (((s.gu.cal.get i).toList.flatMap positionBytes).length = 72)) ∧
    (3 < src.toNat →
      exec (.sourceQuery tag src) s = .next ((s.delivered 257).answered tag false (.sourceQuery src) .badValue []) ∧
      exec (.calRead tag src) s = .next ((s.delivered 257).answered tag false (.calRead src) .badValue [])) ∧
    exec (.zoomQuery tag) s = .next ((s.delivered 257).answered tag false .zoomQuery .ok s.zoomBytes) ∧
    s.zoomBytes.length = 117) ∧
  (∀ (s : State) (tag src : Byte) (i : Src), LinkReady s → byteSource src = some i →
    let x := s.source i
    let left (k : Byte) (y : Timer) : List Byte := k :: u32 (y.len - (s.cru.time - y.start).toNat)
    exec (.sourceQuery tag src) s = .next ((s.delivered 257).answered tag false (.sourceQuery src) .ok
      ([src, if x.defined then 1 else 0] ++ u16 x.base ++ u16 x.width ++ u16 (x.width * 9 / 16) ++ u32 x.period ++
        u16 x.stretch ++ u16 (x.base * x.stretch / 256) ++
        [u8 x.settleMs, u8 x.syncTens, u8 x.idleTwenties,
         match x.state with
           | .parked => 0
           | .waking => 1
           | .syncing => 2
           | .warm => 3
           | .primary => 4
           | .outgoing => 5
           | .incoming => 6
           | .fault => 7,
         match x.purpose with
           | .normal => 0
           | .test => 1,
         match x.cause with
           | none => 0
           | some .noSync => 1
           | some .frameTimeout => 2
           | some .link => 3] ++
        (match x.lastReady with
          | none => [0, 0, 0, 0, 0]
          | some y => 1 :: be32 y) ++
        [u8 (s.ring i).length] ++
        (match ((s.ring i).filter fun r => decide (r.state = .ready)).getLast? with
          | none => [0, 0, 0, 0, 0, 0, 0]
          | some r => 1 :: (u16 (r.focus.getD 0) ++ be32 r.start)) ++
        (match x.settle, x.sync, x.idle, x.frame with
          | some y, _, _, _ => left 1 y
          | none, some y, _, _ => left 2 y
          | none, none, some y, _ => left 4 y
          | none, none, none, some y => left 3 y
          | none, none, none, none => [0, 0, 0, 0, 0])))) ∧
  (∀ (s : State) (tag : Byte), LinkReady s →
    let named (x : Option Src) : Byte := match x with
      | none => 0xFF
      | some i => u8 i.num
    let rung (x : Option Rung) : List Byte := match x with
      | none => [0xFF, 0, 0, 0, 0, 0, 0, 0, 0]
      | some g => [u8 g.source.num] ++ u16 g.wu ++ u16 g.u ++ u16 g.d ++ u16 g.wd
    let ladder : List Byte := match s.zc.ladder with
      | none => [0, 0, 0, 0, 0, 0] ++ rung none ++ rung none ++ rung none ++ rung none
      | some l => [1] ++ u16 (s.zmin l) ++ u16 (s.zmax l) ++ [u8 l.length] ++ rung l[0]? ++ rung l[1]? ++ rung l[2]? ++
          rung l[3]?
    let bounding : Option Src := match s.zc.record with
      | none => s.cp.pendingPrimary
      | some r => if r.kind = .rescue then some r.taker else none
    let bounds : List Byte := match s.zc.bounds with
      | none => [0, 0, 0, 0, 0]
      | some b => if s.link.part = .streaming then [1] ++ u16 b.lo ++ u16 b.hi else [0, 0, 0, 0, 0]
    let record : List Byte := match s.zc.record with
      | none => [0, 0, 0xFF, 0xFF] ++ List.replicate 21 0
      | some r =>
        [1,
         match r.kind with
           | .up => 1
           | .down => 2
           | .rescue => 3,
         u8 r.giver.num, u8 r.taker.num,
         match r.phase with
           | .armed => 1
           | .matching => 2
           | .blending => 3,
         u8 r.n, u8 r.index] ++ u16 r.gains.r ++ u16 r.gains.g ++ u16 r.gains.b ++
        [u8 r.run, u8 r.ticks, if r.limited then 1 else 0, if r.retargeted then 1 else 0] ++
        (if r.phase = .blending then
          u16 (256 * r.index / (r.n + 1)) ++ u16 r.blendGains.r ++ u16 r.blendGains.g ++ u16 r.blendGains.b
        else List.replicate 8 0)
    let shown : List Src := if s.cp.sub = .running then
        match s.zc.record with
          | none => s.knownPrimary.toList
          | some r => if r.phase = .blending then [r.giver, r.taker] else s.knownPrimary.toList
      else []
    let window (x : Option Src) : List Byte := [named x] ++ match x.bind s.gu.windows.get with
      | none => List.replicate 16 0
      | some w => u16 w.rect.x0 ++ u16 w.rect.y0 ++ u16 w.rect.cw ++ u16 w.rect.ch ++
          [if w.short then 1 else 0, if w.edge then 1 else 0] ++ u16 w.stretch ++ u16 w.zoom ++ u16 w.focus
    exec (.zoomQuery tag) s = .next ((s.delivered 257).answered tag false .zoomQuery .ok
      (u16 s.zc.target ++ u16 s.zc.shown ++ u16 s.zc.rate ++
        [if s.zc.held then 1 else 0, if s.zc.pinned then 1 else 0] ++ ladder ++
        [match s.cp.sub with
           | .none => 0
           | .starting => 1
           | .running => 2
           | .frozen => 3,
         named s.primary, named bounding] ++ bounds ++ record ++ window shown[0]? ++ window shown[1]?)))

/-! Camera sources (chapter 1) -/

/-- SOURCE_DEFINE, in the order of its checks: a source out of range gives BAD_VALUE with no payload (log 19), a source not
PARKED WRONG_STATE, one on the ladder WRONG_ROLE, one whose record is under the still hold STILL_ACTIVE, and the first field
out of its range BAD_VALUE with its index, counted from the source as field 0; none of these changes anything. Otherwise it
writes the description, makes the source defined and removes its compose window record (R1, R20, R64, R197). -/
def Obligations.SourceDefineTaken : Prop :=
  ∀ (s : State) (tag src : Byte) (base width : Half) (period : Word) (stretch : Half) (settle sync idle : Byte),
    LinkReady s → (s.link.part = .config ∨ s.link.part = .streaming) →
    let answers (t : State) (result : Result) (payload : List Byte) : Prop :=
      exec (.sourceDefine tag src base width period stretch settle sync idle) s = .next
        ((t.delivered 257).answered tag false (.sourceDefine src base width period stretch settle sync idle) result payload)
    let inRange : List Bool :=
      [decide (64 ≤ base.toNat ∧ base.toNat ≤ 4096),
       decide (640 ≤ width.toNat ∧ width.toNat ≤ 4096 ∧ width.toNat % 16 = 0),
       decide (8333 ≤ period.toNat ∧ period.toNat ≤ 100000), decide (256 ≤ stretch.toNat ∧ stretch.toNat ≤ 1024),
       decide (1 ≤ settle.toNat), decide (1 ≤ sync.toNat ∧ sync.toNat ≤ 200)]
    (byteSource src = none → answers s .badValue []) ∧
    ∀ i : Src, byteSource src = some i →
      ((s.source i).state ≠ .parked → answers s .wrongState []) ∧
      ((s.source i).state = .parked → s.OnLadder i → answers s .wrongRole []) ∧
      ((s.source i).state = .parked → ¬ s.OnLadder i → (∃ r ∈ s.ring i, r.heldS = true) → answers s .stillActive []) ∧
      ((s.source i).state = .parked → ¬ s.OnLadder i → (∀ r ∈ s.ring i, r.heldS = false) →
        (∀ k, inRange.findIdx? not = some k → answers s .badValue [u8 (k + 1)]) ∧
        (inRange.findIdx? not = none → answers
          ({ s with gu := { s.gu with windows := s.gu.windows.set i none } }.setSource i { s.source i with
            defined := true, base := base.toNat, width := width.toNat, period := period.toNat, stretch := stretch.toNat,
            settleMs := settle.toNat, syncTens := sync.toNat, idleTwenties := idle.toNat }) .ok []))

/-- SOURCE_POWER (wake): a PARKED defined source goes to WAKING with purpose NORMAL, its line high and its settle timer
running, and SOURCE_STATE is posted; one on its way or in use is left as it is; FAULT and a link test give WRONG_STATE, an
undefined source NO_SOURCE, and a source out of range BAD_VALUE with no payload (R5, R6, R18, R19, R21; log 19). -/
def Obligations.SourceWakeTaken : Prop :=
  (∀ (s : State) (tag src : Byte) (i : Src), LinkReady s → (s.link.part = .config ∨ s.link.part = .streaming) →
    byteSource src = some i →
    ((s.source i).defined = true → s.underTest i = false → (s.source i).state = .parked →
      exec (.sourcePowerWake tag src) s = .next
        ((((s.setSource i { s.source i with
            state := .waking, purpose := .normal, lastReady := none, enable := true,
            settle := some ⟨s.cru.time, (s.source i).settleMs * 1000⟩ }).post (some i)
          (.sourceState .waking .parked s.cru.time)).delivered 257).answered tag false (.sourcePower src 1) .accepted [])) ∧
    ((s.source i).defined = true → s.underTest i = false → (s.source i).state ≠ .parked → (s.source i).state ≠ .fault →
      exec (.sourcePowerWake tag src) s =
        .next ((s.delivered 257).answered tag false (.sourcePower src 1) .ok [])) ∧
    ((s.source i).defined = true → s.underTest i = true ∨ (s.source i).state = .fault →
      exec (.sourcePowerWake tag src) s =
        .next ((s.delivered 257).answered tag false (.sourcePower src 1) .wrongState [])) ∧
    ((s.source i).defined = false →
      exec (.sourcePowerWake tag src) s =
        .next ((s.delivered 257).answered tag false (.sourcePower src 1) .noSource []))) ∧
  (∀ (s : State) (tag src : Byte), LinkReady s → (s.link.part = .config ∨ s.link.part = .streaming) →
    byteSource src = none →
    exec (.sourcePowerWake tag src) s =
      .next ((s.delivered 257).answered tag false (.sourcePower src 1) .badValue []))

/-- SOURCE_POWER (park) of a source in WAKING, SYNCING, WARM or FAULT that no record and no pending primary names: the
timers stop, the line falls, cause and purpose return to their rest, the unheld records leave the ring, the receiver
takes the purge, and SOURCE_STATE is posted (R4, R10, R16, R19, R22, R26). SOURCE_POWER (park) frees a target: an UP
or DOWN record in ARMED or MATCHING toward the source is removed with no notice, and then the source is parked (R22,
R94). Before these, in this order and with no change: a source out of range gives BAD_VALUE (with no payload, log 19), an
undefined one NO_SOURCE, one under a link test WRONG_STATE, one in a role, the pending primary and the target of a RESCUE
record WRONG_ROLE, and a PARKED one OK (R22). -/
def Obligations.SourceParkTaken : Prop :=
  (∀ (s : State) (tag src : Byte) (i : Src), LinkReady s → (s.link.part = .config ∨ s.link.part = .streaming) →
    byteSource src = some i → (s.source i).defined = true → s.underTest i = false → (s.source i).purpose = .normal →
    ((s.source i).state = .waking ∨ (s.source i).state = .syncing ∨ (s.source i).state = .warm ∨
      (s.source i).state = .fault) →
    s.isPending i = false → s.isTarget i = false →
    exec (.sourcePowerPark tag src) s = .next
      ((((((s.setSource i { s.source i with
          state := .parked, purpose := .normal, cause := none, enable := false,
          settle := none, sync := none, frame := none, idle := none }).setRing i
        ((s.ring i).filter fun r => r.heldC || r.heldS)).setReceiver i
        { intake := if (s.receiver i).intake = .between then .between else .discarding
          lines := (s.receiver i).lines, run := 0, last := none, sums := ⟨0, 0, 0⟩ }).post (some i)
          (.sourceState .parked (s.source i).state s.cru.time)).delivered 257).answered tag false
            (.sourcePower src 0) .ok [])) ∧
  (∀ (s : State) (tag src : Byte) (i : Src) (r : Transition), LinkReady s → s.link.part = .streaming →
    byteSource src = some i → (s.source i).defined = true → s.underTest i = false →
    ((s.source i).state = .waking ∨ (s.source i).state = .syncing ∨ (s.source i).state = .warm ∨
      (s.source i).state = .fault) →
    s.isPending i = false → s.zc.record = some r → r.taker = i → r.kind ≠ .rescue → r.phase ≠ .blending →
    ∃ t, exec (.sourcePowerPark tag src) s = .next t ∧ t.zc.record = none ∧ (t.source i).state = .parked ∧
      (t.source i).enable = false ∧ (t.source i).idle = none ∧ t.ring i = (s.ring i).filter FrameRec.held ∧
      ∀ e ∈ t.nq.entries, e.kind = .handoffDone ∨ e.kind = .handoffAborted → e ∈ s.nq.entries) ∧
  (∀ (s : State) (tag src : Byte), LinkReady s → (s.link.part = .config ∨ s.link.part = .streaming) →
    let answers (result : Result) : Prop := exec (.sourcePowerPark tag src) s =
      .next ((s.delivered 257).answered tag false (.sourcePower src 0) result [])
    (byteSource src = none → answers .badValue) ∧
    ∀ i : Src, byteSource src = some i →
      let wanted : Prop := (s.source i).state.isRole = true ∨ (s.cp.sub = .starting ∧ s.cp.pendingPrimary = some i) ∨
        ∃ r, s.zc.record = some r ∧ r.kind = .rescue ∧ r.taker = i
      ((s.source i).defined = false → answers .noSource) ∧
      ((s.source i).defined = true → s.underTest i = true → answers .wrongState) ∧
      ((s.source i).defined = true → s.underTest i = false → wanted → answers .wrongRole) ∧
      ((s.source i).defined = true → s.underTest i = false → ¬ wanted → (s.source i).state = .parked → answers .ok))

/-- SETTLE_EXPIRY of a WAKING source starts its sync timer in SYNCING, and SOURCE_STATE is posted for purpose NORMAL
alone (R5, R7, R19). IDLE_EXPIRY parks a WARM source: its timers stop, its line falls and its unheld records leave
(R9, R10, R16). The model's choice (log 2): a settle expiry named before its time is taken at the expiry, to which the
locked time base moves; a timed event whose timer does not run does nothing. -/
def Obligations.TimersExpire : Prop :=
  (∀ (s : State) (i : Src) (x : Timer), (s.source i).state = .waking → (s.source i).settle = some x →
    x.expired s.cru.time = true →
    let synced := s.setSource i { s.source i with
      state := .syncing, settle := none, sync := some ⟨s.cru.time, (s.source i).syncTens * 10000⟩ }
    exec (.settleExpiry i) s = .next (match (s.source i).purpose with
      | .normal => synced.post (some i) (.sourceState .syncing .waking s.cru.time)
      | .test => synced)) ∧
  (∀ (s : State) (i : Src) (x : Timer), (s.source i).state = .warm → (s.source i).idle = some x →
    x.expired s.cru.time = true →
    ∃ t, exec (.idleExpiry i) s = .next t ∧
      t.source i = { s.source i with
        state := .parked, purpose := .normal, cause := none, enable := false,
        settle := none, sync := none, frame := none, idle := none } ∧
      t.ring i = (s.ring i).filter FrameRec.held ∧ (t.receiver i).run = 0 ∧ (t.receiver i).last = none ∧
      t.zc = s.zc ∧ t.cp = s.cp ∧ t.op = s.op ∧ t.cc = s.cc ∧ t.gu = s.gu ∧ t.link = s.link ∧ t.cru = s.cru) ∧
  (∀ (s : State) (i : Src),
    (∀ x : Timer, s.cru.lock = .locked → (s.source i).state = .waking → (s.source i).settle = some x →
      x.expired s.cru.time = false →
      ∃ t, exec (.settleExpiry i) s = .next t ∧ t.cru.time = x.start + BitVec.ofNat 32 x.len ∧
        (t.source i).state = .syncing) ∧
    ((s.source i).settle = none → exec (.settleExpiry i) s = .next s) ∧
    ((s.source i).sync = none → exec (.syncExpiry i) s = .next s) ∧
    ((s.source i).frame = none → exec (.frameTimeout i) s = .next s) ∧
    ((s.source i).idle = none → exec (.idleExpiry i) s = .next s) ∧
    (s.op.video = none → exec .videoTransmissionEnd s = .next s) ∧
    (s.op.group = none → exec .stillGroupEnd s = .next s) ∧
    (s.nq.pulse = none → exec .attnPulseEnd s = .next s))

/-- SYNC_EXPIRY of a NORMAL source and FRAME_TIMEOUT: the source enters FAULT with its cause, all its timers stop, the line
falls, the unheld records leave, SOURCE_FAULT is posted and the report is pending with the state it stood in (R7, R13, R15,
R16, R26). -/
def Obligations.FaultEntry : Prop :=
  ∀ (s : State) (i : Src) (x : Timer), x.expired s.cru.time = true →
    let faulted (cause : FaultCause) : State :=
      ((((s.setSource i { s.source i with
          state := .fault, cause := some cause, enable := false,
          settle := none, sync := none, frame := none, idle := none }).setRing i
        ((s.ring i).filter fun r => r.heldC || r.heldS)).setReceiver i
        { intake := if (s.receiver i).intake = .between then .between else .discarding
          lines := (s.receiver i).lines, run := 0, last := none, sums := ⟨0, 0, 0⟩ }).post (some i)
          (.sourceFault cause (s.source i).state s.cru.time)).raiseReport i (s.source i).state
    ((s.source i).state = .syncing → (s.source i).purpose = .normal → (s.source i).sync = some x →
      exec (.syncExpiry i) s = .next (faulted .noSync)) ∧
    ((s.source i).state = .warm ∨ (s.source i).state = .primary ∨ (s.source i).state = .outgoing ∨
        (s.source i).state = .incoming → (s.source i).frame = some x →
      exec (.frameTimeout i) s = .next (faulted .frameTimeout))

/-- LINK_TEST in CONFIG with no test running: every defined PARKED source is woken with purpose TEST and coded
pending, every other source is coded 4 and left alone; with none pending TEST_DONE is posted and no record is left
(R6, R19, R194). SYNC_EXPIRY of the last source under test: it is parked with no SOURCE_STATE, its code becomes 2,
TEST_DONE is posted and the test record is removed; its first READY frame ends it in the same way with code 1 (R7, R19, R37, R195). -/
def Obligations.LinkTestRuns : Prop :=
  (∀ (s : State) (tag : Byte), LinkReady s → s.link.part = .config → s.cru.test = none →
    let tested (i : Src) : Bool := decide ((s.source i).defined = true ∧ (s.source i).state = .parked)
    let codes : Four TestCode := ⟨if tested .s0 then .pending else .notTested, if tested .s1 then .pending else .notTested,
      if tested .s2 then .pending else .notTested, if tested .s3 then .pending else .notTested⟩
    let after : Four Source := s.sources.map fun x =>
      if x.defined = true ∧ x.state = .parked then
        { x with state := .waking, purpose := .test, lastReady := none, enable := true,
                 settle := some ⟨s.cru.time, x.settleMs * 1000⟩ }
      else x
    ((∃ i, tested i = true) →
      exec (.linkTest tag) s = .next (({ s with
        sources := after, cru := { s.cru with test := some ⟨s.cru.time, codes⟩ } }.delivered 257).answered tag false
          .linkTest .accepted [])) ∧
    ((∀ i, tested i = false) →
      exec (.linkTest tag) s = .next (((s.post none (.testDone ⟨.notTested, .notTested, .notTested, .notTested⟩ s.cru.time
        s.cru.time)).delivered 257).answered tag false .linkTest .accepted []))) ∧
  (∀ (s : State) (i : Src) (x : Timer) (rec : TestRecord), (s.source i).state = .syncing →
    (s.source i).purpose = .test → (s.source i).sync = some x → x.expired s.cru.time = true → s.cru.test = some rec →
    (∀ j, j ≠ i → rec.codes.get j ≠ .pending) →
    ∃ t, exec (.syncExpiry i) s = .next t ∧ t.cru = { s.cru with test := none } ∧ (t.source i).state = .parked ∧
      (t.source i).purpose = .normal ∧ (t.source i).enable = false ∧
      t.nq = s.nq.post s.cru.straps.attnMode s.cru.time none (.testDone (rec.codes.set i .noSync) rec.start s.cru.time)) ∧
  (∀ (s : State) (i : Src) (old : List FrameRec) (r : FrameRec) (rec : TestRecord),
    (s.receiver i).intake = .receiving → s.ring i = old ++ [r] → (∀ q ∈ old, q.state = .ready) → r.state = .filling →
    (s.receiver i).lines = r.width * 9 / 16 → (s.source i).state = .syncing → (s.source i).purpose = .test →
    s.cru.test = some rec → (∀ j, j ≠ i → rec.codes.get j ≠ .pending) →
    ∃ t, exec (.frameEnd i) s = .next t ∧ t.cru = { s.cru with test := none } ∧ (t.source i).state = .parked ∧
      (t.source i).purpose = .normal ∧ (t.source i).enable = false ∧
      t.nq = s.nq.post s.cru.straps.attnMode s.cru.time none (.testDone (rec.codes.set i .pass) rec.start s.cru.time))

/-- SUSPEND in CONFIG with no still and no link test: every source not yet PARKED is parked, its line low and its timers stopped,
only held records stay in its ring, a discarded compose ends, and the part state becomes SUSPENDED; the settings stay (R10,
R16, R177); a video transmission that OUTPUT_STOP left in progress runs on to its end, the model's choice (log 33). RESUME makes the part state CONFIG and changes nothing else (R178). -/
def Obligations.SuspendAndResume : Prop :=
  (∀ (s : State) (tag : Byte), LinkReady s → s.link.part = .config → s.cc.still = none → s.cru.test = none →
    (∀ i, (s.source i).state.isRole = false) →
    ∃ t : State, exec (.suspend tag) s = .next ((t.delivered 257).answered tag false .suspend .ok []) ∧
      t.link = { s.link with part := .suspended } ∧ t.cp = { s.cp with compose := none } ∧
      (∀ i, (t.source i).state = .parked ∧ ((s.source i).state ≠ .parked → t.source i = { s.source i with
        state := .parked, purpose := .normal, cause := none, enable := false,
        settle := none, sync := none, frame := none, idle := none }) ∧
        ((s.source i).state = .parked → t.source i = s.source i)) ∧
      (∀ i, (s.source i).state ≠ .parked → t.ring i = (s.ring i).filter FrameRec.held ∧
        (t.receiver i).intake = (if (s.receiver i).intake = .between then .between else .discarding) ∧
        (t.receiver i).run = 0 ∧ (t.receiver i).last = none) ∧
      t.cru = s.cru ∧ t.gu = s.gu ∧ t.zc = s.zc ∧ t.op = s.op ∧ t.cc = s.cc ∧ t.pending = s.pending) ∧
  (∀ (s : State) (tag : Byte), LinkReady s → s.link.part = .suspended →
    exec (.resume tag) s = .next (({ s with link := { s.link with part := .config } }.delivered 257).answered tag false
      .resume .ok []))

/-! Frame intake and frame rings (chapter 2) -/

/-- FRAME_START: between frames the frame of a source that keeps none is discarded, and one that is kept joins a ring, made
room for, as a FILLING record on the lowest free slot; a frame in progress counts first as CUT_OFF, with no LINK_FAULT for a source
under test, and as the eighth bad frame in a row it faults the source, or ends its test, and the frame is discarded (R13,
R25, R30, R39, R40, R195). While the reset pin is held a frame start changes nothing (R190). -/
def Obligations.FrameStartOpensFrame : Prop :=
  (∀ (s : State) (i : Src), s.cru.resetHeld = true → exec (.frameStart i) s = .next s) ∧
  ∀ (s : State) (i : Src), s.cru.resetHeld = false →
    ((s.receiver i).intake = .between ∨ (s.receiver i).intake = .discarding →
      ((s.source i).state = .parked ∨ (s.source i).state = .waking ∨ (s.source i).state = .fault →
        exec (.frameStart i) s =
          .next (s.setReceiver i { s.receiver i with intake := .discarding, sums := ⟨0, 0, 0⟩ })) ∧
      (∀ (room : List FrameRec) (k : Slot), (s.source i).state ≠ .parked → (s.source i).state ≠ .waking →
        (s.source i).state ≠ .fault →
        room = (if (s.ring i).length < 4 then s.ring i
          else (s.ring i).eraseP fun r => decide (r.state = .ready ∧ r.heldC = false ∧ r.heldS = false)) →
        ([Src.s0, .s1, .s2, .s3].filter fun n => decide (n ∉ room.map FrameRec.slot)).head? = some k →
        exec (.frameStart i) s = .next
          (((s.setRing i (room ++
              [{ slot := k, width := (s.source i).width, state := .filling, start := s.cru.time, counter := none,
                 focus := none, window := none, means := none, heldC := false, heldS := false }])).setSlot i k
            []).setReceiver i { s.receiver i with intake := .awaitMeta, lines := 0, sums := ⟨0, 0, 0⟩ }))) ∧
    ((s.receiver i).intake = .awaitMeta ∨ (s.receiver i).intake = .receiving →
      let cut : State := (s.setRing i ((s.ring i).filter fun r => decide (r.state = .ready))).setReceiver i
        { s.receiver i with intake := .between, run := (s.receiver i).run + 1 }
      let payload : Payload := .linkFault .cutOff 0 ((s.receiver i).run + 1)
        (((s.ring i).find? fun r => decide (r.state = .filling)).bind FrameRec.counter)
      ((s.receiver i).run < 7 →
        exec (.frameStart i) s =
          exec (.frameStart i) (if (s.source i).purpose = .normal then cut.post (some i) payload else cut)) ∧
      ((s.receiver i).run = 7 → (s.source i).state.keepsFrames = true → (s.source i).purpose = .normal →
        ∃ t, exec (.frameStart i) s = .next t ∧ (t.source i).state = .fault ∧ (t.source i).cause = some .link ∧
          (t.receiver i).intake = .discarding ∧ (t.receiver i).run = 0 ∧
          t.nq = (cut.post (some i) payload).nq.post s.cru.straps.attnMode s.cru.time (some i)
            (.sourceFault .link (s.source i).state s.cru.time)) ∧
      ((s.receiver i).run = 7 → (s.source i).state = .syncing → (s.source i).purpose = .test →
        ∃ t, exec (.frameStart i) s = .next t ∧ (t.source i).state = .parked ∧
          (t.receiver i).intake = .discarding ∧ (t.receiver i).run = 0))

/-- METADATA_LINE in AWAIT_META: with the right marker the counter, the focus code limited to 1023 and the statistics window
enter the record (the crop window of the record's width at that focus code, at the zoom Z with a ladder and at the source's base zoom
without one), the sums start at 0, and a counter that is not the last one plus 1 posts FRAME_LOSS; with a wrong marker
or fewer than three pixels the record leaves and the frame is bad, the eighth in a row faulting the source or ending its
test; a source under test has neither notice posted (R13, R32 to R34, R36, R39, R40, R195, R201). -/
def Obligations.MetadataLineTaken : Prop :=
  ∀ (s : State) (i : Src), (s.receiver i).intake = .awaitMeta →
    (∀ (p1 p2 : Pixel) (rest : List Pixel) (c f : Half), c = p1.r.extractLsb' 0 8 ++ p1.g.extractLsb' 0 8 →
      f = p2.r.extractLsb' 0 8 ++ p2.g.extractLsb' 0 8 →
      let loss : State := match (s.receiver i).last with
        | none => s
        | some p => if c - p = 1 ∨ (s.source i).purpose = .test then s
          else s.post (some i) (.frameLoss ((c.toNat + 131071 - p.toNat) % 65536) p c s.cru.time)
      exec (.metadataLine i (⟨0x2A5, 0x15A, 0x3C3⟩ :: p1 :: p2 :: rest)) s = .next
        ((loss.setRing i ((s.ring i).map fun r => if r.state = .ready then r
          else { r with counter := some c, focus := some (min f.toNat 1023),
                        window := some (cropWindow r.width (s.source i).base
                          (if s.zc.ladder = none then (s.source i).base else s.zc.shown)
                          (s.lookup i (min f.toNat 1023))).rect })).setReceiver i
          { s.receiver i with intake := .receiving, last := some c, sums := ⟨0, 0, 0⟩ })) ∧
    (∀ pixels : List Pixel, (pixels.length < 3 ∨ pixels.head? ≠ some ⟨0x2A5, 0x15A, 0x3C3⟩) →
      let bad : State := (s.setRing i ((s.ring i).filter fun r => decide (r.state = .ready))).setReceiver i
        { s.receiver i with intake := .discarding, run := (s.receiver i).run + 1, sums := ⟨0, 0, 0⟩ }
      let posted : State := bad.post (some i) (.linkFault .badMarker 0 ((s.receiver i).run + 1) none)
      ((s.receiver i).run < 7 →
        exec (.metadataLine i pixels) s = .next (if (s.source i).purpose = .normal then posted else bad)) ∧
      ((s.receiver i).run = 7 → (s.source i).state.keepsFrames = true → (s.source i).purpose = .normal →
        ∃ t, exec (.metadataLine i pixels) s = .next t ∧ (t.source i).state = .fault ∧
          (t.source i).cause = some .link ∧ (t.receiver i).intake = .discarding ∧ (t.receiver i).run = 0 ∧
          t.nq = posted.nq.post s.cru.straps.attnMode s.cru.time (some i)
            (.sourceFault .link (s.source i).state s.cru.time)) ∧
      ((s.receiver i).run = 7 → (s.source i).state = .syncing → (s.source i).purpose = .test →
        ∃ t, exec (.metadataLine i pixels) s = .next t ∧ (t.source i).state = .parked ∧
          (t.receiver i).intake = .discarding ∧ (t.receiver i).run = 0))

/-- IMAGE_LINE in RECEIVING: the line count rises, saturating; a line above the frame's height goes into the slot cut or
filled with black to the width, and its pixels inside the statistics window join the sums; any other is only counted
(R35, R36). Outside AWAIT_META and RECEIVING a line is ignored (R26). -/
def Obligations.ImageLineTaken : Prop :=
  ∀ (s : State) (i : Src) (pixels : List Pixel),
    (∀ (r : FrameRec) (w : Rect) (line : List Pixel) (t : Triple), (s.receiver i).intake = .receiving →
      (s.ring i).find? (fun q => decide (q.state = .filling)) = some r → r.window = some w →
      line = pixels.take r.width ++ List.replicate (r.width - pixels.length) ⟨0, 0, 0⟩ →
      t = (if w.y0 ≤ (s.receiver i).lines ∧ (s.receiver i).lines ≤ w.y0 + w.ch - 1 ∧ 0 < w.ch then
        ⟨(((line.drop w.x0).take w.cw).map fun p => p.r.toNat).sum, (((line.drop w.x0).take w.cw).map fun p => p.g.toNat).sum,
          (((line.drop w.x0).take w.cw).map fun p => p.b.toNat).sum⟩ else ⟨0, 0, 0⟩) →
      ((s.receiver i).lines < r.width * 9 / 16 →
        exec (.imageLine i pixels) s = .next
          ((s.setSlot i r.slot ((s.fs.slots.get i).get r.slot ++ [line])).setReceiver i
            { s.receiver i with
              lines := min ((s.receiver i).lines + 1) 65535
              sums := ⟨(s.receiver i).sums.r + t.r, (s.receiver i).sums.g + t.g, (s.receiver i).sums.b + t.b⟩ })) ∧
      (r.width * 9 / 16 ≤ (s.receiver i).lines →
        exec (.imageLine i pixels) s =
          .next (s.setReceiver i { s.receiver i with lines := min ((s.receiver i).lines + 1) 65535 }))) ∧
    ((s.receiver i).intake = .between ∨ (s.receiver i).intake = .discarding →
      exec (.imageLine i pixels) s = .next s)

/-- FRAME_END of a whole frame of a source in WARM or a role: the record becomes READY with the truncated means over
its statistics window, last READY time and the frame timer move, and the run count returns to 0 (R5, R37). The first
READY frame of a SYNCING source of purpose NORMAL makes it WARM: the sync timer stops, the frame timer runs from this
frame, the idle timer runs as R8 allows, and SOURCE_STATE is posted (R5, R7, R8, R19, R37). -/
def Obligations.GoodFrameBecomesReady : Prop :=
  (∀ (s : State) (i : Src) (old : List FrameRec) (r : FrameRec) (w : Rect), (s.receiver i).intake = .receiving →
    s.ring i = old ++ [r] → (∀ q ∈ old, q.state = .ready) → r.state = .filling → r.window = some w →
    (s.receiver i).lines = r.width * 9 / 16 → (s.source i).state.usable = true →
    exec (.frameEnd i) s = .next
      (((s.setRing i (old ++ [{ r with
          state := .ready
          means := some ⟨(s.receiver i).sums.r / (w.cw * w.ch), (s.receiver i).sums.g / (w.cw * w.ch),
            (s.receiver i).sums.b / (w.cw * w.ch)⟩ }])).setSource i
        { s.source i with lastReady := some s.cru.time, frame := some ⟨s.cru.time, 4 * (s.source i).period⟩ }).setReceiver i
          { s.receiver i with intake := .between, run := 0, sums := ⟨0, 0, 0⟩ })) ∧
  (∀ (s : State) (i : Src) (old : List FrameRec) (r : FrameRec), (s.receiver i).intake = .receiving →
    s.ring i = old ++ [r] → (∀ q ∈ old, q.state = .ready) → r.state = .filling →
    (s.receiver i).lines = r.width * 9 / 16 → (s.source i).state = .syncing → (s.source i).purpose = .normal →
    ∃ t, exec (.frameEnd i) s = .next t ∧
      t.source i = { s.source i with
        state := .warm, sync := none, lastReady := some s.cru.time, frame := some ⟨s.cru.time, 4 * (s.source i).period⟩,
        idle := if (s.source i).idleTwenties ≠ 0 ∧ s.isTarget i = false ∧ s.isPending i = false
          then some ⟨s.cru.time, (s.source i).idleTwenties * 20000⟩ else none } ∧
      t.nq = s.nq.post s.cru.straps.attnMode s.cru.time (some i) (.sourceState .warm .syncing s.cru.time) ∧
      (t.ring i).getLast?.map FrameRec.state = some .ready ∧ (t.receiver i).intake = .between)

/-- FRAME_END of any other frame: with a different line count the FILLING record leaves and the frame is bad, the eighth in
a row faulting a NORMAL source with cause LINK after LINK_FAULT is posted, and ending the link test of a source under test with
code 3 and no LINK_FAULT (R13, R15, R38, R39, R40, R195); a discarded frame ends, and between frames nothing happens
(R26). -/
def Obligations.BadFrameEnds : Prop :=
  ∀ (s : State) (i : Src),
    ((s.receiver i).intake = .receiving ∨ (s.receiver i).intake = .awaitMeta →
      (∀ r, (s.ring i).find? (fun q => decide (q.state = .filling)) = some r → (s.receiver i).intake = .receiving →
        (s.receiver i).lines ≠ r.width * 9 / 16) →
      let bad : State := (s.setRing i ((s.ring i).filter fun r => decide (r.state = .ready))).setReceiver i
        { s.receiver i with intake := .between, run := (s.receiver i).run + 1, sums := ⟨0, 0, 0⟩ }
      let posted : State := bad.post (some i) (.linkFault .lineCount (s.receiver i).lines ((s.receiver i).run + 1)
        (((s.ring i).find? fun r => decide (r.state = .filling)).bind FrameRec.counter))
      ((s.receiver i).run < 7 →
        exec (.frameEnd i) s = .next (if (s.source i).purpose = .normal then posted else bad)) ∧
      ((s.receiver i).run = 7 → (s.source i).state.keepsFrames = true → (s.source i).purpose = .normal →
        ∃ t, exec (.frameEnd i) s = .next t ∧ (t.source i).state = .fault ∧ (t.source i).cause = some .link ∧
          (t.source i).enable = false ∧ (t.receiver i).run = 0 ∧ 
          t.zc.reports.get i = s.zc.reports.get i ++ [⟨(s.source i).state, none⟩] ∧
          t.nq = posted.nq.post s.cru.straps.attnMode s.cru.time (some i)
            (.sourceFault .link (s.source i).state s.cru.time)) ∧
      ((s.receiver i).run = 7 → (s.source i).state = .syncing → (s.source i).purpose = .test →
        ∀ rec, s.cru.test = some rec → (∀ j, j ≠ i → rec.codes.get j ≠ .pending) →
        ∃ t, exec (.frameEnd i) s = .next t ∧ (t.source i).state = .parked ∧ (t.receiver i).run = 0 ∧
          t.cru.test = none ∧ t.nq = s.nq.post s.cru.straps.attnMode s.cru.time none
            (.testDone (rec.codes.set i .badFrames) rec.start s.cru.time))) ∧
    ((s.receiver i).intake = .discarding →
      exec (.frameEnd i) s = .next (s.setReceiver i { s.receiver i with intake := .between, sums := ⟨0, 0, 0⟩ })) ∧
    ((s.receiver i).intake = .between → exec (.frameEnd i) s = .next s)

/-! Calibration and crop geometry (chapter 3) -/

/-- CAL_RUN after its checks replaces the list of its source with what the write pass and the order check leave, and
QUERY_ONLY gives the same result and reply and changes no list (R52 to R55). The checks, each with BAD_VALUE and no change: a
direction byte that is neither +1 nor -1 with no payload; then a source, a start position or a count out of range with
written count 0 and no offending item; then the first point record with a focus code from 1024 to 0xFFFE, named by its
index (R52, R197). -/
def Obligations.CalRunTaken : Prop :=
  (∀ (s : State) (tag src start dir count : Byte) (points : List PointRec) (i : Src), LinkReady s →
    (s.link.part = .config ∨ s.link.part = .streaming) → byteSource src = some i → start.toNat ≤ 11 →
    (dir = 0x01 ∨ dir = 0xFF) → count.toNat ≤ 12 → points.length = (if count = 0 then 12 else count.toNat) →
    (∀ p ∈ points, p.focus.toNat ≤ 1023 ∨ p.focus = 0xFFFF) →
    let w := writePass (decide (dir = 0x01)) points start.toNat (s.gu.cal.get i)
    let result : Result := if (orderCheck w.list).isSome then .badValue
      else if w.count = points.length then .ok else .partialDone
    let payload : List Byte := [u8 w.count, match orderCheck w.list with
      | none => 0xFF
      | some p => u8 p]
    let list : CalList := if (orderCheck w.list).isSome then s.gu.cal.get i else w.list
    exec (.calRun tag src start dir count points) s = .next
      (({ s with gu := { s.gu with cal := s.gu.cal.set i list } }.delivered 257).answered tag false
        (.calRun src start dir count points) result payload) ∧
    exec (.calRunQueryOnly tag src start dir count points) s =
      .next ((s.delivered 257).answered tag true (.calRun src start dir count points) result payload)) ∧
  (∀ (s : State) (tag src start dir count : Byte) (points : List PointRec), LinkReady s →
    (s.link.part = .config ∨ s.link.part = .streaming) →
    (12 < count.toNat ∨ points.length = (if count = 0 then 12 else count.toNat)) →
    let refused (payload : List Byte) : Prop :=
      exec (.calRun tag src start dir count points) s =
        .next ((s.delivered 257).answered tag false (.calRun src start dir count points) .badValue payload) ∧
      exec (.calRunQueryOnly tag src start dir count points) s =
        .next ((s.delivered 257).answered tag true (.calRun src start dir count points) .badValue payload)
    (dir ≠ 0x01 → dir ≠ 0xFF → refused []) ∧
    ((dir = 0x01 ∨ dir = 0xFF) → (byteSource src = none ∨ 11 < start.toNat ∨ 12 < count.toNat) → refused [0, 0xFF]) ∧
    ((dir = 0x01 ∨ dir = 0xFF) → (∃ i, byteSource src = some i) → start.toNat ≤ 11 → count.toNat ≤ 12 →
      ∀ k, points.findIdx? (fun p => decide (1023 < p.focus.toNat ∧ p.focus ≠ 0xFFFF)) = some k → refused [0, u8 k]))

/-- The write pass: with direction +1 record n goes to position j + n and with -1 to j - n; a position it reaches
holds the record's point, or is empty for the code 0xFFFF, every other keeps what it held, and the written count is
the number of records that reached a position (R53). The order check passes exactly the lists whose points have
strictly ascending focus codes, and names the first position whose focus code is not above that of the nearest point
before it (R54). -/
def Obligations.WritePassAndOrderCheck : Prop :=
  (∀ (points : List PointRec) (j : Nat) (l : CalList), j ≤ 11 →
    let held (p : PointRec) : Option CalPoint :=
      if p.focus = 0xFFFF then none else some ⟨p.focus.toNat, p.ox.toInt, p.oy.toInt⟩
    (writePass true points j l).count = min points.length (12 - j) ∧
    (writePass false points j l).count = min points.length (j + 1) ∧
    ∀ k : Fin 12,
      (writePass true points j l).list[k] =
        (if j ≤ k.val then (points[k.val - j]?.map held).getD l[k] else l[k]) ∧
      (writePass false points j l).list[k] =
        (if k.val ≤ j then (points[j - k.val]?.map held).getD l[k] else l[k])) ∧
  (∀ l : CalList,
    (orderCheck l = none ↔ (l.points.map CalPoint.focus).Pairwise (· < ·)) ∧
    ∀ p, orderCheck l = some p →
      ∃ (h : p < 12) (b : CalPoint), l[p] = some b ∧
        (∃ (k : Nat) (hk : k < p) (a : CalPoint), l[k] = some a ∧ b.focus ≤ a.focus ∧
          ∀ (m : Nat) (hm : m < p), k < m → l[m] = none) ∧
        ((l.toList.take p).filterMap id |>.map CalPoint.focus).Pairwise (· < ·))

/-- The lookup reads the points of the list in position order: with none it gives 0 and 0; at or below the first point, at or
above the last, and at the code of any point it gives that point's offsets; the offsets given lie, as those of the
points, within −32768 to 32767 (R49). Between two consecutive points it is the exact linear interpolation rounded once to the nearest integer, halves away
from zero, on each axis, and mirror images in sign give mirror images at every focus code (R50). -/
def Obligations.LookupInterpolates : Prop :=
  let ascending (l : List CalPoint) : Prop := (l.map CalPoint.focus).Pairwise (· < ·)
  (∀ (s : State) (i : Src) (f : Nat), s.lookup i f = lookupPoints ((s.gu.cal.get i).toList.filterMap id) f) ∧
  (∀ f : Nat, lookupPoints [] f = ⟨0, 0⟩) ∧
  (∀ (pre post : List CalPoint) (p : CalPoint) (f : Nat), ascending (pre ++ p :: post) →
    (pre = [] ∧ f ≤ p.focus) ∨ (post = [] ∧ p.focus ≤ f) ∨ f = p.focus →
    lookupPoints (pre ++ p :: post) f = ⟨p.ox, p.oy⟩) ∧
  (∀ (pre post : List CalPoint) (a b : CalPoint) (f : Nat), ascending (pre ++ a :: b :: post) → a.focus < f → f < b.focus →
    let nearest (n : Int) (d : Int) (r : Int) : Prop :=
      2 * (r * d - n) ≤ d ∧ 2 * (n - r * d) ≤ d ∧ (2 * (r * d - n) = d → 0 < n) ∧ (2 * (n - r * d) = d → n < 0)
    let o := lookupPoints (pre ++ a :: b :: post) f
    nearest (a.ox * (b.focus - a.focus) + (b.ox - a.ox) * (f - a.focus)) (b.focus - a.focus) o.ox ∧
    nearest (a.oy * (b.focus - a.focus) + (b.oy - a.oy) * (f - a.focus)) (b.focus - a.focus) o.oy) ∧
  (∀ (points : List CalPoint) (f : Nat), ascending points →
    let o := lookupPoints points f
    lookupPoints (points.map fun p => { p with ox := -p.ox, oy := -p.oy }) f = ⟨-o.ox, -o.oy⟩ ∧
    ((∀ p ∈ points, -32768 ≤ p.ox ∧ p.ox ≤ 32767 ∧ -32768 ≤ p.oy ∧ p.oy ≤ 32767) →
      -32768 ≤ o.ox ∧ o.ox ≤ 32767 ∧ -32768 ≤ o.oy ∧ o.oy ≤ 32767))

/-- Every crop window lies within its source frame, with even position and size, for every input; a line the statistics unit
sums and every pixel the resample reads through it lie within the frame (R62). -/
def Obligations.CropWindowInFrame : Prop :=
  ∀ (w b z : Nat) (o : Offsets),
    let c := (cropWindow w b z o).rect
    c.cw ≤ w ∧ c.ch ≤ w * 9 / 16 ∧ c.x0 + c.cw ≤ w ∧ c.y0 + c.ch ≤ w * 9 / 16 ∧
    c.x0 % 2 = 0 ∧ c.y0 % 2 = 0 ∧ c.cw % 2 = 0 ∧ c.ch % 2 = 0 ∧
    (∀ (y : Nat) (line : List Pixel), windowSum c y line ≠ ⟨0, 0, 0⟩ → y < w * 9 / 16) ∧
    ∀ n x, x < n →
      (0 < c.cw → mapPosition c.x0 c.cw n x / 256 < w ∧
        min (mapPosition c.x0 c.cw n x / 256 + 1) (c.x0 + c.cw - 1) < w) ∧
      (0 < c.ch → mapPosition c.y0 c.ch n x / 256 < w * 9 / 16 ∧
        min (mapPosition c.y0 c.ch n x / 256 + 1) (c.y0 + c.ch - 1) < w * 9 / 16)

/-- The arithmetic of a crop window: width, height, the short mark, and on each axis the centred start, its clamp with the
edge mark and the rounding down to even (R58 to R61), with the stretch of the compose window (R63). The displacement of an
offset is ox × W × B ÷ 2^24 rounded to the nearest integer, halves away from zero (R60). -/
def Obligations.CropWindowArithmetic : Prop :=
  (∀ (w b z : Nat) (o : Offsets), w % 16 = 0 → 0 < z →
    let c := cropWindow w b z o
    let h := w * 9 / 16
    let x : Int := w / 2 - displacement o.ox w b - c.rect.cw / 2
    let y : Int := h / 2 - displacement o.oy w b - c.rect.ch / 2
    c.rect.cw = (if w < w * b / z then w else w * b / z - w * b / z % 2) ∧
    c.rect.ch = c.rect.cw * 9 / 16 - c.rect.cw * 9 / 16 % 2 ∧ (c.short = true ↔ w < w * b / z) ∧
    (c.edge = true ↔ x < 0 ∨ (w : Int) - c.rect.cw < x ∨ y < 0 ∨ (h : Int) - c.rect.ch < y) ∧
    (0 ≤ x → x ≤ (w : Int) - c.rect.cw → (c.rect.x0 : Int) = x - x % 2) ∧ (x < 0 → c.rect.x0 = 0) ∧
    ((w : Int) - c.rect.cw < x → c.rect.x0 = w - c.rect.cw - (w - c.rect.cw) % 2) ∧
    (0 ≤ y → y ≤ (h : Int) - c.rect.ch → (c.rect.y0 : Int) = y - y % 2) ∧ (y < 0 → c.rect.y0 = 0) ∧
    ((h : Int) - c.rect.ch < y → c.rect.y0 = h - c.rect.ch - (h - c.rect.ch) % 2)) ∧
  (∀ (s : State) (i : Src) (width focus : Nat),
    (s.composeWindow i width focus).stretch =
      s.cp.settings.wo * 256 / (s.composeWindow i width focus).rect.cw) ∧
  (∀ (o : Int) (w b : Nat),
    let n : Int := o * (w * b : Nat)
    let d : Int := displacement o w b
    2 * (d * 16777216 - n) ≤ 16777216 ∧ 2 * (n - d * 16777216) ≤ 16777216 ∧
      (2 * (d * 16777216 - n) = 16777216 → 0 < n) ∧ (2 * (n - d * 16777216) = 16777216 → n < 0))

/-- The source position of an output column or line: the mapped value clamped to the window; its index lies in the window,
and its fraction is 0 on the window's last index (R65, R66). The resampled value is the bilinear value of the four
neighbours, a column or line beyond the window replaced by its last, a missing pixel read as 0, and lies within 0 to
1023 (R67). -/
def Obligations.ResampleMapping : Prop :=
  (∀ start size n x : Nat, 0 < size → 0 < n → x < n →
    let p : Int := start * 256 + (((2 * x + 1) * size * 128 / n : Nat) : Int) - 128
    let q := mapPosition start size n x
    (p < start * 256 → q = start * 256) ∧ ((start + size - 1) * 256 < p → q = (start + size - 1) * 256) ∧
    (start * 256 ≤ p → p ≤ (start + size - 1) * 256 → (q : Int) = p) ∧ start ≤ q / 256 ∧ q / 256 ≤ start + size - 1 ∧
    (q / 256 = start + size - 1 → q % 256 = 0)) ∧
  (∀ (frame : Content) (pick : Pixel → BitVec 10) (win : Rect) (wo ho x y : Nat),
    let fx := mapPosition win.x0 win.cw wo x % 256
    let fy := mapPosition win.y0 win.ch ho y % 256
    let ix := mapPosition win.x0 win.cw wo x / 256
    let iy := mapPosition win.y0 win.ch ho y / 256
    let jx := if win.x0 + win.cw - 1 < ix + 1 then win.x0 + win.cw - 1 else ix + 1
    let jy := if win.y0 + win.ch - 1 < iy + 1 then win.y0 + win.ch - 1 else iy + 1
    let value (column line : Nat) : Nat := match (frame[line]?).bind fun l => l[column]? with
      | none => (pick ⟨0, 0, 0⟩).toNat
      | some p => (pick p).toNat
    resample frame pick win wo ho x y =
      (value ix iy * (256 - fx) * (256 - fy) + value jx iy * fx * (256 - fy) + value ix jy * (256 - fx) * fy +
        value jx jy * fx * fy + 32768) / 65536 ∧
    resample frame pick win wo ho x y ≤ 1023)

/-! The zoom ladder and zoom motion (chapter 4) -/

/-- LADDER_SET in CONFIG of a ladder that passes R70 replaces the ladder, clamps T to it, makes Z that T and clears
the pin flag; QUERY_ONLY gives the same reply and changes nothing; a ladder that fails names its rung and check and
changes nothing (R70 to R72), and a rung count out of range names no rung, 0xFF, and check 1. A ladder passes R70 exactly when its sources are in range, distinct and defined, and
every rung above the first meets checks 5 to 9 against the rung below; it is kept as its records give it, rung 0
without points (R69 to R71). Above rungs that pass, the number of the first check that a rung fails: 2 for its source
number, 3 for a source named below, 4 for an undefined one, 5 to 9 for its points against the rung below (R70). -/
def Obligations.LadderSetTaken : Prop :=
  (∀ (s : State) (tag count : Byte) (rungs : List RungRec), LinkReady s → s.link.part = .config →
    rungs.length = count.toNat → 1 ≤ count.toNat → count.toNat ≤ 4 →
    (∀ (l : Ladder) (t lo hi : Nat), s.checkRungs rungs [] = .ok l → lo = s.zmin l → hi = s.zmax l →
      t = (if s.zc.target < lo then lo else if hi < s.zc.target then hi else s.zc.target) →
      exec (.ladderSet tag count rungs) s = .next
        (({ s with zc := { s.zc with ladder := some l, target := t, shown := t, pinned := false } }.delivered 257).answered
          tag false (.ladderSet count rungs) .ok (u16 t ++ u16 lo ++ u16 hi)) ∧
      exec (.ladderSetQueryOnly tag count rungs) s = .next ((s.delivered 257).answered tag true (.ladderSet count rungs)
        .ok (u16 t ++ u16 lo ++ u16 hi))) ∧
    (∀ k c : Nat, s.checkRungs rungs [] = .error (k, c) →
      exec (.ladderSet tag count rungs) s =
        .next ((s.delivered 257).answered tag false (.ladderSet count rungs) .badValue [u8 k, u8 c]) ∧
      exec (.ladderSetQueryOnly tag count rungs) s =
        .next ((s.delivered 257).answered tag true (.ladderSet count rungs) .badValue [u8 k, u8 c]))) ∧
  (∀ (s : State) (tag count : Byte) (rungs : List RungRec), LinkReady s → s.link.part = .config →
    count = 0 ∨ 4 < count.toNat →
    exec (.ladderSet tag count rungs) s =
      .next ((s.delivered 257).answered tag false (.ladderSet count rungs) .badValue [0xFF, 1]) ∧
    exec (.ladderSetQueryOnly tag count rungs) s =
      .next ((s.delivered 257).answered tag true (.ladderSet count rungs) .badValue [0xFF, 1])) ∧
  (∀ (s : State) (pre post : List RungRec) (r : RungRec) (l : Ladder), s.checkRungs pre [] = .ok l →
    let fails (check : Nat) : Prop := s.checkRungs (pre ++ r :: post) [] = .error (pre.length, check)
    (byteSource r.source = none → fails 2) ∧
    ∀ i : Src, byteSource r.source = some i →
      ((∃ g ∈ l, g.source = i) → fails 3) ∧
      ((∀ g ∈ l, g.source ≠ i) → (s.source i).defined = false → fails 4) ∧
      ((∀ g ∈ l, g.source ≠ i) → (s.source i).defined = true → ∀ below, l.getLast? = some below →
        let a := s.source below.source
        let b := s.source i
        let holds : List Bool := [decide (a.base < b.base), decide (a.zcap ≤ b.zcap),
          decide (b.base < r.d.toNat ∧ r.d.toNat < r.u.toNat ∧ r.u.toNat ≤ a.zcap),
          decide (a.base ≤ r.wu.toNat ∧ r.wu.toNat ≤ r.u.toNat), decide (r.d.toNat ≤ r.wd.toNat ∧ r.wd.toNat ≤ b.zcap)]
        ∀ k, holds.findIdx? not = some k → fails (k + 5))) ∧
  (∀ (s : State) (rungs : List RungRec) (l : Ladder), s.checkRungs rungs [] = .ok l ↔
    l.length = rungs.length ∧ (l.map Rung.source).Nodup ∧
    ∀ (k : Nat) (r : RungRec) (g : Rung), rungs[k]? = some r → l[k]? = some g →
      byteSource r.source = some g.source ∧ (s.source g.source).defined = true ∧
      (k = 0 → g.wu = 0 ∧ g.u = 0 ∧ g.d = 0 ∧ g.wd = 0) ∧
      ∀ (j : Nat) (below : Rung), k = j + 1 → l[j]? = some below →
        g.wu = r.wu.toNat ∧ g.u = r.u.toNat ∧ g.d = r.d.toNat ∧ g.wd = r.wd.toNat ∧
        (s.source below.source).base < (s.source g.source).base ∧
        (s.source below.source).zcap ≤ (s.source g.source).zcap ∧
        (s.source g.source).base < g.d ∧ g.d < g.u ∧ g.u ≤ (s.source below.source).zcap ∧
        (s.source below.source).base ≤ g.wu ∧ g.wu ≤ g.u ∧ g.d ≤ g.wd ∧ g.wd ≤ (s.source g.source).zcap)

/-- ZOOM_SET: T is stored, clamped to a ladder's limits, with the rate; in CONFIG with a ladder Z becomes it at once;
held and pinned stay, and a target of 0 gives BAD_VALUE (R75). PIN_SOURCE (on) in RUNNING sets the pin flag, a record
in ARMED or MATCHING being removed and one in BLENDING running on with the reply "after blend"; elsewhere it gives
WRONG_STATE. PIN_SOURCE (off) clears the flag (R83, R84, R94). -/
def Obligations.ZoomAndPinTaken : Prop :=
  (∀ (s : State) (tag : Byte) (target rate : Half), LinkReady s → (s.link.part = .config ∨ s.link.part = .streaming) →
    (∀ t : Nat, target ≠ 0 →
      t = (match s.zc.ladder with
        | none => target.toNat
        | some l => if target.toNat < s.zmin l then s.zmin l else if s.zmax l < target.toNat then s.zmax l
          else target.toNat) →
      exec (.zoomSet tag target rate) s = .next
        (({ s with zc := { s.zc with
            target := t
            shown := if s.link.part = PartState.config ∧ s.zc.ladder ≠ none then t else s.zc.shown
            rate := rate.toNat } }.delivered 257).answered tag false (.zoomSet target rate) .ok (u16 t ++ be16 rate))) ∧
    (target = 0 →
      exec (.zoomSet tag target rate) s =
        .next ((s.delivered 257).answered tag false (.zoomSet target rate) .badValue []))) ∧
  (∀ (s : State) (tag : Byte), LinkReady s → (s.link.part = .config ∨ s.link.part = .streaming) →
    (∀ p, s.link.part = .streaming → s.cp.sub = .running → s.zc.pinned = false → s.primary = some p →
      (s.zc.record = none →
        exec (.pinSourceOn tag) s = .next (({ s with zc := { s.zc with pinned := true } }.delivered 257).answered tag
          false (.pinSource 1) .ok [u8 p.num])) ∧
      (∀ r, s.zc.record = some r → r.phase = .armed ∨ r.phase = .matching →
        exec (.pinSourceOn tag) s = .next
          (((({ s with zc := { s.zc with record := none, pinned := true } }).setSource r.taker { s.source r.taker with
              idle := if (s.source r.taker).state = SrcState.warm ∧ (s.source r.taker).idleTwenties ≠ 0 ∧
                  s.isPending r.taker = false
                then some ⟨s.cru.time, (s.source r.taker).idleTwenties * 20000⟩ else none }).delivered 257).answered tag
            false (.pinSource 1) .ok [u8 p.num]))) ∧
    (∀ r, s.link.part = .streaming → s.cp.sub = .running → s.zc.record = some r → r.phase = .blending →
      exec (.pinSourceOn tag) s = .next (({ s with zc := { s.zc with pinned := true } }.delivered 257).answered tag
        false (.pinSource 1) .ok [0xFE])) ∧
    (s.link.part = .config ∨ s.cp.sub = .starting ∨ s.cp.sub = .frozen →
      exec (.pinSourceOn tag) s = .next ((s.delivered 257).answered tag false (.pinSource 1) .wrongState [])) ∧
    exec (.pinSourceOff tag) s = .next (({ s with zc := { s.zc with pinned := false } }.delivered 257).answered tag
      false (.pinSource 0) .ok [0xFF]))

/-- One move of Z: at rate 0 it is the desired zoom; otherwise it moves by max(1, floor(Z × rate / 65536)) toward it
and never past it, so from within the bounds it stays within them (R78). A zoom step's stages 1 and 2 in RUNNING with
no blend: Z moves within the range of the primary, held says whether it stands at the edge with T beyond it, and a
change of held posts ZOOM_HELD (R77 to R79, R86). -/
def Obligations.ZoomStepMoves : Prop :=
  ((∀ z desired : Nat, zoomMove z 0 desired = desired) ∧
  (∀ z rate desired : Nat, 0 < rate → z < desired →
    zoomMove z rate desired = min (z + max 1 (z * rate / 65536)) desired) ∧
  (∀ z rate desired : Nat, 0 < rate → desired < z →
    zoomMove z rate desired = max (z - max 1 (z * rate / 65536)) desired) ∧
  (∀ z rate : Nat, zoomMove z rate z = z) ∧
  ∀ z rate t lo hi : Nat, lo ≤ z → z ≤ hi →
    lo ≤ zoomMove z rate (clamp t lo hi) ∧ zoomMove z rate (clamp t lo hi) ≤ hi) ∧
  (∀ (s : State) (p : Src) (lo hi z : Nat) (held : Bool), s.cp.sub = .running → s.primary = some p →
    (∀ r, s.zc.record = some r → r.phase ≠ .blending) → lo = (s.source p).base →
    hi = (s.source p).base * (s.source p).stretch / 256 → z = zoomMove s.zc.shown s.zc.rate (clamp s.zc.target lo hi) →
    held = decide ((s.zc.target < lo ∧ z = lo) ∨ (hi < s.zc.target ∧ z = hi)) →
    let moved : State := { s with zc := { s.zc with bounds := some ⟨lo, hi, .one p⟩, shown := z, held := held } }
    s.zoomStages =
      if held = s.zc.held then moved
      else moved.post none (.zoomHeld held (if held then (if s.zc.target < lo then .lower else .upper) else .none)
        s.zc.target z (some (.one p)) s.cru.time))

/-! Hand-off and colour matching (chapters 5 and 6) -/

/-- A match update moves each gain a quarter of the way to the clamped ratio of the means, truncated toward zero,
never past it, counts the updates within tolerance, and keeps every gain within 512 to 2048 (R120 to R123). The blend
at index i of N: w = floor(256 × i ÷ (N + 1)) lies within 1 to 255, and each incoming gain is the match gain walked
back to 1024 by trunc((1024 − G) × i ÷ (N + 1)), between the two (R99). -/
def Obligations.MatchAndBlendArithmetic : Prop :=
  ((∀ o n : Nat, rawRatio o n = (if n = 0 then 2048 else max 512 (min 2048 (o * 1024 / n))) ∧
    (ratioClamped o n = true ↔ n = 0 ∨ o * 1024 / n < 512 ∨ 2048 < o * 1024 / n)) ∧
  (∀ g raw : Nat, ((gainMove g raw : Nat) : Int) = g + Int.tdiv ((raw : Int) - g) 4) ∧
  (∀ g raw : Nat, 512 ≤ g → g ≤ 2048 → 512 ≤ raw → raw ≤ 2048 → 512 ≤ gainMove g raw ∧ gainMove g raw ≤ 2048) ∧
  ∀ (r : Transition) (o n : Triple) (startO startN : Time) (tolerance : Nat),
    let u := r.matchUpdate o n startO startN tolerance
    u.gains = ⟨gainMove r.gains.r (rawRatio o.r n.r), gainMove r.gains.g (rawRatio o.g n.g),
      gainMove r.gains.b (rawRatio o.b n.b)⟩ ∧
    u.run = (if |(rawRatio o.r n.r : Int) - u.gains.r| ≤ tolerance ∧ |(rawRatio o.g n.g : Int) - u.gains.g| ≤ tolerance ∧
        |(rawRatio o.b n.b : Int) - u.gains.b| ≤ tolerance then min (r.run + 1) 15 else 0) ∧
    u.limited = (r.limited || ratioClamped o.r n.r || ratioClamped o.g n.g || ratioClamped o.b n.b) ∧
    u.lastPair = some (startO, startN) ∧ u.ticks = r.ticks ∧ u.index = r.index ∧ u.phase = r.phase) ∧
  (∀ r : Transition, 1 ≤ r.index → r.index ≤ r.n → r.n ≤ 32 →
    r.weight = 256 * r.index / (r.n + 1) ∧ 7 ≤ r.weight ∧ r.weight ≤ 255 ∧
    ((r.blendGains.r : Int) = r.gains.r + Int.tdiv ((1024 - (r.gains.r : Int)) * r.index) (r.n + 1)) ∧
    ((r.blendGains.g : Int) = r.gains.g + Int.tdiv ((1024 - (r.gains.g : Int)) * r.index) (r.n + 1)) ∧
    ((r.blendGains.b : Int) = r.gains.b + Int.tdiv ((1024 - (r.gains.b : Int)) * r.index) (r.n + 1)) ∧
    min r.gains.r 1024 ≤ r.blendGains.r ∧ r.blendGains.r ≤ max r.gains.r 1024)

/-- The combination of R127: out = (a × (256 − w) + b × w + 128) ÷ 256, truncated, the nearest value with halves upward, lies
between a and b and within 0 to 1023; a lone participant gives its gained value; at a weight from 1 to 255 both values have a
part. The gained value is (v × g + 512) ÷ 1024, truncated and clamped to at most 1023, and at gain 1024 it is v itself. -/
def Obligations.BlendedBetween : Prop :=
  (∀ a b w : Nat, a ≤ 1023 → b ≤ 1023 → w ≤ 256 →
    blended a b w = (a * (256 - w) + b * w + 128) / 256 ∧
    256 * blended a b w ≤ a * (256 - w) + b * w + 128 ∧ a * (256 - w) + b * w + 128 < 256 * blended a b w + 256 ∧
    min a b ≤ blended a b w ∧ blended a b w ≤ max a b ∧ blended a b w ≤ 1023) ∧
  (∀ a b w : Nat, 1 ≤ w → w ≤ 255 → blended a b w < blended (a + 256) b w ∧ blended a b w < blended a (b + 256) w) ∧
  (∀ a b : Nat, blended a b 256 = b) ∧
  (∀ v g : Nat, gained v g = if 1023 < (v * g + 512) / 1024 then 1023 else (v * g + 512) / 1024) ∧
  (∀ v : Nat, v ≤ 1023 → gained v 1024 = v) ∧
  (∀ (s : State) (k : Compose) (p : Part) (pick : Pixel → BitVec 10) (gain : Gains → Nat) (x y : Nat), k.parts = [p] →
    s.outValue k pick gain x y = s.partValue k.wo p pick gain x y) ∧
  (∀ (s : State) (k : Compose) (p q : Part) (pick : Pixel → BitVec 10) (gain : Gains → Nat) (x y : Nat),
    k.parts = [p, q] → s.outValue k pick gain x y =
      blended (s.partValue k.wo p pick gain x y) (s.partValue k.wo q pick gain x y) q.weight)

/-- The triggers of a zoom step with the primary at rung k: UP at Z ≥ U of the rung above, then DOWN at Z < D of its own rung,
each passed over for a target in FAULT; the record starts in ARMED with gains 1024 and N from the settings (R90, R91).
A tick in RUNNING with no record and no pin: Z takes its step, a PARKED neighbour whose wake point Z has passed is woken,
the trigger is evaluated at that Z, and a record it creates takes its ARMED work at once: a PARKED target is woken, a
WARM one enters MATCHING or, with N = 0, takes the cut, with HANDOFF_DONE (R6, R76 to R78, R81, R89, R92, R97). -/
def Obligations.TriggerCreatesRecord : Prop :=
  (∀ (s : State) (l : Ladder) (k : Nat) (p : Src), s.zc.ladder = some l → s.primary = some p → rungOf l p = some k →
    let up : Option Rung := l[k + 1]?.filter fun g =>
      decide (g.u ≤ s.zc.shown ∧ (s.source g.source).state ≠ .fault)
    let down : Option Rung := if 0 < k ∧ (l[k]?.map Rung.d).any (fun d => decide (s.zc.shown < d)) = true then
      l[k - 1]?.filter fun g => decide ((s.source g.source).state ≠ .fault) else none
    let fresh (kind : RecKind) (t : Src) : Transition :=
      { kind := kind, giver := p, taker := t, phase := .armed, n := s.cp.settings.n, index := 0, gains := ⟨1024, 1024, 1024⟩,
        run := 0, ticks := 0, limited := false, lastPair := none, retargeted := false }
    s.trigger = match up, down with
      | some g, _ => some (fresh .up g.source)
      | none, some g => some (fresh .down g.source)
      | none, none => none) ∧
  (∀ (s : State) (d : Time) (l : Ladder) (k z : Nat) (p : Src), TickDue s d → s.cp.sub = .running → s.zc.record = none →
    s.zc.pinned = false → s.zc.ladder = some l → (l.map Rung.source).Nodup → s.primary = some p → rungOf l p = some k →
    z = s.steppedZoom p →
    let stepped : State := { s with zc := { s.zc with shown := z } }
    let wakes (j : Src) : Prop := (s.source j).state = .parked ∧ (s.source j).defined = true ∧
      ((∃ g, l[k + 1]? = some g ∧ g.source = j ∧ g.wu ≤ z) ∨
        ∃ g q, 0 < k ∧ l[k]? = some g ∧ z < g.wd ∧ l[k - 1]? = some q ∧ q.source = j)
    let others (t : State) (r : Option Transition) : Prop := ∀ j, (∀ q, r = some q → j ≠ q.taker ∧ j ≠ q.giver) →
      (wakes j → t.source j = s.wokenRec j) ∧ (¬ wakes j → t.source j = s.source j)
    (stepped.trigger = none → ∃ t, exec .tick s = .next t ∧ t.zc.shown = z ∧ t.zc.record = none ∧ others t none) ∧
    (∀ r, stepped.trigger = some r → ∃ t, exec .tick s = .next t ∧ t.zc.shown = z ∧ others t (some r) ∧
      ((s.source r.taker).state ≠ .warm → t.zc.record = some r ∧ t.source p = s.source p ∧
        ((s.source r.taker).state = .parked → (s.source r.taker).defined = true →
          t.source r.taker = { s.wokenRec r.taker with idle := none }) ∧
        ((s.source r.taker).state ≠ .parked → (t.source r.taker).state = (s.source r.taker).state)) ∧
      ((s.source r.taker).state = .warm → r.n ≠ 0 → t.zc.record = some { r with phase := .matching } ∧
        t.source p = s.source p ∧ t.source r.taker = { s.source r.taker with idle := none }) ∧
      ((s.source r.taker).state = .warm → r.n = 0 → t.zc.record = none ∧ (t.source p).state = .warm ∧
        (t.source r.taker).state = .primary ∧
        Posted s t (.handoffDone r.kind p r.taker .cut false 0 ⟨1024, 1024, 1024⟩ s.cru.time))))

/-- MATCH_WINDOW_EXPIRY: the tick at which the match ticks of a record without a newer pair reach the match window
starts the blend with limited set and MATCH_LIMITED posted: the primary becomes OUTGOING, the target INCOMING, the
index 1, for an UP record not below D of its boundary and for a DOWN record below U of it (R94, R95, R96, R98, R99, R116). Before that tick the command finds no expiry and changes nothing (log 10). A tick
in RUNNING with a blend in progress: below N the index rises by 1; at N the giver becomes WARM and the taker PRIMARY,
the record is removed and HANDOFF_DONE is posted with mode BLEND; with one of the two in FAULT the rest of the change is
made and no HANDOFF_DONE posted (R12, R76, R99, R100, R110, R113), and the pending report carries that change (log 11). A tick with a record in ARMED or MATCHING: beyond its
boundary's other point it is disarmed with no notice; in ARMED a PARKED target is woken, a WARM one enters MATCHING or,
with N = 0, takes the cut; in MATCHING a newer pair gives one match update, which may end matching by convergence
(R8, R88, R92, R94 to R98, R116, R120, R123). -/
def Obligations.BlendRuns : Prop :=
  (∀ (s : State) (r : Transition) (d : Time), TickDue s d → s.cp.sub = .running → s.zc.record = some r →
    r.kind ≠ .rescue → r.phase = .matching →
    (s.cp.settings.window ≤ r.ticks + 1 → s.cp.settings.window ≤ 255 → r.run < s.cp.settings.m → r.giver ≠ r.taker →
      (s.source r.giver).state = .primary → (s.source r.taker).state = .warm → s.primary = some r.giver →
      (∀ b, s.boundary r = some b → (r.kind = .up → b.d ≤ s.steppedZoom r.giver) ∧
        (r.kind = .down → s.steppedZoom r.giver < b.u)) →
      (∀ o n, newestReady (s.ring r.giver) = some o → newestReady (s.ring r.taker) = some n →
        r.lastPair = some (o.start, n.start)) →
      ∃ t, exec .matchWindowExpiry s = .next t ∧ (t.source r.giver).state = .outgoing ∧
        (t.source r.taker).state = .incoming ∧
        t.zc.record = some { r with phase := .blending, index := 1, ticks := min (r.ticks + 1) 255, limited := true } ∧
        Posted s t (.matchLimited .window r.giver r.taker r.gains r.run (min (r.ticks + 1) 255) s.cru.time)) ∧
    (min (r.ticks + 1) 255 < s.cp.settings.window → exec .matchWindowExpiry s = .next s)) ∧
  (∀ (s : State) (r : Transition) (d : Time), TickDue s d → s.cp.sub = .running → s.zc.record = some r →
    r.kind ≠ .rescue → r.phase = .blending → r.giver ≠ r.taker →
    (r.index < r.n → (s.source r.giver).state = .outgoing → (s.source r.taker).state = .incoming →
      ∃ t, exec .tick s = .next t ∧ t.zc.record = some { r with index := r.index + 1 } ∧
      (t.source r.giver).state = .outgoing ∧ (t.source r.taker).state = .incoming ∧
      ∀ o n, newestReady (s.ring r.giver) = some o → newestReady (s.ring r.taker) = some n →
        ∃ k, t.cp.compose = some k ∧ k.live = true ∧ k.parts.map Part.source = [r.giver, r.taker] ∧
        k.parts.map Part.slot = [o.slot, n.slot] ∧
        k.parts.map Part.gains = [⟨1024, 1024, 1024⟩, Transition.blendGains { r with index := r.index + 1 }] ∧
        k.parts.map Part.weight =
          [256 - 256 * (r.index + 1) / (r.n + 1), 256 * (r.index + 1) / (r.n + 1)]) ∧
    (r.n ≤ r.index → (s.source r.giver).state = .outgoing → (s.source r.taker).state = .incoming →
      ∃ t, exec .tick s = .next t ∧ t.zc.record = none ∧ (t.source r.giver).state = .warm ∧
      (t.source r.taker).state = .primary ∧
      Posted s t (.handoffDone r.kind r.giver r.taker .blend r.limited r.n r.gains s.cru.time)) ∧
    (∀ y, r.n ≤ r.index → (s.source r.giver).state = .outgoing → (s.source r.taker).state = .fault →
      s.zc.reports.get r.taker = [y] →
      ∃ t, exec .tick s = .next t ∧ t.zc.record = none ∧ (t.source r.giver).state = .warm ∧
        t.source r.taker = { s.source r.taker with idle := none } ∧ NotPosted s t .handoffDone ∧
        t.zc.reports.get r.taker = [⟨.primary, some ⟨.completion, r, s.cru.time⟩⟩]) ∧
    (∀ y, r.n ≤ r.index → (s.source r.giver).state = .fault → (s.source r.taker).state = .incoming →
      s.zc.reports.get r.giver = [y] →
      ∃ t, exec .tick s = .next t ∧ t.zc.record = none ∧ t.source r.giver = s.source r.giver ∧
        (t.source r.taker).state = .primary ∧ NotPosted s t .handoffDone ∧
        t.zc.reports.get r.giver = [⟨.warm, some ⟨.completion, r, s.cru.time⟩⟩])) ∧
  (∀ (s : State) (r : Transition) (d : Time) (b : Rung) (z : Nat), TickDue s d → s.cp.sub = .running →
    s.zc.record = some r → r.kind ≠ .rescue → r.phase ≠ .blending → s.primary = some r.giver → r.giver ≠ r.taker →
    s.boundary r = some b → z = s.steppedZoom r.giver →
    let crossed : Prop := (r.kind = .up ∧ z < b.d) ∨ (r.kind = .down ∧ b.u ≤ z)
    (crossed → ∃ t, exec .tick s = .next t ∧ t.zc.record = none ∧ t.zc.shown = z ∧
      (∀ j, j ≠ r.taker → t.source j = s.source j) ∧ NotPosted s t .handoffDone ∧ NotPosted s t .handoffAborted ∧
      t.source r.taker = { s.source r.taker with
        idle := if (s.source r.taker).state = .warm ∧ (s.source r.taker).idleTwenties ≠ 0
          then some ⟨s.cru.time, (s.source r.taker).idleTwenties * 20000⟩ else none }) ∧
    (¬ crossed → r.phase = .armed → ∃ t, exec .tick s = .next t ∧ t.zc.shown = z ∧
      (∀ j, j ≠ r.taker → j ≠ r.giver → t.source j = s.source j) ∧
      ((s.source r.taker).state = .parked → (s.source r.taker).defined = true →
        t.zc.record = some r ∧ t.source r.taker = s.wokenRec r.taker ∧ t.source r.giver = s.source r.giver) ∧
      ((s.source r.taker).state = .waking ∨ (s.source r.taker).state = .syncing ∨ (s.source r.taker).state = .fault →
        t.zc.record = some r ∧ t.sources = s.sources) ∧
      ((s.source r.taker).state = .warm → r.n ≠ 0 →
        t.zc.record = some { r with phase := .matching, ticks := 0, run := 0 } ∧ t.sources = s.sources) ∧
      ((s.source r.taker).state = .warm → r.n = 0 → t.zc.record = none ∧ (t.source r.giver).state = .warm ∧
        (t.source r.taker).state = .primary ∧
        Posted s t (.handoffDone r.kind r.giver r.taker .cut r.limited 0 r.gains s.cru.time))) ∧
    (∀ (o n : FrameRec) (a c : Triple), ¬ crossed → r.phase = .matching → (s.source r.taker).state = .warm →
      newestReady (s.ring r.giver) = some o → newestReady (s.ring r.taker) = some n → o.means = some a →
      n.means = some c → r.lastPair ≠ some (o.start, n.start) →
      let u := Transition.matchUpdate { r with ticks := min (r.ticks + 1) 255 } a c o.start n.start
        s.cp.settings.tolerance
      (anyClamped a c = true → u.run < s.cp.settings.m → u.ticks < s.cp.settings.window →
        ∃ t, exec .tick s = .next t ∧
          Posted s t (.matchLimited .ratio r.giver r.taker u.gains u.run u.ticks s.cru.time)) ∧
      (u.run < s.cp.settings.m → u.ticks < s.cp.settings.window →
        ∃ t, exec .tick s = .next t ∧ t.zc.record = some u ∧ t.sources = s.sources) ∧
      (s.cp.settings.m ≤ u.run → ∃ t, exec .tick s = .next t ∧
        t.zc.record = some { u with phase := .blending, index := 1 } ∧ (t.source r.giver).state = .outgoing ∧
        (t.source r.taker).state = .incoming ∧ (anyClamped a c = false → NotPosted s t .matchLimited)) ∧
      (u.run < s.cp.settings.m → s.cp.settings.window ≤ u.ticks → ∃ t, exec .tick s = .next t ∧
        t.zc.record = some { u with phase := .blending, index := 1, limited := true } ∧
        (t.source r.giver).state = .outgoing ∧ (t.source r.taker).state = .incoming ∧
        Posted s t (.matchLimited .window r.giver r.taker u.gains u.run u.ticks s.cru.time))))

/-- FAULT_REPORT in STREAMING. The target of a record in ARMED or MATCHING removes the record (R93); the INCOMING source gives
the picture back (R102); the OUTGOING source passes it at once (R103). A faulted primary, any record in ARMED or
MATCHING being removed first, is rescued by a WARM neighbour, the lower one first, or else freezes the output for a
RESCUE record toward one that is woken, or with no neighbour out of FAULT freezes it for good (R104 to R106, R115); the
pending primary of a STARTING output likewise (R107). A failed rescue target gives way to the other neighbour once, or
the rescue is given up (R109). A change that found its source in FAULT is settled at that source's report: with the
taker the giver is PRIMARY again and HANDOFF_ABORTED carries the time of the change; with the giver HANDOFF_DONE with
mode CUT does (R110, R114; the latter time by log 32). Of several pending reports of a source the oldest is taken
(log 11). A report that is not pending changes nothing (log 25), and one outside STREAMING changes nothing but itself
(log 11). -/
def Obligations.FaultReportHandled : Prop :=
  (∀ (s : State) (i : Src), s.zc.reports.get i = [] → exec (.faultReport i) s = .next s) ∧
  ∀ (s : State) (i : Src) (x : Report) (rest : List Report), s.zc.reports.get i = x :: rest →
    let cleared : State := { s with zc := { s.zc with reports := s.zc.reports.set i rest } }
    let rescue (p : Src) : Transition :=
      { kind := .rescue, giver := i, taker := p, phase := .armed, n := s.cp.settings.n, index := 0,
        gains := ⟨1024, 1024, 1024⟩, run := 0, ticks := 0, limited := false, lastPair := none, retargeted := false }
    let passes (t : State) (p : Src) : Prop := (t.source p).state = .primary ∧ t.cp.sub = .running ∧
      t.cp.pendingPrimary = none ∧ t.zc.record = none ∧ t.zc.target = s.zc.target ∧
      t.zc.shown = clamp s.zc.shown (s.source p).base (s.source p).zcap
    let waits (t : State) (r : Transition) (p : Src) : Prop := t.zc.record = some r ∧ t.zc.shown = s.zc.shown ∧
      (t.source p).state = (if (s.source p).state = .parked then .waking else (s.source p).state)
    (s.link.part ≠ .streaming → exec (.faultReport i) s = .next cleared) ∧
    (s.link.part = .streaming → s.cp.sub = .starting → x.spoiled = none → (s.source i).state = .fault →
      s.zc.record = none → s.cp.pendingPrimary = some i →
      (∀ p, WarmChoice s i p → ∃ t, exec (.faultReport i) s = .next t ∧ passes t p ∧
        Posted s t (.handoffDone .rescue i p .rescue false 0 ⟨1024, 1024, 1024⟩ s.cru.time)) ∧
      (∀ p, ColdChoice s i p → ∃ t, exec (.faultReport i) s = .next t ∧ waits t (rescue p) p ∧ t.cp.sub = .starting ∧
        t.cp.pendingPrimary = none ∧ NotPosted s t .outputFrozen) ∧
      (NoChoice s i → ∃ t, exec (.faultReport i) s = .next t ∧ t.zc.record = none ∧ t.cp.sub = .frozen ∧
        t.cp.pendingPrimary = none ∧ Posted s t (.outputFrozen i none s.zc.target s.zc.shown s.cru.time))) ∧
    (s.link.part = .streaming → s.cp.sub = .running → x.spoiled = none →
      (∀ r, s.zc.record = some r → r.kind ≠ .rescue → r.taker = i → r.phase ≠ .blending →
        (s.source i).state = .fault →
        ∃ t, exec (.faultReport i) s = .next t ∧ t.zc = { cleared.zc with record := none } ∧
          (∀ j, (t.source j).state = (s.source j).state) ∧
          t.nq = s.nq.post s.cru.straps.attnMode s.cru.time none
            (.handoffAborted r.kind r.giver i r.phase r.index .targetFault s.cru.time)) ∧
      (∀ r, s.zc.record = some r → r.kind ≠ .rescue → r.taker = i → r.phase = .blending → x.role = .incoming →
        r.giver ≠ i → (s.source r.giver).state = .outgoing →
        ∃ t, exec (.faultReport i) s = .next t ∧ t.zc.record = none ∧ t.zc.shown = s.zc.shown ∧
          (t.source r.giver).state = .primary ∧ (t.source i).state = (s.source i).state ∧
          Posted s t (.handoffAborted r.kind r.giver i .blending r.index .incomingFault s.cru.time)) ∧
      (∀ r, s.zc.record = some r → r.kind ≠ .rescue → r.giver = i → r.phase = .blending → x.role = .outgoing →
        r.taker ≠ i → (s.source r.taker).state = .incoming →
        ∃ t, exec (.faultReport i) s = .next t ∧ t.zc.record = none ∧ t.zc.shown = s.zc.shown ∧
          (t.source r.taker).state = .primary ∧ (t.source i).state = (s.source i).state ∧
          Posted s t (.handoffDone r.kind i r.taker .cut r.limited r.n r.gains s.cru.time)) ∧
      (x.role = .primary → (∀ r, s.zc.record = some r → r.kind ≠ .rescue ∧ r.phase ≠ .blending ∧ r.taker ≠ i) →
        let aborted (t : State) : Prop := ∀ r, s.zc.record = some r →
          Posted s t (.handoffAborted r.kind r.giver r.taker r.phase r.index .primaryFault s.cru.time)
        (∀ p, WarmChoice s i p → ∃ t, exec (.faultReport i) s = .next t ∧ passes t p ∧ aborted t ∧
          Posted s t (.handoffDone .rescue i p .rescue false 0 ⟨1024, 1024, 1024⟩ s.cru.time)) ∧
        (∀ p, ColdChoice s i p → ∃ t, exec (.faultReport i) s = .next t ∧ waits t (rescue p) p ∧ t.cp.sub = .frozen ∧
          aborted t ∧ Posted s t (.outputFrozen i (some p) s.zc.target s.zc.shown s.cru.time)) ∧
        (NoChoice s i → ∃ t, exec (.faultReport i) s = .next t ∧ t.zc.record = none ∧ t.cp.sub = .frozen ∧ aborted t ∧
          Posted s t (.outputFrozen i none s.zc.target s.zc.shown s.cru.time)))) ∧
    (∀ r, s.link.part = .streaming → x.spoiled = none → (s.cp.sub = .starting ∨ s.cp.sub = .frozen) →
      s.cp.pendingPrimary = none → s.zc.record = some r → r.kind = .rescue → r.taker = i → (s.source i).state = .fault →
      let other : Option Src := if s.lowerOf r.giver = some i then s.upperOf r.giver else s.lowerOf r.giver
      (∀ p, other = some p → r.retargeted = false → (s.source p).state = .warm →
        ∃ t, exec (.faultReport i) s = .next t ∧ passes t p ∧
          Posted s t (.handoffDone .rescue r.giver p .rescue r.limited r.n r.gains s.cru.time)) ∧
      (∀ p, other = some p → r.retargeted = false → (s.source p).defined = true →
        ((s.source p).state = .parked ∨ (s.source p).state = .waking ∨ (s.source p).state = .syncing) →
        ∃ t, exec (.faultReport i) s = .next t ∧ waits t { r with taker := p, retargeted := true } p ∧
          t.cp.sub = s.cp.sub ∧
          (s.cp.sub = .frozen → Posted s t (.outputFrozen r.giver (some p) s.zc.target s.zc.shown s.cru.time)) ∧
          (s.cp.sub = .starting → NotPosted s t .outputFrozen)) ∧
      (r.retargeted = true ∨ (∀ p, other = some p → (s.source p).state = .fault) →
        ∃ t, exec (.faultReport i) s = .next t ∧ t.zc.record = none ∧ t.zc.shown = s.zc.shown ∧ t.cp.sub = .frozen ∧
          Posted s t (.handoffAborted .rescue r.giver i r.phase r.index .rescueFailed s.cru.time) ∧
          Posted s t (.outputFrozen r.giver none s.zc.target s.zc.shown s.cru.time))) ∧
    (∀ y, s.link.part = .streaming → x.spoiled = some y → y.change ≠ .rescue →
      (y.record.taker = i → y.record.giver ≠ i → (s.source y.record.giver).state = .warm →
        ∃ t, exec (.faultReport i) s = .next t ∧ (t.source y.record.giver).state = .primary ∧
          t.source i = s.source i ∧ t.zc.record = s.zc.record ∧
          Posted s t (.handoffAborted y.record.kind y.record.giver i y.record.phase y.record.index
            (if y.change = .completion then .incomingFault else .targetFault) y.time)) ∧
      (y.record.taker ≠ i → x.role.isRole = false → s.zc.record = none → s.cp.sub = .running →
        ∃ t, exec (.faultReport i) s = .next t ∧ t.zc = cleared.zc ∧ t.sources = s.sources ∧
          t.nq = s.nq.post s.cru.straps.attnMode s.cru.time none
            (.handoffDone y.record.kind y.record.giver y.record.taker .cut y.record.limited y.record.n y.record.gains
              y.time)))

/-! Output pacing and composition (chapter 7) -/

/-- OUTPUT_SET in CONFIG with every field in its range replaces the settings, and the reply gives them with Ho and the video
transmission time; the first field out of its range gives BAD_VALUE with its index, counted from 0, and changes nothing;
QUERY_ONLY gives the same result and reply and changes nothing (R131, R132, R149, R197). -/
def Obligations.OutputSetTaken : Prop :=
  ∀ (s : State) (tag : Byte) (wo : Half) (period : Word) (n tolerance m window : Byte), LinkReady s →
    s.link.part = .config →
    let answers (t : State) (result : Result) (payload : List Byte) : Prop :=
      exec (.outputSet tag wo period n tolerance m window) s = .next
        ((t.delivered 257).answered tag false (.outputSet wo period n tolerance m window) result payload) ∧
      exec (.outputSetQueryOnly tag wo period n tolerance m window) s = .next
        ((s.delivered 257).answered tag true (.outputSet wo period n tolerance m window) result payload)
    let inRange : List Bool :=
      [decide (640 ≤ wo.toNat ∧ wo.toNat ≤ 3840 ∧ wo.toNat % 16 = 0),
       decide (8333 ≤ period.toNat ∧ period.toNat ≤ 100000), decide (n.toNat ≤ 32), decide (tolerance.toNat ≤ 255),
       decide (1 ≤ m.toNat ∧ m.toNat ≤ 15), decide (1 ≤ window.toNat)]
    (∀ k, inRange.findIdx? not = some k → answers s .badValue [u8 k]) ∧
    (inRange.findIdx? not = none → answers
      { s with cp := { s.cp with settings :=
          { wo := wo.toNat, period := period.toNat, n := n.toNat, tolerance := tolerance.toNat, m := m.toNat,
            window := window.toNat } } } .ok
      (be16 wo ++ be32 period ++ [n, tolerance, m, window] ++ u16 (wo.toNat * 9 / 16) ++
        u16 ((wo.toNat * (wo.toNat * 9 / 16) + 1249) / 1250)))

/-- OUTPUT_START in CONFIG with no link test: the starting primary is the source of the highest rung k with k = 0 or Z ≥ U_k;
WARM it becomes PRIMARY of a RUNNING output, PARKED, WAKING or SYNCING it is the pending primary of a STARTING one, woken if
PARKED; the first tick is due one period from now, the totals are 0 and a discarded compose ends; in FAULT it gives NO_SOURCE
(R134 to R136, R140). A pending report of another source, or of a starting primary that is not WARM, stays (log 11). With a
link test or without a ladder it gives WRONG_STATE (R135). -/
def Obligations.OutputStartTaken : Prop :=
  (∀ (s : State) (tag : Byte) (l : Ladder) (k : Nat) (g : Rung), LinkReady s → s.link.part = .config →
    s.cru.test = none → s.zc.ladder = some l → l[k]? = some g → (k = 0 ∨ g.u ≤ s.zc.shown) →
    (∀ j h, k < j → l[j]? = some h → s.zc.shown < h.u) →
    ((s.source g.source).state = .fault →
      exec (.outputStart tag) s = .next ((s.delivered 257).answered tag false .outputStart .noSource [])) ∧
    ((s.source g.source).state.isRole = false → (s.source g.source).state ≠ .fault →
      ∃ t : State, exec (.outputStart tag) s = .next ((t.delivered 257).answered tag false .outputStart .ok
          [u8 g.source.num, if (s.source g.source).state = .warm then 2 else 1]) ∧
        t.link = { s.link with part := .streaming } ∧
        t.cp.deadline = some (s.cru.time + BitVec.ofNat 32 s.cp.settings.period) ∧ t.cp.overruns = 0 ∧ t.cp.repeats = 0 ∧
        t.cp.newest = none ∧ t.cp.lastSent = none ∧ t.cp.compose = none ∧ t.cp.settings = s.cp.settings ∧
        (t.source g.source).idle = none ∧ t.gu = s.gu ∧ t.fs = s.fs ∧ t.op = s.op ∧ t.cc = s.cc ∧
        t.zc = { s.zc with bounds := none, reports := t.zc.reports } ∧
        (∀ j, j ≠ g.source ∨ (s.source j).state ≠ .warm ∨ s.zc.reports.get j = [] →
          t.zc.reports.get j = s.zc.reports.get j) ∧ (∀ j, j ≠ g.source → t.source j = s.source j) ∧
        ((s.source g.source).state = .warm → (t.source g.source).state = .primary ∧ t.cp.sub = .running ∧
          t.cp.pendingPrimary = s.cp.pendingPrimary) ∧
        ((s.source g.source).state ≠ .warm → t.cp.sub = .starting ∧ t.cp.pendingPrimary = some g.source ∧
          (t.source g.source).state =
            if (s.source g.source).state = .parked ∧ (s.source g.source).defined = true then .waking
            else (s.source g.source).state))) ∧
  (∀ (s : State) (tag : Byte), LinkReady s → s.link.part = .config → (s.cru.test ≠ none ∨ s.zc.ladder = none) →
    exec (.outputStart tag) s = .next ((s.delivered 257).answered tag false .outputStart .wrongState []))

/-- OUTPUT_STOP in STREAMING: the ticks stop, the record and the pending primary go, every role becomes WARM, held and pinned
clear, every compositor hold is released, a live compose becomes discarded, a CAPTURING still ends with no group in
transmission, and the part is in CONFIG; elsewhere it gives WRONG_STATE (R11, R42, R80, R112, R139, R140, R163). -/
def Obligations.OutputStopTaken : Prop :=
  ∀ (s : State) (tag : Byte), LinkReady s →
    (s.link.part = .streaming →
      ∃ t : State, exec (.outputStop tag) s = .next ((t.delivered 257).answered tag false .outputStop .ok []) ∧
        t.link = { s.link with part := .config } ∧ t.cp.sub = .none ∧ t.cp.deadline = none ∧
        t.cp.pendingPrimary = none ∧ t.cp.settings = s.cp.settings ∧
        t.cp.compose = s.cp.compose.map (fun k => { k with live := false }) ∧ t.zc.record = none ∧
        t.zc.held = false ∧ t.zc.pinned = false ∧ t.zc.target = s.zc.target ∧ t.zc.shown = s.zc.shown ∧
        t.zc.rate = s.zc.rate ∧ t.zc.ladder = s.zc.ladder ∧
        (∀ i, (t.source i).state = if (s.source i).state.isRole = true then .warm else (s.source i).state) ∧
        (∀ i, ∀ q ∈ t.ring i, q.heldC = false) ∧ t.op.video = s.op.video ∧ t.op.group = s.op.group ∧ t.gu = s.gu ∧
        (∀ x, s.cc.still = some x → x.state ≠ .capturing → t.cc = s.cc ∧ t.op.queue = s.op.queue) ∧
        (∀ x, s.cc.still = some x → x.state = .capturing → s.op.group = none → t.cc.still = none)) ∧
    (s.link.part = .config ∨ s.link.part = .suspended →
      exec (.outputStop tag) s = .next ((s.delivered 257).answered tag false .outputStop .wrongState []))

/-- TICK: outside STREAMING nothing happens (log 25). With a live compose in flight the tick is an overrun: the deadline moves
on by one period, the video channel sends what R142 gives, and in RUNNING the overrun total rises and OUTPUT_REPEAT is
posted; Z, the record and the compose stay (R141 to R143, R149, R152). In RUNNING with hand-offs pinned Z takes its step,
and a compose of the primary alone begins at weight 256 and gain 1024 on its newest READY record, which takes the
compositor hold, into the buffer that is not the newest composite; its window is recorded (R42, R64, R76, R111, R141,
R144). A participant whose ring holds no READY record is left out: one repeat is counted, OUTPUT_REPEAT is posted with
cause NO_FRAME, and the other member of a blend is composed alone at weight 256 (R146, R152); until the report of its
fault is taken the tick goes on with the primary it knows (log 13). In STARTING the tick takes
a WARM pending primary as that of a RUNNING output, otherwise Z moves within its range and nothing is sent or composed
(R77, R137, R138, R142). A WARM RESCUE target becomes PRIMARY and is composed; before that, and in FROZEN with no record,
nothing is composed (R77, R108, R111, R151; that no bounds are then reported by log 17). -/
def Obligations.TickWorks : Prop :=
  ((∀ s : State, s.link.part ≠ .streaming → exec .tick s = .next s) ∧
  (∀ (s : State) (d : Time) (k : Compose), s.link.part = .streaming → s.cp.deadline = some d →
    ahead d s.cru.time = false → s.cp.sub = .running → s.cp.compose = some k → k.live = true →
    ∃ t, exec .tick s = .next t ∧ t.cp.deadline = some (d + BitVec.ofNat 32 s.cp.settings.period) ∧
      t.cp.overruns = min (s.cp.overruns + 1) 65535 ∧ t.cp.repeats = s.cp.repeats ∧ t.cp.compose = some k ∧
      t.zc = s.zc ∧ t.sources = s.sources ∧ t.fs = s.fs ∧ t.cru = s.cru ∧ t.cp.fresh = false ∧
      (∀ b, (if s.cp.fresh then s.cp.newest else s.cp.lastSent) = some b → t.cp.lastSent = some b ∧
        t.op.video = some ⟨b, s.cp.picture b, ⟨s.cru.time,
          (s.cp.settings.wo * (s.cp.settings.wo * 9 / 16) + 1249) / 1250⟩⟩) ∧
      ((if s.cp.fresh then s.cp.newest else s.cp.lastSent) = none → t.op = s.op ∧ t.cp.lastSent = s.cp.lastSent) ∧
      t.nq = s.nq.post s.cru.straps.attnMode s.cru.time none (.outputRepeat .overrun [] (min (s.cp.overruns + 1) 65535)
        s.cp.repeats s.zc.shown s.cru.time))) ∧
  (∀ (s : State) (d : Time) (p : Src) (r : FrameRec), TickDue s d → s.cp.sub = .running → s.zc.pinned = true →
    s.zc.record = none → s.primary = some p → newestReady (s.ring p) = some r →
    ∃ t, exec .tick s = .next t ∧ t.cp.deadline = some (d + BitVec.ofNat 32 s.cp.settings.period) ∧
      t.zc.shown = s.steppedZoom p ∧ t.zc.record = none ∧ t.sources = s.sources ∧ t.cp.fresh = false ∧
      (∀ b, (if s.cp.fresh then s.cp.newest else s.cp.lastSent) = some b → t.cp.lastSent = some b ∧
        t.op.video = some ⟨b, s.cp.picture b, ⟨s.cru.time,
          (s.cp.settings.wo * (s.cp.settings.wo * 9 / 16) + 1249) / 1250⟩⟩) ∧
      (∃ w : ComposeWindow, t.gu.windows.get p = some w ∧ w.zoom = t.zc.shown ∧ w.focus = r.focus.getD 0 ∧
        w.rect = (cropWindow r.width (s.source p).base t.zc.shown (s.lookup p (r.focus.getD 0))).rect ∧
        t.cp.compose = some { live := true, buffer := if s.cp.newest = some .ping then .pong else .ping,
                              wo := s.cp.settings.wo, parts := [⟨p, r.slot, 256, ⟨1024, 1024, 1024⟩, w⟩] }) ∧
      (∃ q ∈ t.ring p, q.slot = r.slot ∧ q.heldC = true) ∧
      (∀ q ∈ t.ring p, q.heldC = true → q.slot = r.slot) ∧ (∀ i, i ≠ p → ∀ q ∈ t.ring i, q.heldC = false) ∧
      t.cp.repeats = (if r.heldC then min (s.cp.repeats + 1) 65535 else s.cp.repeats)) ∧
  ((∀ (s : State) (d : Time) (p : Src), TickDue s d → s.cp.sub = .running → s.zc.pinned = true → s.zc.record = none →
    s.knownPrimary = some p → newestReady (s.ring p) = none →
    ∃ t, exec .tick s = .next t ∧ t.zc.shown = s.steppedZoom p ∧ t.sources = s.sources ∧ t.cp.compose = s.cp.compose ∧
      t.cp.newest = s.cp.newest ∧ t.fs = s.fs ∧ t.cp.repeats = min (s.cp.repeats + 1) 65535 ∧
      Posted s t (.outputRepeat .noFrame [p] s.cp.overruns (min (s.cp.repeats + 1) 65535) t.zc.shown s.cru.time)) ∧
  (∀ (s : State) (d : Time) (r : Transition) (alone out : Src) (q : FrameRec), TickDue s d → s.cp.sub = .running →
    s.zc.record = some r → r.kind ≠ .rescue → r.phase = .blending → r.index < r.n →
    (alone = r.giver ∧ out = r.taker ∨ alone = r.taker ∧ out = r.giver) → newestReady (s.ring alone) = some q →
    newestReady (s.ring out) = none →
    ∃ t k, exec .tick s = .next t ∧ t.cp.compose = some k ∧ k.live = true ∧ k.parts.map Part.source = [alone] ∧
      k.parts.map Part.slot = [q.slot] ∧ k.parts.map Part.weight = [256] ∧
      k.parts.map Part.gains = [if alone = r.giver then ⟨1024, 1024, 1024⟩
        else Transition.blendGains { r with index := r.index + 1 }] ∧
      t.cp.repeats = min (s.cp.repeats + 1) 65535 ∧
      Posted s t (.outputRepeat .noFrame [out] s.cp.overruns (min (s.cp.repeats + 1) 65535) t.zc.shown s.cru.time))) ∧
  (∀ (s : State) (d : Time) (p : Src), TickDue s d → s.cp.sub = .starting → s.zc.record = none →
    s.cp.pendingPrimary = some p →
    ((s.source p).state = .warm → (s.source p).purpose = .normal → s.zc.reports.get p = [] → s.cp.fresh = false →
      s.cp.lastSent = none →
      exec .tick s = exec .tick
        (({ s with cp := { s.cp with pendingPrimary := none, sub := .running } }.setSource p
          { s.source p with state := .primary, idle := none }).post (some p)
            (.sourceState .primary .warm s.cru.time))) ∧
    ((s.source p).state ≠ .warm →
      ∃ t, exec .tick s = .next t ∧ t.cp.deadline = some (d + BitVec.ofNat 32 s.cp.settings.period) ∧
        t.zc.shown = s.steppedZoom p ∧ t.zc.bounds = some ⟨(s.source p).base, (s.source p).zcap, .one p⟩ ∧
        t.cp.sub = .starting ∧ t.cp.pendingPrimary = some p ∧ t.cp.compose = s.cp.compose ∧ t.sources = s.sources ∧
        t.fs = s.fs ∧ t.op = s.op ∧ t.cp.repeats = s.cp.repeats ∧ t.cp.overruns = s.cp.overruns)) ∧
  (∀ (s : State) (d : Time), TickDue s d → (s.cp.sub = .starting ∨ s.cp.sub = .frozen) → s.cp.pendingPrimary = none →
    (∀ j, (s.source j).state ≠ .primary) →
    (∀ (r : Transition) (z : Nat), s.zc.record = some r → r.kind = .rescue → z = s.steppedZoom r.taker →
      ((s.source r.taker).state = .warm → ∃ t, exec .tick s = .next t ∧ (t.source r.taker).state = .primary ∧
        t.cp.sub = .running ∧ t.zc.record = none ∧
        t.zc.shown = clamp z (s.source r.taker).base (s.source r.taker).zcap ∧
        Posted s t (.handoffDone .rescue r.giver r.taker .rescue r.limited r.n r.gains s.cru.time) ∧
        ∀ q, newestReady (s.ring r.taker) = some q → ∃ k, t.cp.compose = some k ∧ k.live = true ∧
          k.parts.map Part.source = [r.taker] ∧ k.parts.map Part.slot = [q.slot] ∧
          k.parts.map Part.weight = [256] ∧ k.parts.map Part.gains = [⟨1024, 1024, 1024⟩]) ∧
      ((s.source r.taker).state ≠ .warm → ∃ t, exec .tick s = .next t ∧ t.zc.record = some r ∧ t.zc.shown = z ∧
        t.cp.sub = s.cp.sub ∧ t.sources = s.sources ∧ t.fs = s.fs ∧ t.cp.compose = s.cp.compose)) ∧
    (s.zc.record = none → s.cp.sub = .frozen → ∃ t, exec .tick s = .next t ∧ t.sources = s.sources ∧ t.fs = s.fs ∧
      t.nq = s.nq ∧ t.zc = { s.zc with bounds := none } ∧ t.cp.sub = .frozen ∧ t.cp.compose = s.cp.compose ∧
      t.cp.repeats = s.cp.repeats ∧
      ∀ b, (if s.cp.fresh then s.cp.newest else s.cp.lastSent) = some b → t.cp.lastSent = some b ∧
        t.op.video = some ⟨b, s.cp.picture b, ⟨s.cru.time,
          (s.cp.settings.wo * (s.cp.settings.wo * 9 / 16) + 1249) / 1250⟩⟩))

/-- COMPOSE_COMPLETE of a live compose fills its buffer with the composite, which becomes the newest and is due to be sent at
the next tick, and a CAPTURING still copies it and becomes SENDING; a discarded compose only ends (R140, R142, R147,
R148, R156). VIDEO_TRANSMISSION_END frees the
video channel (R149). -/
def Obligations.ComposeAndVideoEnd : Prop :=
  (∀ (s : State) (k : Compose), s.cp.compose = some k →
    (k.live = false → exec .composeComplete s = .next { s with cp := { s.cp with compose := none } }) ∧
    (k.live = true → ∃ t, exec .composeComplete s = .next t ∧ t.cp.compose = none ∧ t.cp.newest = some k.buffer ∧
      t.cp.fresh = true ∧
      t.cp.picture k.buffer = some ⟨k.wo, (List.range (k.wo * 9 / 16)).map fun y => (List.range k.wo).map fun x =>
        ⟨BitVec.ofNat 10 (s.outValue k Pixel.r Gains.r x y), BitVec.ofNat 10 (s.outValue k Pixel.g Gains.g x y),
         BitVec.ofNat 10 (s.outValue k Pixel.b Gains.b x y)⟩⟩ ∧
      t.cp.lastSent = s.cp.lastSent ∧ t.sources = s.sources ∧ t.fs = s.fs ∧ t.zc = s.zc ∧ t.nq = s.nq ∧
      ((∀ x, s.cc.still = some x → x.state ≠ .capturing) → t.cc = s.cc ∧ t.op = s.op) ∧
      (∀ x, s.cc.still = some x → x.state = .capturing → s.op.queue = [] → x.next = 0 →
        t.cp.stillCopy = t.cp.picture k.buffer ∧
        t.cc.still = some { x with
          state := .sending, width := some k.wo, height := some (k.wo * 9 / 16),
          total := some ((k.wo * 9 / 16 + 63) / 64), next := min 2 ((k.wo * 9 / 16 + 63) / 64) } ∧
        t.op.queue = List.range (min 2 ((k.wo * 9 / 16 + 63) / 64))))) ∧
  (∀ (s : State) (v : VideoTx), s.op.video = some v → v.timer.expired s.cru.time = true →
    exec .videoTransmissionEnd s = .next { s with op := { s.op with video := none } })

/-! Still capture (chapter 8) -/

/-- STILL_TAKE: of a source with a READY record it pins the newest one, with a new identifier, its geometry and the first
groups in the queue; of the fused picture it makes a CAPTURING record in RUNNING; a still in being gives STILL_ACTIVE
(R43, R153, R155 to R158, R198). Of a source it gives, in this order and with no change: BAD_VALUE (with no payload, log 19)
for a source out of range, STILL_ACTIVE, NO_SOURCE for an undefined one, NO_FRAME for a ring with no READY record (R155); of
the fused picture STILL_ACTIVE, then WRONG_STATE outside RUNNING (R156). -/
def Obligations.StillTakeTaken : Prop :=
  ∀ (s : State) (tag src : Byte) (n : Nat), LinkReady s → (s.link.part = .config ∨ s.link.part = .streaming) →
    n = (if s.cc.lastId = 255 then 1 else s.cc.lastId + 1) →
    (∀ (i : Src) (r : FrameRec) (h total : Nat), byteSource src = some i → s.cc.still = none → s.op.queue = [] →
      (s.source i).defined = true → newestReady (s.ring i) = some r → h = r.width * 9 / 16 → total = (h + 63) / 64 →
      exec (.stillTakeSource tag src) s = .next
        ((({ s with
            cc := { still := some { id := n, kind := .source, source := some i, state := .sending, width := some r.width,
                                    height := some h, total := some total, next := min 2 total, begun := 0,
                                    pause := none }
                    lastId := n }
            op := { s.op with queue := List.range (min 2 total) } }.setRing i
              ((s.ring i).map fun (q : FrameRec) => if q.slot = r.slot then { q with heldS := true } else q)).delivered 257).answered tag
                false (.stillTake 1 src) .accepted
          ([u8 n, 1] ++ u16 r.width ++ u16 h ++ [u8 total] ++ be32 r.start ++ be16 (r.counter.getD 0) ++
            u16 (r.focus.getD 0)))) ∧
    (s.cc.still = none → s.link.part = .streaming → s.cp.sub = .running →
      exec (.stillTakeFused tag src) s = .next
        (({ s with cc :=
            { still := some { id := n, kind := .fused, source := none, state := .capturing, width := none, height := none,
                              total := none, next := 0, begun := 0, pause := none }
              lastId := n } }.delivered 257).answered tag false (.stillTake 2 src) .accepted [u8 n, 2])) ∧
    (let refused (result : Result) : Prop := exec (.stillTakeSource tag src) s =
        .next ((s.delivered 257).answered tag false (.stillTake 1 src) result [])
     (byteSource src = none → refused .badValue) ∧
     ∀ i : Src, byteSource src = some i → (s.cc.still ≠ none → refused .stillActive) ∧
      (s.cc.still = none → (s.source i).defined = false → refused .noSource) ∧
      (s.cc.still = none → (s.source i).defined = true → (∀ r ∈ s.ring i, r.state ≠ .ready) → refused .noFrame)) ∧
    (let refused (result : Result) : Prop := exec (.stillTakeFused tag src) s =
        .next ((s.delivered 257).answered tag false (.stillTake 2 src) result [])
     (s.cc.still ≠ none → refused .stillActive) ∧
     (s.cc.still = none → s.link.part ≠ .streaming ∨ s.cp.sub ≠ .running → refused .wrongState))

/-- STILL_FLOW: PAUSE of a SENDING still starts its 2 s pause timer, RESUME of a PAUSED one stops it and refills the queue,
and ABORT empties the queue and posts STILL_ABORTED, the record going at once or, with a group in transmission, standing in
ENDING; with no still every action gives WRONG_STATE (R158, R161, R162, R198). An ABORT that removes the still at once
answers with zeros, the model's choice (log 19), and of a still of a source its hold is released, an unpowered source's
record leaving the ring with its last holder (R17, R41, R162). -/
def Obligations.StillFlowTaken : Prop :=
  ∀ (s : State) (tag : Byte), LinkReady s → (s.link.part = .config ∨ s.link.part = .streaming) →
    (∀ x : Still, s.cc.still = some x → x.state = .sending →
      exec (.stillFlowPause tag) s = .next
        (({ s with cc := { s.cc with still := some { x with
            state := .paused, pause := some ⟨s.cru.time, 2000000⟩ } } }.delivered 257).answered tag false
          (.stillFlow 1) .ok [u8 x.id, 3, u8 x.begun, u8 s.op.queue.length])) ∧
    (∀ (x : Still) (total m : Nat), s.cc.still = some x → x.state = .paused → x.total = some total →
      m = min (2 - s.op.queue.length) (total - x.next) →
      exec (.stillFlowResume tag) s = .next
        (({ s with
            cc := { s.cc with still := some { x with state := .sending, pause := none, next := x.next + m } }
            op := { s.op with queue := s.op.queue ++ List.range' x.next m } }.delivered 257).answered tag false
          (.stillFlow 2) .ok [u8 x.id, 2, u8 x.begun, u8 (s.op.queue.length + m)])) ∧
    (∀ x : Still, s.cc.still = some x → x.state ≠ .ending →
      let posted : State := { s with op := { s.op with queue := [] } }.post none
        (.stillAborted x.id x.kind x.source .host x.state x.begun s.cru.time)
      (s.op.group ≠ none →
        exec (.stillFlowAbort tag) s = .next
          (({ posted with cc := { s.cc with still := some { x with state := .ending, pause := none } } }.delivered
            257).answered tag false (.stillFlow 3) .ok [u8 x.id, 4, u8 x.begun, 0])) ∧
      (s.op.group = none → x.source = none →
        exec (.stillFlowAbort tag) s = .next
          (({ posted with cc := { s.cc with still := none } }.delivered 257).answered tag false (.stillFlow 3) .ok
            [0, 0, 0, 0])) ∧
      (∀ i, s.op.group = none → x.source = some i →
        exec (.stillFlowAbort tag) s = .next
          ((({ posted with cc := { s.cc with still := none } }.setRing i ((s.ring i).filterMap fun (r : FrameRec) =>
              if r.heldS = false then some r
              else if ((s.source i).state = SrcState.parked ∨ (s.source i).state = SrcState.fault) ∧ r.heldC = false then none
              else some { r with heldS := false })).delivered 257).answered tag false (.stillFlow 3) .ok
            [0, 0, 0, 0]))) ∧
    (s.cc.still = none →
      exec (.stillFlowPause tag) s =
        .next ((s.delivered 257).answered tag false (.stillFlow 1) .wrongState [0, 0, 0, 0]) ∧
      exec (.stillFlowResume tag) s =
        .next ((s.delivered 257).answered tag false (.stillFlow 2) .wrongState [0, 0, 0, 0]) ∧
      exec (.stillFlowAbort tag) s =
        .next ((s.delivered 257).answered tag false (.stillFlow 3) .wrongState [0, 0, 0, 0]))

/-- The still channel: with both channels free the first group of the queue begins with its header, its lines and its
duration, and the queue is refilled, outside STREAMING at any time and in STREAMING where its transmission ends before the
tick deadline or exactly at it; where it would not, it waits for the next gap, and nothing begins while a video transmission
or a group is in progress or while the queue is empty. The end of a group that is not the last frees the channel alone; the
end of the last group completes the still with STILL_DONE and frees its frame; in ENDING the end of any group removes the
record with no STILL_DONE; the pause timer's expiry aborts the still (R150, R157 to R160,
R162, R202). -/
def Obligations.StillGroupsRun : Prop :=
  (∀ (s : State) (x : Still) (g : Nat) (rest : List Nat) (h total count : Nat),
    (s.link.part ≠ .streaming ∨ ∃ d, s.cp.deadline = some d ∧ ahead d s.cru.time = true ∧
      (count * x.width.getD 0 + 1249) / 1250 ≤ d.since s.cru.time) → s.cc.still = some x → s.op.queue = g :: rest → s.op.group = none → s.op.video = none → x.height = some h →
    x.total = some total → count = min 64 (h - 64 * g) →
    ∃ t, exec .stillGroupBegin s = .next t ∧
      t.op.group = some { number := g
                          header := [0x3A5, BitVec.ofNat 10 x.id, BitVec.ofNat 10 g, BitVec.ofNat 10 count]
                          lines := ((s.stillPicture x).drop (64 * g)).take count
                          timer := ⟨s.cru.time, (count * x.width.getD 0 + 1249) / 1250⟩ } ∧
      t.cc.still.map Still.begun = some (x.begun + 1) ∧ t.op.video = none ∧
      (x.state = .sending → x.next < total → rest.length = 1 → t.op.queue = rest ++ [x.next] ∧
        t.cc.still.map Still.next = some (x.next + 1)) ∧
      (x.state ≠ .sending ∨ total ≤ x.next → t.op.queue = rest ∧ t.cc.still.map Still.next = some x.next)) ∧
  (∀ (s : State) (d : Time), s.link.part = .streaming → s.cp.deadline = some d →
    (∀ x g rest, s.cc.still = some x → s.op.queue = g :: rest →
      ahead d s.cru.time = false ∨ d.since s.cru.time < (s.groupOf x g).timer.len) →
    exec .stillGroupBegin s = .next s) ∧
  (∀ s : State, s.op.video ≠ none ∨ s.op.group ≠ none ∨ s.op.queue = [] → exec .stillGroupBegin s = .next s) ∧
  (∀ (s : State) (x : Still) (g : GroupTx), s.cc.still = some x → s.op.group = some g →
    g.timer.expired s.cru.time = true → x.total ≠ some (g.number + 1) → x.state ≠ .ending →
    exec .stillGroupEnd s = .next { s with op := { s.op with group := none } }) ∧
  (∀ (s : State) (x : Still) (g : GroupTx), s.cc.still = some x → s.op.group = some g →
    g.timer.expired s.cru.time = true → x.state = .ending →
    ∃ t, exec .stillGroupEnd s = .next t ∧ t.cc = { s.cc with still := none } ∧ t.op.group = none ∧ t.op.queue = [] ∧
      (∀ i, x.source = some i → ∀ r ∈ t.ring i, r.heldS = false) ∧ t.nq = s.nq) ∧
  (∀ (s : State) (x : Still) (g : GroupTx), s.cc.still = some x → s.op.group = some g →
    g.timer.expired s.cru.time = true → x.total = some (g.number + 1) → x.state ≠ .ending →
    ∃ t, exec .stillGroupEnd s = .next t ∧ t.cc = { s.cc with still := none } ∧ t.op.group = none ∧ t.op.queue = [] ∧
      (∀ i, x.source = some i → ∀ r ∈ t.ring i, r.heldS = false) ∧
      t.nq = s.nq.post s.cru.straps.attnMode s.cru.time none
        (.stillDone x.id x.kind x.source (x.width.getD 0) (g.number + 1) s.cru.time)) ∧
  (∀ (s : State) (x : Still) (p : Timer), s.cc.still = some x → x.pause = some p → p.expired s.cru.time = true →
    ∃ t, exec .pauseTimeout s = .next t ∧ t.op.queue = [] ∧
      t.cc.still = (if s.op.group = none then none else some { x with state := .ending, pause := none }) ∧
      t.nq = s.nq.post s.cru.straps.attnMode s.cru.time none
        (.stillAborted x.id x.kind x.source .timeout x.state x.begun s.cru.time))

/-! Notices and the attention line (chapter 10) -/

/-- An occurrence at the queue: an entry of its name takes it, its count saturating at 255; otherwise a masked kind drops it;
otherwise a new entry of the kind's class stands after the last of its class, and the line rises, for 2 µs in pulse mode.
The pulse's end lets it fall (R182 to R184, R186, R187). -/
def Obligations.NoticePosted : Prop :=
  (∀ (q : NoticeQueue) (mode : AttnMode) (now : Time) (source : Option Src) (p : Payload),
    let named (e : Notice) : Prop := e.kind = p.kind ∧ e.source = source
    (∀ (pre post : List Notice) (e : Notice), q.entries = pre ++ e :: post → named e → (∀ x ∈ pre ++ post, ¬ named x) →
      q.post mode now source p =
        { q with entries := pre ++ { e with count := min (e.count + 1) 255, payload := p } :: post }) ∧
    ((∀ x ∈ q.entries, ¬ named x) → p.kind.fixedUrgent = false → q.masked.has p.kind = true →
      q.post mode now source p = q) ∧
    ((∀ x ∈ q.entries, ¬ named x) → (p.kind.fixedUrgent = true ∨ q.masked.has p.kind = false) →
      ∀ urgents routines : List Notice, q.entries = urgents ++ routines → (∀ x ∈ urgents, x.cls = .urgent) →
        (∀ x ∈ routines, x.cls = .routine) →
        q.post mode now source p = { q with
          entries := if p.kind.fixedUrgent = true ∨ q.urgent.has p.kind = true
            then urgents ++ ⟨p.kind, source, .urgent, 1, now, p⟩ :: routines
            else urgents ++ routines ++ [⟨p.kind, source, .routine, 1, now, p⟩]
          attn := true
          pulse := if mode = .pulse then some ⟨now, 2⟩ else q.pulse })) ∧
  (∀ (s : State) (x : Timer), s.nq.pulse = some x → x.expired s.cru.time = true →
    exec .attnPulseEnd s = .next { s with nq := { s.nq with attn := false, pulse := none } })

/-- NOTICE_TAKE removes the head entry and gives it with the number left, or NONE; in level mode the line falls with the last
entry. NOTICE_SETUP sets mask and class of the settable kinds named and of no other, and the reply gives them; a kind
named in two opposite sets gives BAD_VALUE with the lowest such kind (R186, R188, R189, R200). -/
def Obligations.NoticeRequests : Prop :=
  ∀ (s : State) (tag : Byte), LinkReady s →
    (∀ (e : Notice) (rest : List Notice), s.nq.entries = e :: rest →
      exec (.noticeTake tag) s = .next
        (({ s with nq := { s.nq with
            entries := rest
            attn := if s.cru.straps.attnMode = AttnMode.level ∧ rest = [] then false else s.nq.attn } }.delivered
          257).answered tag false .noticeTake .ok
          ([u8 e.kind.num, sourceByte e.source, e.cls.code, u8 e.count] ++ be32 e.first ++
            [u8 rest.length, u8 e.payload.bytes.length] ++ e.payload.bytes))) ∧
    (s.nq.entries = [] →
      exec (.noticeTake tag) s =
        .next ((s.delivered 257).answered tag false .noticeTake .ok [0, 0xFF, 0, 0, 0, 0, 0, 0, 0, 0])) ∧
    ∀ mask unmask urgent routine : KindSet, (mask ||| unmask ||| urgent ||| routine) &&& 0xC000 = 0 →
      ((mask &&& unmask) ||| (urgent &&& routine) = 0 →
        ∃ masked urgents : KindSet,
          exec (.noticeSetup tag mask unmask urgent routine) s = .next
            (({ s with nq := { s.nq with masked := masked, urgent := urgents } }.delivered 257).answered tag false
              (.noticeSetup mask unmask urgent routine) .ok (be16 masked ++ be16 (urgents ||| 0x0405))) ∧
          ∀ k : NoticeKind,
            (k.fixedUrgent = true → masked.has k = false) ∧
            (k.fixedUrgent = false →
              masked.has k = (if mask.has k then true else if unmask.has k then false else s.nq.masked.has k) ∧
              urgents.has k = (if urgent.has k then true else if routine.has k then false else s.nq.urgent.has k))) ∧
      (∀ k : Nat, k < 14 → ((mask &&& unmask) ||| (urgent &&& routine)).getLsbD k = true →
        (∀ j, j < k → ((mask &&& unmask) ||| (urgent &&& routine)).getLsbD j = false) →
        exec (.noticeSetup tag mask unmask urgent routine) s = .next
          ((s.delivered 257).answered tag false (.noticeSetup mask unmask urgent routine) .badValue [u8 (k + 1)]))

/-! What commands leave unchanged -/

/-- Request rows on a free link, of the requests named here, change nothing but the link's exchange and what is named: reports and QUERY_ONLY forms nothing;
CAL_RUN its source's list; LADDER_SET ladder, T, Z and pin; OUTPUT_SET the settings; ZOOM_SET T, Z and rate; SOURCE_DEFINE
its record and window; NOTICE_TAKE and NOTICE_SETUP the queue; STILL_TAKE stills, queue and the still hold; SOURCE_POWER no list, window, output, still or slot, and no other source's
record, receiver or ring (R20 to R23, R52 to R57, R71 to R75, R85, R132, R155, R156, R173, R188, R189). -/
def Obligations.RequestFrames : Prop :=
  ∀ (s t : State) (tag : Byte), LinkReady s →
    (∀ c : Instr, (c = .nop tag ∨ c = .ident tag ∨ c = .resetPart tag ∨ c = .zoomQuery tag ∨
        (∃ src, c = .sourceQuery tag src) ∨ (∃ src, c = .calRead tag src) ∨
        (∃ src start dir count points, c = .calRunQueryOnly tag src start dir count points) ∨
        (∃ count rungs, c = .ladderSetQueryOnly tag count rungs) ∨
        (∃ wo period n tolerance m window, c = .outputSetQueryOnly tag wo period n tolerance m window)) →
      exec c s = .next t → t = { s with link := t.link } ∧ t.link.part = s.link.part) ∧
    (∀ src start dir count points, exec (.calRun tag src start dir count points) s = .next t →
      t = { s with link := t.link, gu := { s.gu with cal := t.gu.cal } } ∧
      ∀ i, byteSource src ≠ some i → t.gu.cal.get i = s.gu.cal.get i) ∧
    (∀ count rungs, exec (.ladderSet tag count rungs) s = .next t →
      t = { s with
        link := t.link
        zc := { s.zc with
          ladder := t.zc.ladder, target := t.zc.target, shown := t.zc.shown, pinned := t.zc.pinned } }) ∧
    (∀ wo period n tolerance m window, exec (.outputSet tag wo period n tolerance m window) s = .next t →
      t = { s with link := t.link, cp := { s.cp with settings := t.cp.settings } }) ∧
    (∀ target rate, exec (.zoomSet tag target rate) s = .next t →
      t = { s with
        link := t.link
        zc := { s.zc with target := t.zc.target, shown := t.zc.shown, rate := t.zc.rate } }) ∧
    (∀ src base width period stretch settle sync idle,
      exec (.sourceDefine tag src base width period stretch settle sync idle) s = .next t →
      t = { s with link := t.link, sources := t.sources, gu := { s.gu with windows := t.gu.windows } } ∧
      ∀ i, byteSource src ≠ some i → t.source i = s.source i ∧ t.gu.windows.get i = s.gu.windows.get i) ∧
    (∀ c : Instr, (c = .noticeTake tag ∨ ∃ a b d e, c = .noticeSetup tag a b d e) → exec c s = .next t →
      t = { s with link := t.link, nq := t.nq }) ∧
    (∀ c : Instr, (∃ src, c = .stillTakeSource tag src ∨ c = .stillTakeFused tag src) → exec c s = .next t →
      t = { s with
        link := t.link, cc := t.cc, op := { s.op with queue := t.op.queue }, fs := { s.fs with rings := t.fs.rings } } ∧
      ∀ i, (t.ring i).map (fun r => { r with heldS := false }) = (s.ring i).map fun r => { r with heldS := false }) ∧
    (∀ (src : Byte) (action : Bool), exec (if action then .sourcePowerWake tag src else .sourcePowerPark tag src) s = .next t →
      t.gu = s.gu ∧ t.cp = s.cp ∧ t.op = s.op ∧ t.cc = s.cc ∧ t.cru = s.cru ∧ t.fs.slots = s.fs.slots ∧
      ∀ i, byteSource src ≠ some i → t.source i = s.source i ∧ t.receiver i = s.receiver i ∧ t.ring i = s.ring i)

/-- Events of one source and of the output touch their own parts only: a receiver's or a timer's event leaves every other
source, receiver and ring, the output and the stills alone; a group, a compose or a video transmission leaves the sources,
the receivers and the zoom state alone; a tick leaves the receivers, the stills, the lists and the ladder alone (R5, R7, R9,
R13, R24 to R26, R32, R35, R37, R38, R141, R147, R149, R159 to R162, R187). -/
def Obligations.EventFrames : Prop :=
  ∀ s t : State,
    (∀ (c : Instr) (i : Src), (c = .frameStart i ∨ c = .frameEnd i ∨ (∃ p, c = .metadataLine i p) ∨
        (∃ p, c = .imageLine i p) ∨ c = .settleExpiry i ∨ c = .syncExpiry i ∨ c = .frameTimeout i ∨ c = .idleExpiry i) →
      exec c s = .next t →
      t.link = s.link ∧ t.gu = s.gu ∧ t.cp = s.cp ∧ t.op = s.op ∧ t.cc = s.cc ∧ t.pending = s.pending ∧
      t.zc = { s.zc with reports := t.zc.reports } ∧ t.cru.straps = s.cru.straps ∧ t.cru.lock = s.cru.lock ∧
      ∀ j, j ≠ i → t.source j = s.source j ∧ t.receiver j = s.receiver j ∧ t.ring j = s.ring j ∧
        t.fs.slots.get j = s.fs.slots.get j ∧ t.zc.reports.get j = s.zc.reports.get j) ∧
    (∀ c : Instr, (c = .stillGroupBegin ∨ c = .stillGroupEnd ∨ c = .pauseTimeout) → exec c s = .next t →
      t.link = s.link ∧ t.sources = s.sources ∧ t.receivers = s.receivers ∧ t.gu = s.gu ∧ t.zc = s.zc ∧ t.cp = s.cp ∧
      t.fs.slots = s.fs.slots ∧ t.op.video = s.op.video ∧ t.cc.lastId = s.cc.lastId ∧ t.pending = s.pending) ∧
    (∀ c : Instr, (c = .composeComplete ∨ c = .videoTransmissionEnd ∨ c = .attnPulseEnd) → exec c s = .next t →
      t.link = s.link ∧ t.sources = s.sources ∧ t.receivers = s.receivers ∧ t.fs = s.fs ∧ t.gu = s.gu ∧ t.zc = s.zc ∧
      t.cp.settings = s.cp.settings ∧ t.cp.sub = s.cp.sub ∧ t.cp.deadline = s.cp.deadline ∧ t.op.group = s.op.group ∧
      t.cc.lastId = s.cc.lastId ∧ t.pending = s.pending) ∧
    (exec .tick s = .next t →
      t.link = s.link ∧ t.receivers = s.receivers ∧ t.cc = s.cc ∧ t.gu.cal = s.gu.cal ∧ t.fs.slots = s.fs.slots ∧
      t.op.queue = s.op.queue ∧ t.op.group = s.op.group ∧ t.cp.settings = s.cp.settings ∧
      t.cp.stillCopy = s.cp.stillCopy ∧ t.zc.ladder = s.zc.ladder ∧ t.zc.target = s.zc.target ∧ t.zc.rate = s.zc.rate ∧
      t.zc.pinned = s.zc.pinned ∧ t.cru.straps = s.cru.straps ∧ t.cru.test = s.cru.test ∧ t.pending = s.pending)

/-! The laws of the device -/

/-- Every law holds right after a hard reset. -/
def Obligations.LawsHoldAtReset : Prop :=
  SourceLaw State.reset ∧ IdleLaw State.reset ∧ RingLaw State.reset ∧ CalLaw State.reset ∧ RecordLaw State.reset ∧
  OutputLaw State.reset ∧ PictureLaw State.reset ∧ FirstLaw State.reset ∧ ZoomLaw State.reset ∧ LinkLaw State.reset ∧ NoticeLaw State.reset ∧ ResetLaw State.reset ∧
  AttnLaw State.reset

/-- Every step keeps the law of the source records: enable line, timers, cause and purpose by the state (R1, R4 to
R7). Every step keeps the condition of the idle timer, from a state in which the laws of the sources, of the output and
of the picture hold as well (R8). -/
def Obligations.SourceLawsKept : Prop :=
  Kept SourceLaw ∧
  ∀ s s', SourceLaw s → OutputLaw s → PictureLaw s → IdleLaw s → step s = .next s' → IdleLaw s'

/-- Every step keeps the law of the frame rings and their holds (R24, R27, R28, R31, R43, R44). -/
def Obligations.RingLawKept : Prop := Kept RingLaw

/-- Every step keeps the focus codes of every calibration list strictly ascending in position order, so that no two points of
a list have one focus code and a list has at most 12 points; a CAL_RUN that would break it leaves the list as it was (R47). -/
def Obligations.CalLawKept : Prop :=
  Kept CalLaw ∧
  (∀ (l : CalList) (start : Nat) (up : Bool) (points : List PointRec),
    ¬ ((writePass up points start l).list.points.map CalPoint.focus).Pairwise (· < ·) →
      (runOutcome l start up points).list = l) ∧
  ∀ l : CalList, l.Ascending → (l.points.map CalPoint.focus).Nodup ∧ l.points.length ≤ 12

/-- Every step keeps the output settings and the transition record within their ranges, the match gains within 512 to 2048
and the incoming weight of a blend within 1 to 255 (R87, R99, R121, R131). -/
def Obligations.RecordLawKept : Prop :=
  Kept RecordLaw ∧ ∀ (s : State) (r : Transition), RecordLaw s → s.zc.record = some r → r.phase = .blending →
    1 ≤ r.weight ∧ r.weight ≤ 255

/-- Every step keeps the output state within STREAMING: roles, record, held, pinned and the tick deadline (R3, R73, R87, R133,
R175, R190). Every step keeps the laws of the sources, of the output and of the picture together, and with them the first
law of R3: with no fault report pending at most one source is PRIMARY, one OUTGOING and one INCOMING source exist exactly
while the record is in BLENDING, and then no source is PRIMARY (R3, R12, R15, R87, R110). -/
def Obligations.OutputLawKept : Prop :=
  Kept OutputLaw ∧
  Kept fun s => SourceLaw s ∧ OutputLaw s ∧ IdleLaw s ∧ PictureLaw s ∧ FirstLaw s

/-- Every step keeps T and Z within the limits of the ladder (R74). -/
def Obligations.ZoomLawKept : Prop := Kept fun s => OutputLaw s ∧ ZoomLaw s

/-- Every step keeps the link's phase, slot and transaction in agreement: one reply for each request taken (R166, R174). -/
def Obligations.LinkLawKept : Prop := Kept LinkLaw

/-- Every step keeps the notice queue: distinct names, counts 1 to 255, urgent entries first (R182 to R184). -/
def Obligations.NoticeLawKept : Prop :=
  Kept NoticeLaw ∧ ∀ s, NoticeLaw s → s.nq.entries.length ≤ 26

/-- Every step keeps the part at rest while it is in RESET, and the attention line at what its mode says (R186, R187, R190,
R192). -/
def Obligations.ResetLawKept : Prop := Kept ResetLaw ∧ Kept fun s => ResetLaw s ∧ AttnLaw s
end

