-- ==== Sys2Proof/Laws/State.lean ====
section
/-! SUPPORT. The fields of a state after each base update: what it sets, and that it leaves every other field
as it was. -/

namespace Sys2Proof.Machine

/-! Groups of four -/

variable {α β : Type}

@[simp] theorem get_set (f : Four α) (i j : Src) (x : α) : (f.set i x).get j = if j = i then x else f.get j := by
  cases i <;> cases j <;> rfl

@[simp] theorem get_fill (x : α) (i : Src) : (Four.fill x).get i = x := by cases i <;> rfl

@[simp] theorem get_map (f : Four α) (g : α → β) (i : Src) : (f.map g).get i = g (f.get i) := by cases i <;> rfl

theorem set_get (f : Four α) (i : Src) : f.set i (f.get i) = f := by cases i <;> rfl

theorem four_ext (f g : Four α) (h : ∀ i, f.get i = g.get i) : f = g := by
  cases f; cases g
  have h0 := h .s0; have h1 := h .s1; have h2 := h .s2; have h3 := h .s3
  simp only [Four.get] at h0 h1 h2 h3
  subst h0 h1 h2 h3; rfl


/-! What an update sets -/

@[simp] theorem source_setSource (i j : Src) (x : Source) (s : State) :
    (s.setSource i x).source j = if j = i then x else s.source j := get_set ..

@[simp] theorem receiver_setReceiver (i j : Src) (x : Receiver) (s : State) :
    (s.setReceiver i x).receiver j = if j = i then x else s.receiver j := get_set ..

@[simp] theorem ring_setRing (i j : Src) (x : List FrameRec) (s : State) :
    (s.setRing i x).ring j = if j = i then x else s.ring j := get_set ..

@[simp] theorem slots_setSlot (i j : Src) (k : Slot) (x : Content) (s : State) :
    (s.setSlot i k x).fs.slots.get j = if j = i then (s.fs.slots.get i).set k x else s.fs.slots.get j := get_set ..

@[simp] theorem reports_setReports (i j : Src) (l : List Report) (s : State) :
    (s.setReports i l).zc.reports.get j = if j = i then l else s.zc.reports.get j := get_set ..

@[simp] theorem windows_setWindow (i j : Src) (w : Option ComposeWindow) (s : State) :
    (s.setWindow i w).gu.windows.get j = if j = i then w else s.gu.windows.get j := get_set ..

@[simp] theorem cal_setCal (i j : Src) (l : CalList) (s : State) :
    (s.setCal i l).gu.cal.get j = if j = i then l else s.gu.cal.get j := get_set ..

@[simp] theorem source_post (source : Option Src) (p : Payload) (j : Src) (s : State) :
    (s.post source p).source j = s.source j := rfl

@[simp] theorem nq_post (source : Option Src) (p : Payload) (s : State) :
    (s.post source p).nq = s.nq.post s.cru.straps.attnMode s.cru.time source p := rfl

@[simp] theorem time_setTime (t : Time) (s : State) : (s.setTime t).cru.time = t := rfl

@[simp] theorem record_setRecord (r : Option Transition) (s : State) : (s.setRecord r).zc.record = r := rfl

@[simp] theorem pending_setPendingQueue (q : List Instr) (s : State) : (s.setPendingQueue q).pending = q := rfl

@[simp] theorem txn_setTxn (t : Option Txn) (s : State) : (s.setTxn t).link.txn = t := rfl

@[simp] theorem part_setPart (x : PartState) (s : State) : (s.setPart x).link.part = x := rfl

@[simp] theorem sub_setSub (x : OutSub) (s : State) : (s.setSub x).cp.sub = x := rfl

@[simp] theorem refuse_state (s : State) (r : Result) (p : List Byte) : (s.refuse r p).state = s := rfl

@[simp] theorem flowAnswer_state (s : State) (r : Result) : (s.flowAnswer r).state = s := rfl

/-! The views of a state after an update of another part -/

@[simp] theorem receiver_post (source : Option Src) (p : Payload) (j : Src) (s : State) : (s.post source p).receiver j = s.receiver j := rfl

@[simp] theorem ring_post (source : Option Src) (p : Payload) (j : Src) (s : State) : (s.post source p).ring j = s.ring j := rfl

@[simp] theorem source_setTime (t : Time) (j : Src) (s : State) : (s.setTime t).source j = s.source j := rfl

@[simp] theorem receiver_setTime (t : Time) (j : Src) (s : State) : (s.setTime t).receiver j = s.receiver j := rfl

@[simp] theorem ring_setTime (t : Time) (j : Src) (s : State) : (s.setTime t).ring j = s.ring j := rfl

@[simp] theorem receiver_setSource (i : Src) (x : Source) (j : Src) (s : State) : (s.setSource i x).receiver j = s.receiver j := rfl

@[simp] theorem ring_setSource (i : Src) (x : Source) (j : Src) (s : State) : (s.setSource i x).ring j = s.ring j := rfl

@[simp] theorem source_setReceiver (i : Src) (x : Receiver) (j : Src) (s : State) : (s.setReceiver i x).source j = s.source j := rfl

@[simp] theorem ring_setReceiver (i : Src) (x : Receiver) (j : Src) (s : State) : (s.setReceiver i x).ring j = s.ring j := rfl

@[simp] theorem source_setRing (i : Src) (x : List FrameRec) (j : Src) (s : State) : (s.setRing i x).source j = s.source j := rfl

@[simp] theorem receiver_setRing (i : Src) (x : List FrameRec) (j : Src) (s : State) : (s.setRing i x).receiver j = s.receiver j := rfl

@[simp] theorem source_setSlot (i : Src) (slot : Slot) (x : Content) (j : Src) (s : State) : (s.setSlot i slot x).source j = s.source j := rfl

@[simp] theorem receiver_setSlot (i : Src) (slot : Slot) (x : Content) (j : Src) (s : State) : (s.setSlot i slot x).receiver j = s.receiver j := rfl

@[simp] theorem ring_setSlot (i : Src) (slot : Slot) (x : Content) (j : Src) (s : State) : (s.setSlot i slot x).ring j = s.ring j := rfl

@[simp] theorem source_setRecord (r : Option Transition) (j : Src) (s : State) : (s.setRecord r).source j = s.source j := rfl

@[simp] theorem receiver_setRecord (r : Option Transition) (j : Src) (s : State) : (s.setRecord r).receiver j = s.receiver j := rfl

@[simp] theorem ring_setRecord (r : Option Transition) (j : Src) (s : State) : (s.setRecord r).ring j = s.ring j := rfl

@[simp] theorem source_setReports (i : Src) (l : List Report) (j : Src) (s : State) : (s.setReports i l).source j = s.source j := rfl

@[simp] theorem receiver_setReports (i : Src) (l : List Report) (j : Src) (s : State) : (s.setReports i l).receiver j = s.receiver j := rfl

@[simp] theorem ring_setReports (i : Src) (l : List Report) (j : Src) (s : State) : (s.setReports i l).ring j = s.ring j := rfl

@[simp] theorem source_setWindow (i : Src) (w : Option ComposeWindow) (j : Src) (s : State) : (s.setWindow i w).source j = s.source j := rfl

@[simp] theorem receiver_setWindow (i : Src) (w : Option ComposeWindow) (j : Src) (s : State) : (s.setWindow i w).receiver j = s.receiver j := rfl

@[simp] theorem ring_setWindow (i : Src) (w : Option ComposeWindow) (j : Src) (s : State) : (s.setWindow i w).ring j = s.ring j := rfl

@[simp] theorem source_setCal (i : Src) (l : CalList) (j : Src) (s : State) : (s.setCal i l).source j = s.source j := rfl

@[simp] theorem receiver_setCal (i : Src) (l : CalList) (j : Src) (s : State) : (s.setCal i l).receiver j = s.receiver j := rfl

@[simp] theorem ring_setCal (i : Src) (l : CalList) (j : Src) (s : State) : (s.setCal i l).ring j = s.ring j := rfl

@[simp] theorem source_setPinned (on : Bool) (j : Src) (s : State) : (s.setPinned on).source j = s.source j := rfl

@[simp] theorem receiver_setPinned (on : Bool) (j : Src) (s : State) : (s.setPinned on).receiver j = s.receiver j := rfl

@[simp] theorem ring_setPinned (on : Bool) (j : Src) (s : State) : (s.setPinned on).ring j = s.ring j := rfl

@[simp] theorem source_setSub (x : OutSub) (j : Src) (s : State) : (s.setSub x).source j = s.source j := rfl

@[simp] theorem receiver_setSub (x : OutSub) (j : Src) (s : State) : (s.setSub x).receiver j = s.receiver j := rfl

@[simp] theorem ring_setSub (x : OutSub) (j : Src) (s : State) : (s.setSub x).ring j = s.ring j := rfl

@[simp] theorem source_setPending (x : Option Src) (j : Src) (s : State) : (s.setPending x).source j = s.source j := rfl

@[simp] theorem receiver_setPending (x : Option Src) (j : Src) (s : State) : (s.setPending x).receiver j = s.receiver j := rfl

@[simp] theorem ring_setPending (x : Option Src) (j : Src) (s : State) : (s.setPending x).ring j = s.ring j := rfl

@[simp] theorem source_setShown (z : Nat) (j : Src) (s : State) : (s.setShown z).source j = s.source j := rfl

@[simp] theorem receiver_setShown (z : Nat) (j : Src) (s : State) : (s.setShown z).receiver j = s.receiver j := rfl

@[simp] theorem ring_setShown (z : Nat) (j : Src) (s : State) : (s.setShown z).ring j = s.ring j := rfl

@[simp] theorem source_setStill (x : Option Still) (j : Src) (s : State) : (s.setStill x).source j = s.source j := rfl

@[simp] theorem receiver_setStill (x : Option Still) (j : Src) (s : State) : (s.setStill x).receiver j = s.receiver j := rfl

@[simp] theorem ring_setStill (x : Option Still) (j : Src) (s : State) : (s.setStill x).ring j = s.ring j := rfl

@[simp] theorem source_setQueue (x : List Nat) (j : Src) (s : State) : (s.setQueue x).source j = s.source j := rfl

@[simp] theorem receiver_setQueue (x : List Nat) (j : Src) (s : State) : (s.setQueue x).receiver j = s.receiver j := rfl

@[simp] theorem ring_setQueue (x : List Nat) (j : Src) (s : State) : (s.setQueue x).ring j = s.ring j := rfl

@[simp] theorem source_setPart (x : PartState) (j : Src) (s : State) : (s.setPart x).source j = s.source j := rfl

@[simp] theorem receiver_setPart (x : PartState) (j : Src) (s : State) : (s.setPart x).receiver j = s.receiver j := rfl

@[simp] theorem ring_setPart (x : PartState) (j : Src) (s : State) : (s.setPart x).ring j = s.ring j := rfl

@[simp] theorem source_setTxn (t : Option Txn) (j : Src) (s : State) : (s.setTxn t).source j = s.source j := rfl

@[simp] theorem receiver_setTxn (t : Option Txn) (j : Src) (s : State) : (s.setTxn t).receiver j = s.receiver j := rfl

@[simp] theorem ring_setTxn (t : Option Txn) (j : Src) (s : State) : (s.setTxn t).ring j = s.ring j := rfl

@[simp] theorem source_setPendingQueue (queue : List Instr) (j : Src) (s : State) : (s.setPendingQueue queue).source j = s.source j := rfl

@[simp] theorem receiver_setPendingQueue (queue : List Instr) (j : Src) (s : State) : (s.setPendingQueue queue).receiver j = s.receiver j := rfl

@[simp] theorem ring_setPendingQueue (queue : List Instr) (j : Src) (s : State) : (s.setPendingQueue queue).ring j = s.ring j := rfl

/-! The views of a state depend on their own part only -/

theorem source_congr (s t : State) (h : t.sources = s.sources) (i : Src) : t.source i = s.source i := by
  unfold State.source; rw [h]

theorem receiver_congr (s t : State) (h : t.receivers = s.receivers) (i : Src) : t.receiver i = s.receiver i := by
  unfold State.receiver; rw [h]

theorem ring_congr (s t : State) (h : t.fs.rings = s.fs.rings) (i : Src) : t.ring i = s.ring i := by
  unfold State.ring; rw [h]


/-! What an update leaves -/

@[simp] theorem post_keeps (source : Option Src) (p : Payload) (s : State) :
    (s.post source p).cru = s.cru ∧ (s.post source p).link = s.link ∧ (s.post source p).sources = s.sources ∧
    (s.post source p).receivers = s.receivers ∧ (s.post source p).fs = s.fs ∧ (s.post source p).gu = s.gu ∧
    (s.post source p).zc = s.zc ∧ (s.post source p).cp = s.cp ∧ (s.post source p).op = s.op ∧
    (s.post source p).cc = s.cc ∧ (s.post source p).pending = s.pending :=
  ⟨rfl, rfl, rfl, rfl, rfl, rfl, rfl, rfl, rfl, rfl, rfl⟩

@[simp] theorem setTime_keeps (t : Time) (s : State) :
    (s.setTime t).cru.resetHeld = s.cru.resetHeld ∧ (s.setTime t).cru.straps = s.cru.straps ∧
    (s.setTime t).cru.lock = s.cru.lock ∧ (s.setTime t).cru.test = s.cru.test ∧
    (s.setTime t).cru.linkResetAt = s.cru.linkResetAt ∧ (s.setTime t).link = s.link ∧ (s.setTime t).nq = s.nq ∧
    (s.setTime t).sources = s.sources ∧ (s.setTime t).receivers = s.receivers ∧ (s.setTime t).fs = s.fs ∧
    (s.setTime t).gu = s.gu ∧ (s.setTime t).zc = s.zc ∧ (s.setTime t).cp = s.cp ∧ (s.setTime t).op = s.op ∧
    (s.setTime t).cc = s.cc ∧ (s.setTime t).pending = s.pending :=
  ⟨rfl, rfl, rfl, rfl, rfl, rfl, rfl, rfl, rfl, rfl, rfl, rfl, rfl, rfl, rfl, rfl⟩

@[simp] theorem setSource_keeps (i : Src) (x : Source) (s : State) :
    (s.setSource i x).cru = s.cru ∧ (s.setSource i x).link = s.link ∧ (s.setSource i x).nq = s.nq ∧
    (s.setSource i x).receivers = s.receivers ∧ (s.setSource i x).fs = s.fs ∧ (s.setSource i x).gu = s.gu ∧
    (s.setSource i x).zc = s.zc ∧ (s.setSource i x).cp = s.cp ∧ (s.setSource i x).op = s.op ∧
    (s.setSource i x).cc = s.cc ∧ (s.setSource i x).pending = s.pending :=
  ⟨rfl, rfl, rfl, rfl, rfl, rfl, rfl, rfl, rfl, rfl, rfl⟩

@[simp] theorem setReceiver_keeps (i : Src) (x : Receiver) (s : State) :
    (s.setReceiver i x).cru = s.cru ∧ (s.setReceiver i x).link = s.link ∧ (s.setReceiver i x).nq = s.nq ∧
    (s.setReceiver i x).sources = s.sources ∧ (s.setReceiver i x).fs = s.fs ∧ (s.setReceiver i x).gu = s.gu ∧
    (s.setReceiver i x).zc = s.zc ∧ (s.setReceiver i x).cp = s.cp ∧ (s.setReceiver i x).op = s.op ∧
    (s.setReceiver i x).cc = s.cc ∧ (s.setReceiver i x).pending = s.pending :=
  ⟨rfl, rfl, rfl, rfl, rfl, rfl, rfl, rfl, rfl, rfl, rfl⟩

@[simp] theorem setRing_keeps (i : Src) (x : List FrameRec) (s : State) :
    (s.setRing i x).cru = s.cru ∧ (s.setRing i x).link = s.link ∧ (s.setRing i x).nq = s.nq ∧
    (s.setRing i x).sources = s.sources ∧ (s.setRing i x).receivers = s.receivers ∧
    (s.setRing i x).fs.slots = s.fs.slots ∧ (s.setRing i x).gu = s.gu ∧ (s.setRing i x).zc = s.zc ∧
    (s.setRing i x).cp = s.cp ∧ (s.setRing i x).op = s.op ∧ (s.setRing i x).cc = s.cc ∧
    (s.setRing i x).pending = s.pending :=
  ⟨rfl, rfl, rfl, rfl, rfl, rfl, rfl, rfl, rfl, rfl, rfl, rfl⟩

@[simp] theorem setSlot_keeps (i : Src) (slot : Slot) (x : Content) (s : State) :
    (s.setSlot i slot x).cru = s.cru ∧ (s.setSlot i slot x).link = s.link ∧ (s.setSlot i slot x).nq = s.nq ∧
    (s.setSlot i slot x).sources = s.sources ∧ (s.setSlot i slot x).receivers = s.receivers ∧
    (s.setSlot i slot x).fs.rings = s.fs.rings ∧ (s.setSlot i slot x).gu = s.gu ∧ (s.setSlot i slot x).zc = s.zc ∧
    (s.setSlot i slot x).cp = s.cp ∧ (s.setSlot i slot x).op = s.op ∧ (s.setSlot i slot x).cc = s.cc ∧
    (s.setSlot i slot x).pending = s.pending :=
  ⟨rfl, rfl, rfl, rfl, rfl, rfl, rfl, rfl, rfl, rfl, rfl, rfl⟩

@[simp] theorem setRecord_keeps (r : Option Transition) (s : State) :
    (s.setRecord r).cru = s.cru ∧ (s.setRecord r).link = s.link ∧ (s.setRecord r).nq = s.nq ∧
    (s.setRecord r).sources = s.sources ∧ (s.setRecord r).receivers = s.receivers ∧ (s.setRecord r).fs = s.fs ∧
    (s.setRecord r).gu = s.gu ∧ (s.setRecord r).zc.ladder = s.zc.ladder ∧ (s.setRecord r).zc.target = s.zc.target ∧
    (s.setRecord r).zc.shown = s.zc.shown ∧ (s.setRecord r).zc.rate = s.zc.rate ∧
    (s.setRecord r).zc.held = s.zc.held ∧ (s.setRecord r).zc.pinned = s.zc.pinned ∧
    (s.setRecord r).zc.bounds = s.zc.bounds ∧ (s.setRecord r).zc.reports = s.zc.reports ∧
    (s.setRecord r).cp = s.cp ∧ (s.setRecord r).op = s.op ∧ (s.setRecord r).cc = s.cc ∧
    (s.setRecord r).pending = s.pending :=
  ⟨rfl, rfl, rfl, rfl, rfl, rfl, rfl, rfl, rfl, rfl, rfl, rfl, rfl, rfl, rfl, rfl, rfl, rfl, rfl⟩

@[simp] theorem setReports_keeps (i : Src) (l : List Report) (s : State) :
    (s.setReports i l).cru = s.cru ∧ (s.setReports i l).link = s.link ∧ (s.setReports i l).nq = s.nq ∧
    (s.setReports i l).sources = s.sources ∧ (s.setReports i l).receivers = s.receivers ∧
    (s.setReports i l).fs = s.fs ∧ (s.setReports i l).gu = s.gu ∧ (s.setReports i l).zc.ladder = s.zc.ladder ∧
    (s.setReports i l).zc.target = s.zc.target ∧ (s.setReports i l).zc.shown = s.zc.shown ∧
    (s.setReports i l).zc.rate = s.zc.rate ∧ (s.setReports i l).zc.held = s.zc.held ∧
    (s.setReports i l).zc.pinned = s.zc.pinned ∧ (s.setReports i l).zc.bounds = s.zc.bounds ∧
    (s.setReports i l).zc.record = s.zc.record ∧ (s.setReports i l).cp = s.cp ∧ (s.setReports i l).op = s.op ∧
    (s.setReports i l).cc = s.cc ∧ (s.setReports i l).pending = s.pending :=
  ⟨rfl, rfl, rfl, rfl, rfl, rfl, rfl, rfl, rfl, rfl, rfl, rfl, rfl, rfl, rfl, rfl, rfl, rfl, rfl⟩

@[simp] theorem setWindow_keeps (i : Src) (w : Option ComposeWindow) (s : State) :
    (s.setWindow i w).cru = s.cru ∧ (s.setWindow i w).link = s.link ∧ (s.setWindow i w).nq = s.nq ∧
    (s.setWindow i w).sources = s.sources ∧ (s.setWindow i w).receivers = s.receivers ∧
    (s.setWindow i w).fs = s.fs ∧ (s.setWindow i w).gu.cal = s.gu.cal ∧ (s.setWindow i w).zc = s.zc ∧
    (s.setWindow i w).cp = s.cp ∧ (s.setWindow i w).op = s.op ∧ (s.setWindow i w).cc = s.cc ∧
    (s.setWindow i w).pending = s.pending :=
  ⟨rfl, rfl, rfl, rfl, rfl, rfl, rfl, rfl, rfl, rfl, rfl, rfl⟩

@[simp] theorem setCal_keeps (i : Src) (l : CalList) (s : State) :
    (s.setCal i l).cru = s.cru ∧ (s.setCal i l).link = s.link ∧ (s.setCal i l).nq = s.nq ∧
    (s.setCal i l).sources = s.sources ∧ (s.setCal i l).receivers = s.receivers ∧ (s.setCal i l).fs = s.fs ∧
    (s.setCal i l).gu.windows = s.gu.windows ∧ (s.setCal i l).zc = s.zc ∧ (s.setCal i l).cp = s.cp ∧
    (s.setCal i l).op = s.op ∧ (s.setCal i l).cc = s.cc ∧ (s.setCal i l).pending = s.pending :=
  ⟨rfl, rfl, rfl, rfl, rfl, rfl, rfl, rfl, rfl, rfl, rfl, rfl⟩

@[simp] theorem setPinned_keeps (on : Bool) (s : State) :
    (s.setPinned on).cru = s.cru ∧ (s.setPinned on).link = s.link ∧ (s.setPinned on).nq = s.nq ∧
    (s.setPinned on).sources = s.sources ∧ (s.setPinned on).receivers = s.receivers ∧ (s.setPinned on).fs = s.fs ∧
    (s.setPinned on).gu = s.gu ∧ (s.setPinned on).zc.ladder = s.zc.ladder ∧
    (s.setPinned on).zc.target = s.zc.target ∧ (s.setPinned on).zc.shown = s.zc.shown ∧
    (s.setPinned on).zc.rate = s.zc.rate ∧ (s.setPinned on).zc.held = s.zc.held ∧
    (s.setPinned on).zc.bounds = s.zc.bounds ∧ (s.setPinned on).zc.record = s.zc.record ∧
    (s.setPinned on).zc.reports = s.zc.reports ∧ (s.setPinned on).cp = s.cp ∧ (s.setPinned on).op = s.op ∧
    (s.setPinned on).cc = s.cc ∧ (s.setPinned on).pending = s.pending :=
  ⟨rfl, rfl, rfl, rfl, rfl, rfl, rfl, rfl, rfl, rfl, rfl, rfl, rfl, rfl, rfl, rfl, rfl, rfl, rfl⟩

@[simp] theorem setSub_keeps (x : OutSub) (s : State) :
    (s.setSub x).cru = s.cru ∧ (s.setSub x).link = s.link ∧ (s.setSub x).nq = s.nq ∧
    (s.setSub x).sources = s.sources ∧ (s.setSub x).receivers = s.receivers ∧ (s.setSub x).fs = s.fs ∧
    (s.setSub x).gu = s.gu ∧ (s.setSub x).zc = s.zc ∧ (s.setSub x).cp.settings = s.cp.settings ∧
    (s.setSub x).cp.pendingPrimary = s.cp.pendingPrimary ∧ (s.setSub x).cp.deadline = s.cp.deadline ∧
    (s.setSub x).cp.compose = s.cp.compose ∧ (s.setSub x).cp.newest = s.cp.newest ∧
    (s.setSub x).cp.lastSent = s.cp.lastSent ∧ (s.setSub x).cp.fresh = s.cp.fresh ∧
    (s.setSub x).cp.overruns = s.cp.overruns ∧ (s.setSub x).cp.repeats = s.cp.repeats ∧
    (s.setSub x).cp.ping = s.cp.ping ∧ (s.setSub x).cp.pong = s.cp.pong ∧
    (s.setSub x).cp.stillCopy = s.cp.stillCopy ∧ (s.setSub x).op = s.op ∧ (s.setSub x).cc = s.cc ∧
    (s.setSub x).pending = s.pending :=
  ⟨rfl, rfl, rfl, rfl, rfl, rfl, rfl, rfl, rfl, rfl, rfl, rfl, rfl, rfl, rfl, rfl, rfl, rfl, rfl, rfl, rfl, rfl, rfl⟩

@[simp] theorem setPending_keeps (x : Option Src) (s : State) :
    (s.setPending x).cru = s.cru ∧ (s.setPending x).link = s.link ∧ (s.setPending x).nq = s.nq ∧
    (s.setPending x).sources = s.sources ∧ (s.setPending x).receivers = s.receivers ∧ (s.setPending x).fs = s.fs ∧
    (s.setPending x).gu = s.gu ∧ (s.setPending x).zc = s.zc ∧ (s.setPending x).cp.settings = s.cp.settings ∧
    (s.setPending x).cp.sub = s.cp.sub ∧ (s.setPending x).cp.deadline = s.cp.deadline ∧
    (s.setPending x).cp.compose = s.cp.compose ∧ (s.setPending x).cp.newest = s.cp.newest ∧
    (s.setPending x).cp.lastSent = s.cp.lastSent ∧ (s.setPending x).cp.fresh = s.cp.fresh ∧
    (s.setPending x).cp.overruns = s.cp.overruns ∧ (s.setPending x).cp.repeats = s.cp.repeats ∧
    (s.setPending x).cp.ping = s.cp.ping ∧ (s.setPending x).cp.pong = s.cp.pong ∧
    (s.setPending x).cp.stillCopy = s.cp.stillCopy ∧ (s.setPending x).op = s.op ∧ (s.setPending x).cc = s.cc ∧
    (s.setPending x).pending = s.pending :=
  ⟨rfl, rfl, rfl, rfl, rfl, rfl, rfl, rfl, rfl, rfl, rfl, rfl, rfl, rfl, rfl, rfl, rfl, rfl, rfl, rfl, rfl, rfl, rfl⟩

@[simp] theorem setShown_keeps (z : Nat) (s : State) :
    (s.setShown z).cru = s.cru ∧ (s.setShown z).link = s.link ∧ (s.setShown z).nq = s.nq ∧
    (s.setShown z).sources = s.sources ∧ (s.setShown z).receivers = s.receivers ∧ (s.setShown z).fs = s.fs ∧
    (s.setShown z).gu = s.gu ∧ (s.setShown z).zc.ladder = s.zc.ladder ∧ (s.setShown z).zc.target = s.zc.target ∧
    (s.setShown z).zc.rate = s.zc.rate ∧ (s.setShown z).zc.held = s.zc.held ∧
    (s.setShown z).zc.pinned = s.zc.pinned ∧ (s.setShown z).zc.bounds = s.zc.bounds ∧
    (s.setShown z).zc.record = s.zc.record ∧ (s.setShown z).zc.reports = s.zc.reports ∧ (s.setShown z).cp = s.cp ∧
    (s.setShown z).op = s.op ∧ (s.setShown z).cc = s.cc ∧ (s.setShown z).pending = s.pending :=
  ⟨rfl, rfl, rfl, rfl, rfl, rfl, rfl, rfl, rfl, rfl, rfl, rfl, rfl, rfl, rfl, rfl, rfl, rfl, rfl⟩

@[simp] theorem setStill_keeps (x : Option Still) (s : State) :
    (s.setStill x).cru = s.cru ∧ (s.setStill x).link = s.link ∧ (s.setStill x).nq = s.nq ∧
    (s.setStill x).sources = s.sources ∧ (s.setStill x).receivers = s.receivers ∧ (s.setStill x).fs = s.fs ∧
    (s.setStill x).gu = s.gu ∧ (s.setStill x).zc = s.zc ∧ (s.setStill x).cp = s.cp ∧ (s.setStill x).op = s.op ∧
    (s.setStill x).cc.lastId = s.cc.lastId ∧ (s.setStill x).pending = s.pending :=
  ⟨rfl, rfl, rfl, rfl, rfl, rfl, rfl, rfl, rfl, rfl, rfl, rfl⟩

@[simp] theorem setQueue_keeps (x : List Nat) (s : State) :
    (s.setQueue x).cru = s.cru ∧ (s.setQueue x).link = s.link ∧ (s.setQueue x).nq = s.nq ∧
    (s.setQueue x).sources = s.sources ∧ (s.setQueue x).receivers = s.receivers ∧ (s.setQueue x).fs = s.fs ∧
    (s.setQueue x).gu = s.gu ∧ (s.setQueue x).zc = s.zc ∧ (s.setQueue x).cp = s.cp ∧
    (s.setQueue x).op.video = s.op.video ∧ (s.setQueue x).op.group = s.op.group ∧ (s.setQueue x).cc = s.cc ∧
    (s.setQueue x).pending = s.pending :=
  ⟨rfl, rfl, rfl, rfl, rfl, rfl, rfl, rfl, rfl, rfl, rfl, rfl, rfl⟩

@[simp] theorem setPart_keeps (x : PartState) (s : State) :
    (s.setPart x).cru = s.cru ∧ (s.setPart x).link.phase = s.link.phase ∧
    (s.setPart x).link.current = s.link.current ∧ (s.setPart x).link.slot = s.link.slot ∧
    (s.setPart x).link.txn = s.link.txn ∧ (s.setPart x).link.sdo = s.link.sdo ∧ (s.setPart x).nq = s.nq ∧
    (s.setPart x).sources = s.sources ∧ (s.setPart x).receivers = s.receivers ∧ (s.setPart x).fs = s.fs ∧
    (s.setPart x).gu = s.gu ∧ (s.setPart x).zc = s.zc ∧ (s.setPart x).cp = s.cp ∧ (s.setPart x).op = s.op ∧
    (s.setPart x).cc = s.cc ∧ (s.setPart x).pending = s.pending :=
  ⟨rfl, rfl, rfl, rfl, rfl, rfl, rfl, rfl, rfl, rfl, rfl, rfl, rfl, rfl, rfl, rfl⟩

@[simp] theorem setTxn_keeps (t : Option Txn) (s : State) :
    (s.setTxn t).cru = s.cru ∧ (s.setTxn t).link.part = s.link.part ∧ (s.setTxn t).link.phase = s.link.phase ∧
    (s.setTxn t).link.current = s.link.current ∧ (s.setTxn t).link.slot = s.link.slot ∧
    (s.setTxn t).link.sdo = s.link.sdo ∧ (s.setTxn t).nq = s.nq ∧ (s.setTxn t).sources = s.sources ∧
    (s.setTxn t).receivers = s.receivers ∧ (s.setTxn t).fs = s.fs ∧ (s.setTxn t).gu = s.gu ∧
    (s.setTxn t).zc = s.zc ∧ (s.setTxn t).cp = s.cp ∧ (s.setTxn t).op = s.op ∧ (s.setTxn t).cc = s.cc ∧
    (s.setTxn t).pending = s.pending :=
  ⟨rfl, rfl, rfl, rfl, rfl, rfl, rfl, rfl, rfl, rfl, rfl, rfl, rfl, rfl, rfl, rfl⟩

@[simp] theorem setPendingQueue_keeps (queue : List Instr) (s : State) :
    (s.setPendingQueue queue).cru = s.cru ∧ (s.setPendingQueue queue).link = s.link ∧
    (s.setPendingQueue queue).nq = s.nq ∧ (s.setPendingQueue queue).sources = s.sources ∧
    (s.setPendingQueue queue).receivers = s.receivers ∧ (s.setPendingQueue queue).fs = s.fs ∧
    (s.setPendingQueue queue).gu = s.gu ∧ (s.setPendingQueue queue).zc = s.zc ∧
    (s.setPendingQueue queue).cp = s.cp ∧ (s.setPendingQueue queue).op = s.op ∧ (s.setPendingQueue queue).cc = s.cc :=
  ⟨rfl, rfl, rfl, rfl, rfl, rfl, rfl, rfl, rfl, rfl, rfl⟩

end Sys2Proof.Machine
end

