-- ==== Sys2Proof/Laws/Ops.lean ====
section
/-! SUPPORT. What each shared operation of Ops leaves unchanged, and what it makes of the sources. -/

namespace Sys2Proof.Machine

/-! What an operation leaves -/

@[simp] theorem waitTimer_keeps (t : Timer) (s : State) :
    (s.waitTimer t).cru.resetHeld = s.cru.resetHeld ∧ (s.waitTimer t).cru.straps = s.cru.straps ∧
    (s.waitTimer t).cru.lock = s.cru.lock ∧ (s.waitTimer t).cru.test = s.cru.test ∧
    (s.waitTimer t).cru.linkResetAt = s.cru.linkResetAt ∧ (s.waitTimer t).link = s.link ∧
    (s.waitTimer t).nq = s.nq ∧ (s.waitTimer t).sources = s.sources ∧ (s.waitTimer t).receivers = s.receivers ∧
    (s.waitTimer t).fs = s.fs ∧ (s.waitTimer t).gu = s.gu ∧ (s.waitTimer t).zc = s.zc ∧ (s.waitTimer t).cp = s.cp ∧
    (s.waitTimer t).op = s.op ∧ (s.waitTimer t).cc = s.cc ∧ (s.waitTimer t).pending = s.pending := by
  unfold State.waitTimer
  (repeat' split) <;> simp

@[simp] theorem waitDeadline_keeps (d : Time) (s : State) :
    (s.waitDeadline d).cru.resetHeld = s.cru.resetHeld ∧ (s.waitDeadline d).cru.straps = s.cru.straps ∧
    (s.waitDeadline d).cru.lock = s.cru.lock ∧ (s.waitDeadline d).cru.test = s.cru.test ∧
    (s.waitDeadline d).cru.linkResetAt = s.cru.linkResetAt ∧ (s.waitDeadline d).link = s.link ∧
    (s.waitDeadline d).nq = s.nq ∧ (s.waitDeadline d).sources = s.sources ∧
    (s.waitDeadline d).receivers = s.receivers ∧ (s.waitDeadline d).fs = s.fs ∧ (s.waitDeadline d).gu = s.gu ∧
    (s.waitDeadline d).zc = s.zc ∧ (s.waitDeadline d).cp = s.cp ∧ (s.waitDeadline d).op = s.op ∧
    (s.waitDeadline d).cc = s.cc ∧ (s.waitDeadline d).pending = s.pending := by
  unfold State.waitDeadline
  (repeat' split) <;> simp

@[simp] theorem passMicrosecond_keeps (s : State) :
    s.passMicrosecond.cru.resetHeld = s.cru.resetHeld ∧ s.passMicrosecond.cru.straps = s.cru.straps ∧
    s.passMicrosecond.cru.lock = s.cru.lock ∧ s.passMicrosecond.cru.test = s.cru.test ∧
    s.passMicrosecond.cru.linkResetAt = s.cru.linkResetAt ∧ s.passMicrosecond.link = s.link ∧
    s.passMicrosecond.nq = s.nq ∧ s.passMicrosecond.sources = s.sources ∧
    s.passMicrosecond.receivers = s.receivers ∧ s.passMicrosecond.fs = s.fs ∧ s.passMicrosecond.gu = s.gu ∧
    s.passMicrosecond.zc = s.zc ∧ s.passMicrosecond.cp = s.cp ∧ s.passMicrosecond.op = s.op ∧
    s.passMicrosecond.cc = s.cc ∧ s.passMicrosecond.pending = s.pending := by
  unfold State.passMicrosecond
  (repeat' split) <;> simp

@[simp] theorem restartIdle_keeps (i : Src) (s : State) :
    (s.restartIdle i).cru = s.cru ∧ (s.restartIdle i).link = s.link ∧ (s.restartIdle i).nq = s.nq ∧
    (s.restartIdle i).receivers = s.receivers ∧ (s.restartIdle i).fs = s.fs ∧ (s.restartIdle i).gu = s.gu ∧
    (s.restartIdle i).zc = s.zc ∧ (s.restartIdle i).cp = s.cp ∧ (s.restartIdle i).op = s.op ∧
    (s.restartIdle i).cc = s.cc ∧ (s.restartIdle i).pending = s.pending :=
  ⟨rfl, rfl, rfl, rfl, rfl, rfl, rfl, rfl, rfl, rfl, rfl⟩

@[simp] theorem stopIdle_keeps (i : Src) (s : State) :
    (s.stopIdle i).cru = s.cru ∧ (s.stopIdle i).link = s.link ∧ (s.stopIdle i).nq = s.nq ∧
    (s.stopIdle i).receivers = s.receivers ∧ (s.stopIdle i).fs = s.fs ∧ (s.stopIdle i).gu = s.gu ∧
    (s.stopIdle i).zc = s.zc ∧ (s.stopIdle i).cp = s.cp ∧ (s.stopIdle i).op = s.op ∧ (s.stopIdle i).cc = s.cc ∧
    (s.stopIdle i).pending = s.pending :=
  ⟨rfl, rfl, rfl, rfl, rfl, rfl, rfl, rfl, rfl, rfl, rfl⟩

@[simp] theorem releaseHolds_keeps (h : Holder) (i : Src) (s : State) :
    (s.releaseHolds h i).cru = s.cru ∧ (s.releaseHolds h i).link = s.link ∧ (s.releaseHolds h i).nq = s.nq ∧
    (s.releaseHolds h i).sources = s.sources ∧ (s.releaseHolds h i).receivers = s.receivers ∧
    (s.releaseHolds h i).fs.slots = s.fs.slots ∧ (s.releaseHolds h i).gu = s.gu ∧ (s.releaseHolds h i).zc = s.zc ∧
    (s.releaseHolds h i).cp = s.cp ∧ (s.releaseHolds h i).op = s.op ∧ (s.releaseHolds h i).cc = s.cc ∧
    (s.releaseHolds h i).pending = s.pending :=
  ⟨rfl, rfl, rfl, rfl, rfl, rfl, rfl, rfl, rfl, rfl, rfl, rfl⟩

@[simp] theorem moveHold_keeps (i : Src) (slot : Slot) (s : State) :
    (s.moveHold i slot).cru = s.cru ∧ (s.moveHold i slot).link = s.link ∧ (s.moveHold i slot).nq = s.nq ∧
    (s.moveHold i slot).sources = s.sources ∧ (s.moveHold i slot).receivers = s.receivers ∧
    (s.moveHold i slot).fs.slots = s.fs.slots ∧ (s.moveHold i slot).gu = s.gu ∧ (s.moveHold i slot).zc = s.zc ∧
    (s.moveHold i slot).cp = s.cp ∧ (s.moveHold i slot).op = s.op ∧ (s.moveHold i slot).cc = s.cc ∧
    (s.moveHold i slot).pending = s.pending :=
  ⟨rfl, rfl, rfl, rfl, rfl, rfl, rfl, rfl, rfl, rfl, rfl, rfl⟩

@[simp] theorem placeStillHold_keeps (i : Src) (slot : Slot) (s : State) :
    (s.placeStillHold i slot).cru = s.cru ∧ (s.placeStillHold i slot).link = s.link ∧
    (s.placeStillHold i slot).nq = s.nq ∧ (s.placeStillHold i slot).sources = s.sources ∧
    (s.placeStillHold i slot).receivers = s.receivers ∧ (s.placeStillHold i slot).fs.slots = s.fs.slots ∧
    (s.placeStillHold i slot).gu = s.gu ∧ (s.placeStillHold i slot).zc = s.zc ∧
    (s.placeStillHold i slot).cp = s.cp ∧ (s.placeStillHold i slot).op = s.op ∧
    (s.placeStillHold i slot).cc = s.cc ∧ (s.placeStillHold i slot).pending = s.pending :=
  ⟨rfl, rfl, rfl, rfl, rfl, rfl, rfl, rfl, rfl, rfl, rfl, rfl⟩

@[simp] theorem purge_keeps (i : Src) (s : State) :
    (s.purge i).cru = s.cru ∧ (s.purge i).link = s.link ∧ (s.purge i).nq = s.nq ∧ (s.purge i).sources = s.sources ∧
    (s.purge i).fs.slots = s.fs.slots ∧ (s.purge i).gu = s.gu ∧ (s.purge i).zc = s.zc ∧ (s.purge i).cp = s.cp ∧
    (s.purge i).op = s.op ∧ (s.purge i).cc = s.cc ∧ (s.purge i).pending = s.pending :=
  ⟨rfl, rfl, rfl, rfl, rfl, rfl, rfl, rfl, rfl, rfl, rfl⟩

@[simp] theorem postState_keeps (i : Src) (purpose : Purpose) (new prev : SrcState) (s : State) :
    (s.postState i purpose new prev).cru = s.cru ∧ (s.postState i purpose new prev).link = s.link ∧
    (s.postState i purpose new prev).sources = s.sources ∧
    (s.postState i purpose new prev).receivers = s.receivers ∧ (s.postState i purpose new prev).fs = s.fs ∧
    (s.postState i purpose new prev).gu = s.gu ∧ (s.postState i purpose new prev).zc = s.zc ∧
    (s.postState i purpose new prev).cp = s.cp ∧ (s.postState i purpose new prev).op = s.op ∧
    (s.postState i purpose new prev).cc = s.cc ∧ (s.postState i purpose new prev).pending = s.pending := by
  unfold State.postState
  (repeat' split) <;> simp

@[simp] theorem wake_keeps (purpose : Purpose) (i : Src) (s : State) :
    (s.wake purpose i).cru = s.cru ∧ (s.wake purpose i).link = s.link ∧
    (s.wake purpose i).receivers = s.receivers ∧ (s.wake purpose i).fs = s.fs ∧ (s.wake purpose i).gu = s.gu ∧
    (s.wake purpose i).zc = s.zc ∧ (s.wake purpose i).cp = s.cp ∧ (s.wake purpose i).op = s.op ∧
    (s.wake purpose i).cc = s.cc ∧ (s.wake purpose i).pending = s.pending := by
  unfold State.wake
  (repeat' split) <;> simp

@[simp] theorem park_keeps (i : Src) (s : State) :
    (s.park i).cru = s.cru ∧ (s.park i).link = s.link ∧ (s.park i).fs.slots = s.fs.slots ∧ (s.park i).gu = s.gu ∧
    (s.park i).zc = s.zc ∧ (s.park i).cp = s.cp ∧ (s.park i).op = s.op ∧ (s.park i).cc = s.cc ∧
    (s.park i).pending = s.pending := by
  unfold State.park
  (repeat' split) <;> simp

@[simp] theorem raiseReport_keeps (i : Src) (role : SrcState) (s : State) :
    (s.raiseReport i role).cru = s.cru ∧ (s.raiseReport i role).link = s.link ∧ (s.raiseReport i role).nq = s.nq ∧
    (s.raiseReport i role).sources = s.sources ∧ (s.raiseReport i role).receivers = s.receivers ∧
    (s.raiseReport i role).fs = s.fs ∧ (s.raiseReport i role).gu = s.gu ∧
    (s.raiseReport i role).zc.ladder = s.zc.ladder ∧ (s.raiseReport i role).zc.target = s.zc.target ∧
    (s.raiseReport i role).zc.shown = s.zc.shown ∧ (s.raiseReport i role).zc.rate = s.zc.rate ∧
    (s.raiseReport i role).zc.held = s.zc.held ∧ (s.raiseReport i role).zc.pinned = s.zc.pinned ∧
    (s.raiseReport i role).zc.bounds = s.zc.bounds ∧ (s.raiseReport i role).zc.record = s.zc.record ∧
    (s.raiseReport i role).cp = s.cp ∧ (s.raiseReport i role).op = s.op ∧ (s.raiseReport i role).cc = s.cc ∧
    (s.raiseReport i role).pending = s.pending :=
  ⟨rfl, rfl, rfl, rfl, rfl, rfl, rfl, rfl, rfl, rfl, rfl, rfl, rfl, rfl, rfl, rfl, rfl, rfl, rfl⟩

@[simp] theorem faultSource_keeps (cause : FaultCause) (i : Src) (s : State) :
    (s.faultSource cause i).cru = s.cru ∧ (s.faultSource cause i).link = s.link ∧
    (s.faultSource cause i).fs.slots = s.fs.slots ∧ (s.faultSource cause i).gu = s.gu ∧
    (s.faultSource cause i).zc.ladder = s.zc.ladder ∧ (s.faultSource cause i).zc.target = s.zc.target ∧
    (s.faultSource cause i).zc.shown = s.zc.shown ∧ (s.faultSource cause i).zc.rate = s.zc.rate ∧
    (s.faultSource cause i).zc.held = s.zc.held ∧ (s.faultSource cause i).zc.pinned = s.zc.pinned ∧
    (s.faultSource cause i).zc.bounds = s.zc.bounds ∧ (s.faultSource cause i).zc.record = s.zc.record ∧
    (s.faultSource cause i).cp = s.cp ∧ (s.faultSource cause i).op = s.op ∧ (s.faultSource cause i).cc = s.cc ∧
    (s.faultSource cause i).pending = s.pending :=
  ⟨rfl, rfl, rfl, rfl, rfl, rfl, rfl, rfl, rfl, rfl, rfl, rfl, rfl, rfl, rfl, rfl⟩

@[simp] theorem shiftReport_keeps (i : Src) (role : SrcState) (s : State) :
    (s.shiftReport i role).cru = s.cru ∧ (s.shiftReport i role).link = s.link ∧ (s.shiftReport i role).nq = s.nq ∧
    (s.shiftReport i role).sources = s.sources ∧ (s.shiftReport i role).receivers = s.receivers ∧
    (s.shiftReport i role).fs = s.fs ∧ (s.shiftReport i role).gu = s.gu ∧
    (s.shiftReport i role).zc.ladder = s.zc.ladder ∧ (s.shiftReport i role).zc.target = s.zc.target ∧
    (s.shiftReport i role).zc.shown = s.zc.shown ∧ (s.shiftReport i role).zc.rate = s.zc.rate ∧
    (s.shiftReport i role).zc.held = s.zc.held ∧ (s.shiftReport i role).zc.pinned = s.zc.pinned ∧
    (s.shiftReport i role).zc.bounds = s.zc.bounds ∧ (s.shiftReport i role).zc.record = s.zc.record ∧
    (s.shiftReport i role).cp = s.cp ∧ (s.shiftReport i role).op = s.op ∧ (s.shiftReport i role).cc = s.cc ∧
    (s.shiftReport i role).pending = s.pending :=
  ⟨rfl, rfl, rfl, rfl, rfl, rfl, rfl, rfl, rfl, rfl, rfl, rfl, rfl, rfl, rfl, rfl, rfl, rfl, rfl⟩

@[simp] theorem settleReports_keeps (i : Src) (s : State) :
    (s.settleReports i).cru = s.cru ∧ (s.settleReports i).link = s.link ∧ (s.settleReports i).nq = s.nq ∧
    (s.settleReports i).sources = s.sources ∧ (s.settleReports i).receivers = s.receivers ∧
    (s.settleReports i).fs = s.fs ∧ (s.settleReports i).gu = s.gu ∧ (s.settleReports i).zc.ladder = s.zc.ladder ∧
    (s.settleReports i).zc.target = s.zc.target ∧ (s.settleReports i).zc.shown = s.zc.shown ∧
    (s.settleReports i).zc.rate = s.zc.rate ∧ (s.settleReports i).zc.held = s.zc.held ∧
    (s.settleReports i).zc.pinned = s.zc.pinned ∧ (s.settleReports i).zc.bounds = s.zc.bounds ∧
    (s.settleReports i).zc.record = s.zc.record ∧ (s.settleReports i).cp = s.cp ∧ (s.settleReports i).op = s.op ∧
    (s.settleReports i).cc = s.cc ∧ (s.settleReports i).pending = s.pending :=
  ⟨rfl, rfl, rfl, rfl, rfl, rfl, rfl, rfl, rfl, rfl, rfl, rfl, rfl, rfl, rfl, rfl, rfl, rfl, rfl⟩

@[simp] theorem spoil_keeps (i : Src) (x : Spoiled) (s : State) :
    (s.spoil i x).cru = s.cru ∧ (s.spoil i x).link = s.link ∧ (s.spoil i x).nq = s.nq ∧
    (s.spoil i x).sources = s.sources ∧ (s.spoil i x).receivers = s.receivers ∧ (s.spoil i x).fs = s.fs ∧
    (s.spoil i x).gu = s.gu ∧ (s.spoil i x).zc.ladder = s.zc.ladder ∧ (s.spoil i x).zc.target = s.zc.target ∧
    (s.spoil i x).zc.shown = s.zc.shown ∧ (s.spoil i x).zc.rate = s.zc.rate ∧ (s.spoil i x).zc.held = s.zc.held ∧
    (s.spoil i x).zc.pinned = s.zc.pinned ∧ (s.spoil i x).zc.bounds = s.zc.bounds ∧
    (s.spoil i x).zc.record = s.zc.record ∧ (s.spoil i x).cp = s.cp ∧ (s.spoil i x).op = s.op ∧
    (s.spoil i x).cc = s.cc ∧ (s.spoil i x).pending = s.pending :=
  ⟨rfl, rfl, rfl, rfl, rfl, rfl, rfl, rfl, rfl, rfl, rfl, rfl, rfl, rfl, rfl, rfl, rfl, rfl, rfl⟩

@[simp] theorem takeRole_keeps (i : Src) (role : SrcState) (s : State) :
    (s.takeRole i role).cru = s.cru ∧ (s.takeRole i role).link = s.link ∧
    (s.takeRole i role).receivers = s.receivers ∧ (s.takeRole i role).fs = s.fs ∧ (s.takeRole i role).gu = s.gu ∧
    (s.takeRole i role).zc = s.zc ∧ (s.takeRole i role).cp = s.cp ∧ (s.takeRole i role).op = s.op ∧
    (s.takeRole i role).cc = s.cc ∧ (s.takeRole i role).pending = s.pending := by
  unfold State.takeRole
  (repeat' split) <;> simp

@[simp] theorem setRole_keeps (i : Src) (role : SrcState) (s : State) :
    (s.setRole i role).cru = s.cru ∧ (s.setRole i role).link = s.link ∧
    (s.setRole i role).receivers = s.receivers ∧ (s.setRole i role).fs = s.fs ∧ (s.setRole i role).gu = s.gu ∧
    (s.setRole i role).zc.ladder = s.zc.ladder ∧ (s.setRole i role).zc.target = s.zc.target ∧
    (s.setRole i role).zc.shown = s.zc.shown ∧ (s.setRole i role).zc.rate = s.zc.rate ∧
    (s.setRole i role).zc.held = s.zc.held ∧ (s.setRole i role).zc.pinned = s.zc.pinned ∧
    (s.setRole i role).zc.bounds = s.zc.bounds ∧ (s.setRole i role).zc.record = s.zc.record ∧
    (s.setRole i role).cp = s.cp ∧ (s.setRole i role).op = s.op ∧ (s.setRole i role).cc = s.cc ∧
    (s.setRole i role).pending = s.pending := by
  unfold State.setRole
  (repeat' split) <;> simp

@[simp] theorem enterWarm_keeps (i : Src) (s : State) :
    (s.enterWarm i).cru = s.cru ∧ (s.enterWarm i).link = s.link ∧ (s.enterWarm i).receivers = s.receivers ∧
    (s.enterWarm i).fs = s.fs ∧ (s.enterWarm i).gu = s.gu ∧ (s.enterWarm i).zc = s.zc ∧ (s.enterWarm i).cp = s.cp ∧
    (s.enterWarm i).op = s.op ∧ (s.enterWarm i).cc = s.cc ∧ (s.enterWarm i).pending = s.pending := by
  simp [State.enterWarm]

@[simp] theorem removeRecord_keeps (s : State) :
    s.removeRecord.cru = s.cru ∧ s.removeRecord.link = s.link ∧ s.removeRecord.nq = s.nq ∧
    s.removeRecord.receivers = s.receivers ∧ s.removeRecord.fs = s.fs ∧ s.removeRecord.gu = s.gu ∧
    s.removeRecord.zc.ladder = s.zc.ladder ∧ s.removeRecord.zc.target = s.zc.target ∧
    s.removeRecord.zc.shown = s.zc.shown ∧ s.removeRecord.zc.rate = s.zc.rate ∧
    s.removeRecord.zc.held = s.zc.held ∧ s.removeRecord.zc.pinned = s.zc.pinned ∧
    s.removeRecord.zc.bounds = s.zc.bounds ∧ s.removeRecord.zc.reports = s.zc.reports ∧ s.removeRecord.cp = s.cp ∧
    s.removeRecord.op = s.op ∧ s.removeRecord.cc = s.cc ∧ s.removeRecord.pending = s.pending := by
  unfold State.removeRecord
  (repeat' split) <;> simp

@[simp] theorem createRecord_keeps (r : Transition) (s : State) :
    (s.createRecord r).cru = s.cru ∧ (s.createRecord r).link = s.link ∧ (s.createRecord r).nq = s.nq ∧
    (s.createRecord r).receivers = s.receivers ∧ (s.createRecord r).fs = s.fs ∧ (s.createRecord r).gu = s.gu ∧
    (s.createRecord r).zc.ladder = s.zc.ladder ∧ (s.createRecord r).zc.target = s.zc.target ∧
    (s.createRecord r).zc.shown = s.zc.shown ∧ (s.createRecord r).zc.rate = s.zc.rate ∧
    (s.createRecord r).zc.held = s.zc.held ∧ (s.createRecord r).zc.pinned = s.zc.pinned ∧
    (s.createRecord r).zc.bounds = s.zc.bounds ∧ (s.createRecord r).zc.reports = s.zc.reports ∧
    (s.createRecord r).cp = s.cp ∧ (s.createRecord r).op = s.op ∧ (s.createRecord r).cc = s.cc ∧
    (s.createRecord r).pending = s.pending := by
  simp [State.createRecord]

@[simp] theorem dropPending_keeps (s : State) :
    s.dropPending.cru = s.cru ∧ s.dropPending.link = s.link ∧ s.dropPending.nq = s.nq ∧
    s.dropPending.receivers = s.receivers ∧ s.dropPending.fs = s.fs ∧ s.dropPending.gu = s.gu ∧
    s.dropPending.zc = s.zc ∧ s.dropPending.cp.settings = s.cp.settings ∧ s.dropPending.cp.sub = s.cp.sub ∧
    s.dropPending.cp.deadline = s.cp.deadline ∧ s.dropPending.cp.compose = s.cp.compose ∧
    s.dropPending.cp.newest = s.cp.newest ∧ s.dropPending.cp.lastSent = s.cp.lastSent ∧
    s.dropPending.cp.fresh = s.cp.fresh ∧ s.dropPending.cp.overruns = s.cp.overruns ∧
    s.dropPending.cp.repeats = s.cp.repeats ∧ s.dropPending.cp.ping = s.cp.ping ∧
    s.dropPending.cp.pong = s.cp.pong ∧ s.dropPending.cp.stillCopy = s.cp.stillCopy ∧ s.dropPending.op = s.op ∧
    s.dropPending.cc = s.cc ∧ s.dropPending.pending = s.pending := by
  unfold State.dropPending
  (repeat' split) <;> simp

@[simp] theorem settleTest_keeps (t : TestRecord) (s : State) :
    (s.settleTest t).cru.resetHeld = s.cru.resetHeld ∧ (s.settleTest t).cru.straps = s.cru.straps ∧
    (s.settleTest t).cru.lock = s.cru.lock ∧ (s.settleTest t).cru.time = s.cru.time ∧
    (s.settleTest t).cru.linkResetAt = s.cru.linkResetAt ∧ (s.settleTest t).link = s.link ∧
    (s.settleTest t).sources = s.sources ∧ (s.settleTest t).receivers = s.receivers ∧ (s.settleTest t).fs = s.fs ∧
    (s.settleTest t).gu = s.gu ∧ (s.settleTest t).zc = s.zc ∧ (s.settleTest t).cp = s.cp ∧
    (s.settleTest t).op = s.op ∧ (s.settleTest t).cc = s.cc ∧ (s.settleTest t).pending = s.pending := by
  unfold State.settleTest
  (repeat' split) <;> simp

@[simp] theorem testEnd_keeps (i : Src) (code : TestCode) (s : State) :
    (s.testEnd i code).cru.resetHeld = s.cru.resetHeld ∧ (s.testEnd i code).cru.straps = s.cru.straps ∧
    (s.testEnd i code).cru.lock = s.cru.lock ∧ (s.testEnd i code).cru.time = s.cru.time ∧
    (s.testEnd i code).cru.linkResetAt = s.cru.linkResetAt ∧ (s.testEnd i code).link = s.link ∧
    (s.testEnd i code).fs.slots = s.fs.slots ∧ (s.testEnd i code).gu = s.gu ∧ (s.testEnd i code).zc = s.zc ∧
    (s.testEnd i code).cp = s.cp ∧ (s.testEnd i code).op = s.op ∧ (s.testEnd i code).cc = s.cc ∧
    (s.testEnd i code).pending = s.pending := by
  unfold State.testEnd
  (repeat' split) <;> simp

@[simp] theorem hardReset_keeps (s : State) :
    s.hardReset.cru.straps = s.cru.straps ∧ s.hardReset.pending = s.pending :=
  ⟨rfl, rfl⟩

@[simp] theorem linkReset_keeps (s : State) :
    s.linkReset.cru.resetHeld = s.cru.resetHeld ∧ s.linkReset.cru.straps = s.cru.straps ∧
    s.linkReset.cru.lock = s.cru.lock ∧ s.linkReset.cru.time = s.cru.time ∧ s.linkReset.link.sdo = s.link.sdo ∧
    s.linkReset.gu.cal = s.gu.cal ∧ s.linkReset.pending = s.pending :=
  ⟨rfl, rfl, rfl, rfl, rfl, rfl, rfl⟩

/-! What an operation does -/

/-! What an operation does to one source, the others staying as they are -/

@[simp] theorem source_stopIdle (i j : Src) (s : State) :
    (s.stopIdle i).source j = if j = i then { s.source i with idle := none } else s.source j := get_set ..

@[simp] theorem source_restartIdle (i j : Src) (s : State) :
    (s.restartIdle i).source j = if j = i then { s.source i with
      idle := if s.idleRuns i then some (s.timer ((s.source i).idleTwenties * 20000)) else none } else s.source j :=
  get_set ..

@[simp] theorem source_postState (i j : Src) (p : Purpose) (new prev : SrcState) (s : State) :
    (s.postState i p new prev).source j = s.source j := source_congr _ _ (by simp) j

@[simp] theorem source_purge (i j : Src) (s : State) : (s.purge i).source j = s.source j := source_congr _ _ (by simp) j

@[simp] theorem ring_purge (i j : Src) (s : State) :
    (s.purge i).ring j = if j = i then (s.ring i).filter FrameRec.held else s.ring j := get_set ..

@[simp] theorem receiver_purge (i j : Src) (s : State) :
    (s.purge i).receiver j = if j = i then (s.receiver i).purged else s.receiver j := get_set ..

/-- R6: what a wake leaves of each source. -/
theorem source_wake (p : Purpose) (i j : Src) (s : State) :
    (s.wake p i).source j =
      if j = i ∧ (s.source i).state = .parked ∧ (s.source i).defined = true then
        { s.source i with
          state := .waking, purpose := p, lastReady := none, enable := true,
          settle := some (s.timer ((s.source i).settleMs * 1000)) }
      else s.source j := by
  unfold State.wake
  split <;> by_cases h : j = i <;> simp_all

/-- R10: what a park leaves of each source. -/
theorem source_park (i j : Src) (s : State) :
    (s.park i).source j =
      if j = i ∧ (s.source i).state ≠ .parked ∧ (s.source i).state.isRole = false then (s.source i).parkedRec
      else s.source j := by
  unfold State.park
  by_cases h : j = i
  · subst h
    by_cases hp : (s.source j).state = .parked <;> by_cases hr : (s.source j).state.isRole = true <;> simp [hp, hr]
  · split <;> simp [h]

/-- R15: what the entry to FAULT leaves of each source. -/
theorem source_faultSource (cause : FaultCause) (i j : Src) (s : State) :
    (s.faultSource cause i).source j = if j = i then (s.source i).faultRec cause else s.source j := by
  unfold State.faultSource State.raiseReport
  simp

/-- R15: the report of a fault is pending with the state the source stood in. -/
theorem reports_faultSource (cause : FaultCause) (i j : Src) (s : State) :
    (s.faultSource cause i).zc.reports.get j =
      if j = i then s.zc.reports.get i ++ [⟨(s.source i).state, none⟩] else s.zc.reports.get j := by
  unfold State.faultSource State.raiseReport
  simp

/-- R11, R12: the sources after a role change do not depend on the reports. -/
@[simp] theorem source_settleReports (i j : Src) (s : State) : (s.settleReports i).source j = s.source j := rfl

@[simp] theorem source_shiftReport (i j : Src) (role : SrcState) (s : State) :
    (s.shiftReport i role).source j = s.source j := rfl

@[simp] theorem source_raiseReport (i j : Src) (role : SrcState) (s : State) :
    (s.raiseReport i role).source j = s.source j := rfl

/-- R110: the report of a source that a change found in FAULT carries the change. -/
@[simp] theorem source_spoil (i j : Src) (x : Spoiled) (s : State) : (s.spoil i x).source j = s.source j := rfl

@[simp] theorem reports_raiseReport (i j : Src) (role : SrcState) (s : State) :
    (s.raiseReport i role).zc.reports.get j =
      if j = i then s.zc.reports.get i ++ [⟨role, none⟩] else s.zc.reports.get j := get_set ..

@[simp] theorem reports_shiftReport (i j : Src) (role : SrcState) (s : State) :
    (s.shiftReport i role).zc.reports.get j =
      if j = i then shiftReports role (s.zc.reports.get i) else s.zc.reports.get j := get_set ..

@[simp] theorem reports_settleReports (i j : Src) (s : State) :
    (s.settleReports i).zc.reports.get j =
      if j = i then (s.zc.reports.get i).map Report.settled else s.zc.reports.get j := get_set ..

@[simp] theorem reports_spoil (i j : Src) (x : Spoiled) (s : State) :
    (s.spoil i x).zc.reports.get j =
      if j = i then spoilReports x (s.zc.reports.get i) else s.zc.reports.get j := get_set ..

/-- R11: a role change touches its own source only. -/
theorem source_setRole_ne (i j : Src) (role : SrcState) (s : State) (h : j ≠ i) :
    (s.setRole i role).source j = s.source j := by
  unfold State.setRole State.takeRole
  repeat' split
  all_goals simp [h]

/-- R11: a source that is WARM or in a role takes the role it is given. -/
theorem state_setRole (i : Src) (role : SrcState) (s : State) (h : (s.source i).state.usable = true) :
    ((s.setRole i role).source i).state = role := by
  unfold State.setRole State.takeRole
  rw [if_pos h]
  split
  · simpa using ‹_›
  · simp

/-- R12: a source that is not WARM or in a role is left as it stands. -/
theorem source_setRole_lost (i : Src) (role : SrcState) (s : State) (h : (s.source i).state.usable = false) (j : Src) :
    (s.setRole i role).source j = s.source j := by
  unfold State.setRole
  simp [h]


end Sys2Proof.Machine
end

