-- ==== Sys2Proof/Laws/Intake.lean ====
section
/-! SUPPORT. What each operation of frame intake, of the source requests and of the calibration lists leaves
unchanged. -/

namespace Sys2Proof.Machine

/-! Frame intake -/

@[simp] theorem postReceiver_keeps (i : Src) (p : Payload) (s : State) :
    (s.postReceiver i p).cru = s.cru ∧ (s.postReceiver i p).link = s.link ∧
    (s.postReceiver i p).sources = s.sources ∧ (s.postReceiver i p).receivers = s.receivers ∧
    (s.postReceiver i p).fs = s.fs ∧ (s.postReceiver i p).gu = s.gu ∧ (s.postReceiver i p).zc = s.zc ∧
    (s.postReceiver i p).cp = s.cp ∧ (s.postReceiver i p).op = s.op ∧ (s.postReceiver i p).cc = s.cc ∧
    (s.postReceiver i p).pending = s.pending := by
  unfold State.postReceiver
  (repeat' split) <;> simp

@[simp] theorem eighthBadFrame_keeps (i : Src) (s : State) :
    (s.eighthBadFrame i).cru.resetHeld = s.cru.resetHeld ∧ (s.eighthBadFrame i).cru.straps = s.cru.straps ∧
    (s.eighthBadFrame i).cru.lock = s.cru.lock ∧ (s.eighthBadFrame i).cru.time = s.cru.time ∧
    (s.eighthBadFrame i).cru.linkResetAt = s.cru.linkResetAt ∧ (s.eighthBadFrame i).link = s.link ∧
    (s.eighthBadFrame i).fs.slots = s.fs.slots ∧ (s.eighthBadFrame i).gu = s.gu ∧
    (s.eighthBadFrame i).zc.ladder = s.zc.ladder ∧ (s.eighthBadFrame i).zc.target = s.zc.target ∧
    (s.eighthBadFrame i).zc.shown = s.zc.shown ∧ (s.eighthBadFrame i).zc.rate = s.zc.rate ∧
    (s.eighthBadFrame i).zc.held = s.zc.held ∧ (s.eighthBadFrame i).zc.pinned = s.zc.pinned ∧
    (s.eighthBadFrame i).zc.bounds = s.zc.bounds ∧ (s.eighthBadFrame i).zc.record = s.zc.record ∧
    (s.eighthBadFrame i).cp = s.cp ∧ (s.eighthBadFrame i).op = s.op ∧ (s.eighthBadFrame i).cc = s.cc ∧
    (s.eighthBadFrame i).pending = s.pending := by
  unfold State.eighthBadFrame
  (repeat' split) <;> simp

@[simp] theorem badFrame_keeps (i : Src) (cause : BadCause) (lines : Nat) (counter : Option Half) (s : State) :
    (s.badFrame i cause lines counter).cru.resetHeld = s.cru.resetHeld ∧
    (s.badFrame i cause lines counter).cru.straps = s.cru.straps ∧
    (s.badFrame i cause lines counter).cru.lock = s.cru.lock ∧
    (s.badFrame i cause lines counter).cru.time = s.cru.time ∧
    (s.badFrame i cause lines counter).cru.linkResetAt = s.cru.linkResetAt ∧
    (s.badFrame i cause lines counter).link = s.link ∧ (s.badFrame i cause lines counter).fs.slots = s.fs.slots ∧
    (s.badFrame i cause lines counter).gu = s.gu ∧ (s.badFrame i cause lines counter).zc.ladder = s.zc.ladder ∧
    (s.badFrame i cause lines counter).zc.target = s.zc.target ∧
    (s.badFrame i cause lines counter).zc.shown = s.zc.shown ∧
    (s.badFrame i cause lines counter).zc.rate = s.zc.rate ∧
    (s.badFrame i cause lines counter).zc.held = s.zc.held ∧
    (s.badFrame i cause lines counter).zc.pinned = s.zc.pinned ∧
    (s.badFrame i cause lines counter).zc.bounds = s.zc.bounds ∧
    (s.badFrame i cause lines counter).zc.record = s.zc.record ∧ (s.badFrame i cause lines counter).cp = s.cp ∧
    (s.badFrame i cause lines counter).op = s.op ∧ (s.badFrame i cause lines counter).cc = s.cc ∧
    (s.badFrame i cause lines counter).pending = s.pending := by
  unfold State.badFrame
  try dsimp only
  (repeat' split) <;> simp

@[simp] theorem setIntake_keeps (i : Src) (x : Intake) (s : State) :
    (s.setIntake i x).cru = s.cru ∧ (s.setIntake i x).link = s.link ∧ (s.setIntake i x).nq = s.nq ∧
    (s.setIntake i x).sources = s.sources ∧ (s.setIntake i x).fs = s.fs ∧ (s.setIntake i x).gu = s.gu ∧
    (s.setIntake i x).zc = s.zc ∧ (s.setIntake i x).cp = s.cp ∧ (s.setIntake i x).op = s.op ∧
    (s.setIntake i x).cc = s.cc ∧ (s.setIntake i x).pending = s.pending :=
  ⟨rfl, rfl, rfl, rfl, rfl, rfl, rfl, rfl, rfl, rfl, rfl⟩

@[simp] theorem cutOff_keeps (i : Src) (s : State) :
    (s.cutOff i).cru.resetHeld = s.cru.resetHeld ∧ (s.cutOff i).cru.straps = s.cru.straps ∧
    (s.cutOff i).cru.lock = s.cru.lock ∧ (s.cutOff i).cru.time = s.cru.time ∧
    (s.cutOff i).cru.linkResetAt = s.cru.linkResetAt ∧ (s.cutOff i).link = s.link ∧
    (s.cutOff i).fs.slots = s.fs.slots ∧ (s.cutOff i).gu = s.gu ∧ (s.cutOff i).zc.ladder = s.zc.ladder ∧
    (s.cutOff i).zc.target = s.zc.target ∧ (s.cutOff i).zc.shown = s.zc.shown ∧ (s.cutOff i).zc.rate = s.zc.rate ∧
    (s.cutOff i).zc.held = s.zc.held ∧ (s.cutOff i).zc.pinned = s.zc.pinned ∧
    (s.cutOff i).zc.bounds = s.zc.bounds ∧ (s.cutOff i).zc.record = s.zc.record ∧ (s.cutOff i).cp = s.cp ∧
    (s.cutOff i).op = s.op ∧ (s.cutOff i).cc = s.cc ∧ (s.cutOff i).pending = s.pending := by
  unfold State.cutOff
  (repeat' split) <;> simp

@[simp] theorem appendFrame_keeps (i : Src) (s : State) :
    (s.appendFrame i).cru = s.cru ∧ (s.appendFrame i).link = s.link ∧ (s.appendFrame i).nq = s.nq ∧
    (s.appendFrame i).sources = s.sources ∧ (s.appendFrame i).gu = s.gu ∧ (s.appendFrame i).zc = s.zc ∧
    (s.appendFrame i).cp = s.cp ∧ (s.appendFrame i).op = s.op ∧ (s.appendFrame i).cc = s.cc ∧
    (s.appendFrame i).pending = s.pending := by
  unfold State.appendFrame
  (repeat' split) <;> simp

@[simp] theorem openFrame_keeps (i : Src) (s : State) :
    (s.openFrame i).cru = s.cru ∧ (s.openFrame i).link = s.link ∧ (s.openFrame i).nq = s.nq ∧
    (s.openFrame i).sources = s.sources ∧ (s.openFrame i).gu = s.gu ∧ (s.openFrame i).zc = s.zc ∧
    (s.openFrame i).cp = s.cp ∧ (s.openFrame i).op = s.op ∧ (s.openFrame i).cc = s.cc ∧
    (s.openFrame i).pending = s.pending := by
  unfold State.openFrame
  (repeat' split) <;> simp

@[simp] theorem frameStart_keeps (i : Src) (s : State) :
    (s.frameStart i).cru.resetHeld = s.cru.resetHeld ∧ (s.frameStart i).cru.straps = s.cru.straps ∧
    (s.frameStart i).cru.lock = s.cru.lock ∧ (s.frameStart i).cru.time = s.cru.time ∧
    (s.frameStart i).cru.linkResetAt = s.cru.linkResetAt ∧ (s.frameStart i).link = s.link ∧
    (s.frameStart i).gu = s.gu ∧ (s.frameStart i).zc.ladder = s.zc.ladder ∧
    (s.frameStart i).zc.target = s.zc.target ∧ (s.frameStart i).zc.shown = s.zc.shown ∧
    (s.frameStart i).zc.rate = s.zc.rate ∧ (s.frameStart i).zc.held = s.zc.held ∧
    (s.frameStart i).zc.pinned = s.zc.pinned ∧ (s.frameStart i).zc.bounds = s.zc.bounds ∧
    (s.frameStart i).zc.record = s.zc.record ∧ (s.frameStart i).cp = s.cp ∧ (s.frameStart i).op = s.op ∧
    (s.frameStart i).cc = s.cc ∧ (s.frameStart i).pending = s.pending := by
  unfold State.frameStart
  (repeat' split) <;> simp

@[simp] theorem frameLoss_keeps (i : Src) (c : Half) (s : State) :
    (s.frameLoss i c).cru = s.cru ∧ (s.frameLoss i c).link = s.link ∧ (s.frameLoss i c).sources = s.sources ∧
    (s.frameLoss i c).receivers = s.receivers ∧ (s.frameLoss i c).fs = s.fs ∧ (s.frameLoss i c).gu = s.gu ∧
    (s.frameLoss i c).zc = s.zc ∧ (s.frameLoss i c).cp = s.cp ∧ (s.frameLoss i c).op = s.op ∧
    (s.frameLoss i c).cc = s.cc ∧ (s.frameLoss i c).pending = s.pending := by
  unfold State.frameLoss
  (repeat' split) <;> simp

@[simp] theorem writeMeta_keeps (i : Src) (m : MetaFields) (s : State) :
    (s.writeMeta i m).cru = s.cru ∧ (s.writeMeta i m).link = s.link ∧ (s.writeMeta i m).nq = s.nq ∧
    (s.writeMeta i m).sources = s.sources ∧ (s.writeMeta i m).receivers = s.receivers ∧
    (s.writeMeta i m).fs.slots = s.fs.slots ∧ (s.writeMeta i m).gu = s.gu ∧ (s.writeMeta i m).zc = s.zc ∧
    (s.writeMeta i m).cp = s.cp ∧ (s.writeMeta i m).op = s.op ∧ (s.writeMeta i m).cc = s.cc ∧
    (s.writeMeta i m).pending = s.pending :=
  ⟨rfl, rfl, rfl, rfl, rfl, rfl, rfl, rfl, rfl, rfl, rfl, rfl⟩

@[simp] theorem acceptMeta_keeps (i : Src) (m : MetaFields) (s : State) :
    (s.acceptMeta i m).cru = s.cru ∧ (s.acceptMeta i m).link = s.link ∧ (s.acceptMeta i m).sources = s.sources ∧
    (s.acceptMeta i m).fs.slots = s.fs.slots ∧ (s.acceptMeta i m).gu = s.gu ∧ (s.acceptMeta i m).zc = s.zc ∧
    (s.acceptMeta i m).cp = s.cp ∧ (s.acceptMeta i m).op = s.op ∧ (s.acceptMeta i m).cc = s.cc ∧
    (s.acceptMeta i m).pending = s.pending := by
  simp [State.acceptMeta]

@[simp] theorem takeMeta_keeps (i : Src) (pixels : List Pixel) (s : State) :
    (s.takeMeta i pixels).cru.resetHeld = s.cru.resetHeld ∧ (s.takeMeta i pixels).cru.straps = s.cru.straps ∧
    (s.takeMeta i pixels).cru.lock = s.cru.lock ∧ (s.takeMeta i pixels).cru.time = s.cru.time ∧
    (s.takeMeta i pixels).cru.linkResetAt = s.cru.linkResetAt ∧ (s.takeMeta i pixels).link = s.link ∧
    (s.takeMeta i pixels).fs.slots = s.fs.slots ∧ (s.takeMeta i pixels).gu = s.gu ∧
    (s.takeMeta i pixels).zc.ladder = s.zc.ladder ∧ (s.takeMeta i pixels).zc.target = s.zc.target ∧
    (s.takeMeta i pixels).zc.shown = s.zc.shown ∧ (s.takeMeta i pixels).zc.rate = s.zc.rate ∧
    (s.takeMeta i pixels).zc.held = s.zc.held ∧ (s.takeMeta i pixels).zc.pinned = s.zc.pinned ∧
    (s.takeMeta i pixels).zc.bounds = s.zc.bounds ∧ (s.takeMeta i pixels).zc.record = s.zc.record ∧
    (s.takeMeta i pixels).cp = s.cp ∧ (s.takeMeta i pixels).op = s.op ∧ (s.takeMeta i pixels).cc = s.cc ∧
    (s.takeMeta i pixels).pending = s.pending := by
  unfold State.takeMeta
  (repeat' split) <;> simp

@[simp] theorem storeLine_keeps (i : Src) (r : FrameRec) (line : List Pixel) (s : State) :
    (s.storeLine i r line).cru = s.cru ∧ (s.storeLine i r line).link = s.link ∧ (s.storeLine i r line).nq = s.nq ∧
    (s.storeLine i r line).sources = s.sources ∧ (s.storeLine i r line).fs.rings = s.fs.rings ∧
    (s.storeLine i r line).gu = s.gu ∧ (s.storeLine i r line).zc = s.zc ∧ (s.storeLine i r line).cp = s.cp ∧
    (s.storeLine i r line).op = s.op ∧ (s.storeLine i r line).cc = s.cc ∧
    (s.storeLine i r line).pending = s.pending :=
  ⟨rfl, rfl, rfl, rfl, rfl, rfl, rfl, rfl, rfl, rfl, rfl⟩

@[simp] theorem countLine_keeps (i : Src) (s : State) :
    (s.countLine i).cru = s.cru ∧ (s.countLine i).link = s.link ∧ (s.countLine i).nq = s.nq ∧
    (s.countLine i).sources = s.sources ∧ (s.countLine i).fs = s.fs ∧ (s.countLine i).gu = s.gu ∧
    (s.countLine i).zc = s.zc ∧ (s.countLine i).cp = s.cp ∧ (s.countLine i).op = s.op ∧ (s.countLine i).cc = s.cc ∧
    (s.countLine i).pending = s.pending :=
  ⟨rfl, rfl, rfl, rfl, rfl, rfl, rfl, rfl, rfl, rfl, rfl⟩

@[simp] theorem takeImage_keeps (i : Src) (pixels : List Pixel) (s : State) :
    (s.takeImage i pixels).cru = s.cru ∧ (s.takeImage i pixels).link = s.link ∧ (s.takeImage i pixels).nq = s.nq ∧
    (s.takeImage i pixels).sources = s.sources ∧ (s.takeImage i pixels).fs.rings = s.fs.rings ∧
    (s.takeImage i pixels).gu = s.gu ∧ (s.takeImage i pixels).zc = s.zc ∧ (s.takeImage i pixels).cp = s.cp ∧
    (s.takeImage i pixels).op = s.op ∧ (s.takeImage i pixels).cc = s.cc ∧
    (s.takeImage i pixels).pending = s.pending := by
  unfold State.takeImage
  (repeat' split) <;> simp

@[simp] theorem takeLine_keeps (i : Src) (pixels : List Pixel) (s : State) :
    (s.takeLine i pixels).cru.resetHeld = s.cru.resetHeld ∧ (s.takeLine i pixels).cru.straps = s.cru.straps ∧
    (s.takeLine i pixels).cru.lock = s.cru.lock ∧ (s.takeLine i pixels).cru.time = s.cru.time ∧
    (s.takeLine i pixels).cru.linkResetAt = s.cru.linkResetAt ∧ (s.takeLine i pixels).link = s.link ∧
    (s.takeLine i pixels).gu = s.gu ∧ (s.takeLine i pixels).zc.ladder = s.zc.ladder ∧
    (s.takeLine i pixels).zc.target = s.zc.target ∧ (s.takeLine i pixels).zc.shown = s.zc.shown ∧
    (s.takeLine i pixels).zc.rate = s.zc.rate ∧ (s.takeLine i pixels).zc.held = s.zc.held ∧
    (s.takeLine i pixels).zc.pinned = s.zc.pinned ∧ (s.takeLine i pixels).zc.bounds = s.zc.bounds ∧
    (s.takeLine i pixels).zc.record = s.zc.record ∧ (s.takeLine i pixels).cp = s.cp ∧
    (s.takeLine i pixels).op = s.op ∧ (s.takeLine i pixels).cc = s.cc ∧ (s.takeLine i pixels).pending = s.pending := by
  unfold State.takeLine
  (repeat' split) <;> simp

@[simp] theorem firstReady_keeps (i : Src) (s : State) :
    (s.firstReady i).cru.resetHeld = s.cru.resetHeld ∧ (s.firstReady i).cru.straps = s.cru.straps ∧
    (s.firstReady i).cru.lock = s.cru.lock ∧ (s.firstReady i).cru.time = s.cru.time ∧
    (s.firstReady i).cru.linkResetAt = s.cru.linkResetAt ∧ (s.firstReady i).link = s.link ∧
    (s.firstReady i).fs.slots = s.fs.slots ∧ (s.firstReady i).gu = s.gu ∧ (s.firstReady i).zc = s.zc ∧
    (s.firstReady i).cp = s.cp ∧ (s.firstReady i).op = s.op ∧ (s.firstReady i).cc = s.cc ∧
    (s.firstReady i).pending = s.pending := by
  unfold State.firstReady
  (repeat' split) <;> simp

@[simp] theorem goodFrame_keeps (i : Src) (s : State) :
    (s.goodFrame i).cru.resetHeld = s.cru.resetHeld ∧ (s.goodFrame i).cru.straps = s.cru.straps ∧
    (s.goodFrame i).cru.lock = s.cru.lock ∧ (s.goodFrame i).cru.time = s.cru.time ∧
    (s.goodFrame i).cru.linkResetAt = s.cru.linkResetAt ∧ (s.goodFrame i).link = s.link ∧
    (s.goodFrame i).fs.slots = s.fs.slots ∧ (s.goodFrame i).gu = s.gu ∧ (s.goodFrame i).zc = s.zc ∧
    (s.goodFrame i).cp = s.cp ∧ (s.goodFrame i).op = s.op ∧ (s.goodFrame i).cc = s.cc ∧
    (s.goodFrame i).pending = s.pending := by
  simp [State.goodFrame]

@[simp] theorem lineCountFault_keeps (i : Src) (s : State) :
    (s.lineCountFault i).cru.resetHeld = s.cru.resetHeld ∧ (s.lineCountFault i).cru.straps = s.cru.straps ∧
    (s.lineCountFault i).cru.lock = s.cru.lock ∧ (s.lineCountFault i).cru.time = s.cru.time ∧
    (s.lineCountFault i).cru.linkResetAt = s.cru.linkResetAt ∧ (s.lineCountFault i).link = s.link ∧
    (s.lineCountFault i).fs.slots = s.fs.slots ∧ (s.lineCountFault i).gu = s.gu ∧
    (s.lineCountFault i).zc.ladder = s.zc.ladder ∧ (s.lineCountFault i).zc.target = s.zc.target ∧
    (s.lineCountFault i).zc.shown = s.zc.shown ∧ (s.lineCountFault i).zc.rate = s.zc.rate ∧
    (s.lineCountFault i).zc.held = s.zc.held ∧ (s.lineCountFault i).zc.pinned = s.zc.pinned ∧
    (s.lineCountFault i).zc.bounds = s.zc.bounds ∧ (s.lineCountFault i).zc.record = s.zc.record ∧
    (s.lineCountFault i).cp = s.cp ∧ (s.lineCountFault i).op = s.op ∧ (s.lineCountFault i).cc = s.cc ∧
    (s.lineCountFault i).pending = s.pending := by
  simp [State.lineCountFault]

@[simp] theorem frameEnd_keeps (i : Src) (s : State) :
    (s.frameEnd i).cru.resetHeld = s.cru.resetHeld ∧ (s.frameEnd i).cru.straps = s.cru.straps ∧
    (s.frameEnd i).cru.lock = s.cru.lock ∧ (s.frameEnd i).cru.time = s.cru.time ∧
    (s.frameEnd i).cru.linkResetAt = s.cru.linkResetAt ∧ (s.frameEnd i).link = s.link ∧
    (s.frameEnd i).fs.slots = s.fs.slots ∧ (s.frameEnd i).gu = s.gu ∧ (s.frameEnd i).zc.ladder = s.zc.ladder ∧
    (s.frameEnd i).zc.target = s.zc.target ∧ (s.frameEnd i).zc.shown = s.zc.shown ∧
    (s.frameEnd i).zc.rate = s.zc.rate ∧ (s.frameEnd i).zc.held = s.zc.held ∧
    (s.frameEnd i).zc.pinned = s.zc.pinned ∧ (s.frameEnd i).zc.bounds = s.zc.bounds ∧
    (s.frameEnd i).zc.record = s.zc.record ∧ (s.frameEnd i).cp = s.cp ∧ (s.frameEnd i).op = s.op ∧
    (s.frameEnd i).cc = s.cc ∧ (s.frameEnd i).pending = s.pending := by
  unfold State.frameEnd
  (repeat' split) <;> simp

/-! Sources -/

@[simp] theorem enterSyncing_keeps (i : Src) (s : State) :
    (s.enterSyncing i).cru = s.cru ∧ (s.enterSyncing i).link = s.link ∧
    (s.enterSyncing i).receivers = s.receivers ∧ (s.enterSyncing i).fs = s.fs ∧ (s.enterSyncing i).gu = s.gu ∧
    (s.enterSyncing i).zc = s.zc ∧ (s.enterSyncing i).cp = s.cp ∧ (s.enterSyncing i).op = s.op ∧
    (s.enterSyncing i).cc = s.cc ∧ (s.enterSyncing i).pending = s.pending := by
  simp [State.enterSyncing]

@[simp] theorem settleExpiry_keeps (i : Src) (s : State) :
    (s.settleExpiry i).cru.resetHeld = s.cru.resetHeld ∧ (s.settleExpiry i).cru.straps = s.cru.straps ∧
    (s.settleExpiry i).cru.lock = s.cru.lock ∧ (s.settleExpiry i).cru.test = s.cru.test ∧
    (s.settleExpiry i).cru.linkResetAt = s.cru.linkResetAt ∧ (s.settleExpiry i).link = s.link ∧
    (s.settleExpiry i).receivers = s.receivers ∧ (s.settleExpiry i).fs = s.fs ∧ (s.settleExpiry i).gu = s.gu ∧
    (s.settleExpiry i).zc = s.zc ∧ (s.settleExpiry i).cp = s.cp ∧ (s.settleExpiry i).op = s.op ∧
    (s.settleExpiry i).cc = s.cc ∧ (s.settleExpiry i).pending = s.pending := by
  unfold State.settleExpiry
  (repeat' split) <;> simp

@[simp] theorem syncFailed_keeps (i : Src) (s : State) :
    (s.syncFailed i).cru.resetHeld = s.cru.resetHeld ∧ (s.syncFailed i).cru.straps = s.cru.straps ∧
    (s.syncFailed i).cru.lock = s.cru.lock ∧ (s.syncFailed i).cru.time = s.cru.time ∧
    (s.syncFailed i).cru.linkResetAt = s.cru.linkResetAt ∧ (s.syncFailed i).link = s.link ∧
    (s.syncFailed i).fs.slots = s.fs.slots ∧ (s.syncFailed i).gu = s.gu ∧
    (s.syncFailed i).zc.ladder = s.zc.ladder ∧ (s.syncFailed i).zc.target = s.zc.target ∧
    (s.syncFailed i).zc.shown = s.zc.shown ∧ (s.syncFailed i).zc.rate = s.zc.rate ∧
    (s.syncFailed i).zc.held = s.zc.held ∧ (s.syncFailed i).zc.pinned = s.zc.pinned ∧
    (s.syncFailed i).zc.bounds = s.zc.bounds ∧ (s.syncFailed i).zc.record = s.zc.record ∧
    (s.syncFailed i).cp = s.cp ∧ (s.syncFailed i).op = s.op ∧ (s.syncFailed i).cc = s.cc ∧
    (s.syncFailed i).pending = s.pending := by
  unfold State.syncFailed
  (repeat' split) <;> simp

@[simp] theorem syncExpiry_keeps (i : Src) (s : State) :
    (s.syncExpiry i).cru.resetHeld = s.cru.resetHeld ∧ (s.syncExpiry i).cru.straps = s.cru.straps ∧
    (s.syncExpiry i).cru.lock = s.cru.lock ∧ (s.syncExpiry i).cru.linkResetAt = s.cru.linkResetAt ∧
    (s.syncExpiry i).link = s.link ∧ (s.syncExpiry i).fs.slots = s.fs.slots ∧ (s.syncExpiry i).gu = s.gu ∧
    (s.syncExpiry i).zc.ladder = s.zc.ladder ∧ (s.syncExpiry i).zc.target = s.zc.target ∧
    (s.syncExpiry i).zc.shown = s.zc.shown ∧ (s.syncExpiry i).zc.rate = s.zc.rate ∧
    (s.syncExpiry i).zc.held = s.zc.held ∧ (s.syncExpiry i).zc.pinned = s.zc.pinned ∧
    (s.syncExpiry i).zc.bounds = s.zc.bounds ∧ (s.syncExpiry i).zc.record = s.zc.record ∧
    (s.syncExpiry i).cp = s.cp ∧ (s.syncExpiry i).op = s.op ∧ (s.syncExpiry i).cc = s.cc ∧
    (s.syncExpiry i).pending = s.pending := by
  unfold State.syncExpiry
  (repeat' split) <;> simp

@[simp] theorem frameTimeout_keeps (i : Src) (s : State) :
    (s.frameTimeout i).cru.resetHeld = s.cru.resetHeld ∧ (s.frameTimeout i).cru.straps = s.cru.straps ∧
    (s.frameTimeout i).cru.lock = s.cru.lock ∧ (s.frameTimeout i).cru.test = s.cru.test ∧
    (s.frameTimeout i).cru.linkResetAt = s.cru.linkResetAt ∧ (s.frameTimeout i).link = s.link ∧
    (s.frameTimeout i).fs.slots = s.fs.slots ∧ (s.frameTimeout i).gu = s.gu ∧
    (s.frameTimeout i).zc.ladder = s.zc.ladder ∧ (s.frameTimeout i).zc.target = s.zc.target ∧
    (s.frameTimeout i).zc.shown = s.zc.shown ∧ (s.frameTimeout i).zc.rate = s.zc.rate ∧
    (s.frameTimeout i).zc.held = s.zc.held ∧ (s.frameTimeout i).zc.pinned = s.zc.pinned ∧
    (s.frameTimeout i).zc.bounds = s.zc.bounds ∧ (s.frameTimeout i).zc.record = s.zc.record ∧
    (s.frameTimeout i).cp = s.cp ∧ (s.frameTimeout i).op = s.op ∧ (s.frameTimeout i).cc = s.cc ∧
    (s.frameTimeout i).pending = s.pending := by
  unfold State.frameTimeout
  (repeat' split) <;> simp

@[simp] theorem idleExpiry_keeps (i : Src) (s : State) :
    (s.idleExpiry i).cru.resetHeld = s.cru.resetHeld ∧ (s.idleExpiry i).cru.straps = s.cru.straps ∧
    (s.idleExpiry i).cru.lock = s.cru.lock ∧ (s.idleExpiry i).cru.test = s.cru.test ∧
    (s.idleExpiry i).cru.linkResetAt = s.cru.linkResetAt ∧ (s.idleExpiry i).link = s.link ∧
    (s.idleExpiry i).fs.slots = s.fs.slots ∧ (s.idleExpiry i).gu = s.gu ∧ (s.idleExpiry i).zc = s.zc ∧
    (s.idleExpiry i).cp = s.cp ∧ (s.idleExpiry i).op = s.op ∧ (s.idleExpiry i).cc = s.cc ∧
    (s.idleExpiry i).pending = s.pending := by
  unfold State.idleExpiry
  (repeat' split) <;> simp

@[simp] theorem define_keeps (i : Src) (d : Description) (s : State) :
    (s.define i d).state.cru = s.cru ∧ (s.define i d).state.link = s.link ∧ (s.define i d).state.nq = s.nq ∧
    (s.define i d).state.receivers = s.receivers ∧ (s.define i d).state.fs = s.fs ∧
    (s.define i d).state.gu.cal = s.gu.cal ∧ (s.define i d).state.zc = s.zc ∧ (s.define i d).state.cp = s.cp ∧
    (s.define i d).state.op = s.op ∧ (s.define i d).state.cc = s.cc ∧ (s.define i d).state.pending = s.pending := by
  unfold State.define
  (repeat' split) <;> simp

@[simp] theorem sourceDefine_keeps (src : Byte) (d : Description) (s : State) :
    (s.sourceDefine src d).state.cru = s.cru ∧ (s.sourceDefine src d).state.link = s.link ∧
    (s.sourceDefine src d).state.nq = s.nq ∧ (s.sourceDefine src d).state.receivers = s.receivers ∧
    (s.sourceDefine src d).state.fs = s.fs ∧ (s.sourceDefine src d).state.gu.cal = s.gu.cal ∧
    (s.sourceDefine src d).state.zc = s.zc ∧ (s.sourceDefine src d).state.cp = s.cp ∧
    (s.sourceDefine src d).state.op = s.op ∧ (s.sourceDefine src d).state.cc = s.cc ∧
    (s.sourceDefine src d).state.pending = s.pending := by
  unfold State.sourceDefine
  (repeat' split) <;> simp

@[simp] theorem wakeKnown_keeps (i : Src) (s : State) :
    (s.wakeKnown i).state.cru = s.cru ∧ (s.wakeKnown i).state.link = s.link ∧
    (s.wakeKnown i).state.receivers = s.receivers ∧ (s.wakeKnown i).state.fs = s.fs ∧
    (s.wakeKnown i).state.gu = s.gu ∧ (s.wakeKnown i).state.zc = s.zc ∧ (s.wakeKnown i).state.cp = s.cp ∧
    (s.wakeKnown i).state.op = s.op ∧ (s.wakeKnown i).state.cc = s.cc ∧ (s.wakeKnown i).state.pending = s.pending := by
  unfold State.wakeKnown
  (repeat' split) <;> simp

@[simp] theorem powerWake_keeps (src : Byte) (s : State) :
    (s.powerWake src).state.cru = s.cru ∧ (s.powerWake src).state.link = s.link ∧
    (s.powerWake src).state.receivers = s.receivers ∧ (s.powerWake src).state.fs = s.fs ∧
    (s.powerWake src).state.gu = s.gu ∧ (s.powerWake src).state.zc = s.zc ∧ (s.powerWake src).state.cp = s.cp ∧
    (s.powerWake src).state.op = s.op ∧ (s.powerWake src).state.cc = s.cc ∧
    (s.powerWake src).state.pending = s.pending := by
  unfold State.powerWake
  (repeat' split) <;> simp

@[simp] theorem freeAndPark_keeps (i : Src) (s : State) :
    (s.freeAndPark i).cru = s.cru ∧ (s.freeAndPark i).link = s.link ∧ (s.freeAndPark i).fs.slots = s.fs.slots ∧
    (s.freeAndPark i).gu = s.gu ∧ (s.freeAndPark i).zc.ladder = s.zc.ladder ∧
    (s.freeAndPark i).zc.target = s.zc.target ∧ (s.freeAndPark i).zc.shown = s.zc.shown ∧
    (s.freeAndPark i).zc.rate = s.zc.rate ∧ (s.freeAndPark i).zc.held = s.zc.held ∧
    (s.freeAndPark i).zc.pinned = s.zc.pinned ∧ (s.freeAndPark i).zc.bounds = s.zc.bounds ∧
    (s.freeAndPark i).zc.reports = s.zc.reports ∧ (s.freeAndPark i).cp = s.cp ∧ (s.freeAndPark i).op = s.op ∧
    (s.freeAndPark i).cc = s.cc ∧ (s.freeAndPark i).pending = s.pending := by
  unfold State.freeAndPark
  (repeat' split) <;> simp

@[simp] theorem parkKnown_keeps (i : Src) (s : State) :
    (s.parkKnown i).state.cru = s.cru ∧ (s.parkKnown i).state.link = s.link ∧
    (s.parkKnown i).state.fs.slots = s.fs.slots ∧ (s.parkKnown i).state.gu = s.gu ∧
    (s.parkKnown i).state.zc.ladder = s.zc.ladder ∧ (s.parkKnown i).state.zc.target = s.zc.target ∧
    (s.parkKnown i).state.zc.shown = s.zc.shown ∧ (s.parkKnown i).state.zc.rate = s.zc.rate ∧
    (s.parkKnown i).state.zc.held = s.zc.held ∧ (s.parkKnown i).state.zc.pinned = s.zc.pinned ∧
    (s.parkKnown i).state.zc.bounds = s.zc.bounds ∧ (s.parkKnown i).state.zc.reports = s.zc.reports ∧
    (s.parkKnown i).state.cp = s.cp ∧ (s.parkKnown i).state.op = s.op ∧ (s.parkKnown i).state.cc = s.cc ∧
    (s.parkKnown i).state.pending = s.pending := by
  unfold State.parkKnown
  (repeat' split) <;> simp

@[simp] theorem powerPark_keeps (src : Byte) (s : State) :
    (s.powerPark src).state.cru = s.cru ∧ (s.powerPark src).state.link = s.link ∧
    (s.powerPark src).state.fs.slots = s.fs.slots ∧ (s.powerPark src).state.gu = s.gu ∧
    (s.powerPark src).state.zc.ladder = s.zc.ladder ∧ (s.powerPark src).state.zc.target = s.zc.target ∧
    (s.powerPark src).state.zc.shown = s.zc.shown ∧ (s.powerPark src).state.zc.rate = s.zc.rate ∧
    (s.powerPark src).state.zc.held = s.zc.held ∧ (s.powerPark src).state.zc.pinned = s.zc.pinned ∧
    (s.powerPark src).state.zc.bounds = s.zc.bounds ∧ (s.powerPark src).state.zc.reports = s.zc.reports ∧
    (s.powerPark src).state.cp = s.cp ∧ (s.powerPark src).state.op = s.op ∧ (s.powerPark src).state.cc = s.cc ∧
    (s.powerPark src).state.pending = s.pending := by
  unfold State.powerPark
  (repeat' split) <;> simp

@[simp] theorem sourceQuery_keeps (src : Byte) (s : State) :
    (s.sourceQuery src).state.cru = s.cru ∧ (s.sourceQuery src).state.link = s.link ∧
    (s.sourceQuery src).state.nq = s.nq ∧ (s.sourceQuery src).state.sources = s.sources ∧
    (s.sourceQuery src).state.receivers = s.receivers ∧ (s.sourceQuery src).state.fs = s.fs ∧
    (s.sourceQuery src).state.gu = s.gu ∧ (s.sourceQuery src).state.zc = s.zc ∧
    (s.sourceQuery src).state.cp = s.cp ∧ (s.sourceQuery src).state.op = s.op ∧
    (s.sourceQuery src).state.cc = s.cc ∧ (s.sourceQuery src).state.pending = s.pending := by
  unfold State.sourceQuery
  (repeat' split) <;> simp

/-! Calibration -/

@[simp] theorem calRunOn_keeps (i : Src) (start dir count : Byte) (points : List PointRec) (queryOnly : Bool) (s : State) :
    (s.calRunOn i start dir count points queryOnly).state.cru = s.cru ∧
    (s.calRunOn i start dir count points queryOnly).state.link = s.link ∧
    (s.calRunOn i start dir count points queryOnly).state.nq = s.nq ∧
    (s.calRunOn i start dir count points queryOnly).state.sources = s.sources ∧
    (s.calRunOn i start dir count points queryOnly).state.receivers = s.receivers ∧
    (s.calRunOn i start dir count points queryOnly).state.fs = s.fs ∧
    (s.calRunOn i start dir count points queryOnly).state.gu.windows = s.gu.windows ∧
    (s.calRunOn i start dir count points queryOnly).state.zc = s.zc ∧
    (s.calRunOn i start dir count points queryOnly).state.cp = s.cp ∧
    (s.calRunOn i start dir count points queryOnly).state.op = s.op ∧
    (s.calRunOn i start dir count points queryOnly).state.cc = s.cc ∧
    (s.calRunOn i start dir count points queryOnly).state.pending = s.pending := by
  unfold State.calRunOn
  (repeat' split) <;> simp

@[simp] theorem calRun_keeps (src start dir count : Byte) (points : List PointRec) (queryOnly : Bool) (s : State) :
    (s.calRun src start dir count points queryOnly).state.cru = s.cru ∧
    (s.calRun src start dir count points queryOnly).state.link = s.link ∧
    (s.calRun src start dir count points queryOnly).state.nq = s.nq ∧
    (s.calRun src start dir count points queryOnly).state.sources = s.sources ∧
    (s.calRun src start dir count points queryOnly).state.receivers = s.receivers ∧
    (s.calRun src start dir count points queryOnly).state.fs = s.fs ∧
    (s.calRun src start dir count points queryOnly).state.gu.windows = s.gu.windows ∧
    (s.calRun src start dir count points queryOnly).state.zc = s.zc ∧
    (s.calRun src start dir count points queryOnly).state.cp = s.cp ∧
    (s.calRun src start dir count points queryOnly).state.op = s.op ∧
    (s.calRun src start dir count points queryOnly).state.cc = s.cc ∧
    (s.calRun src start dir count points queryOnly).state.pending = s.pending := by
  unfold State.calRun
  (repeat' split) <;> simp

@[simp] theorem calRead_keeps (src : Byte) (s : State) :
    (s.calRead src).state.cru = s.cru ∧ (s.calRead src).state.link = s.link ∧ (s.calRead src).state.nq = s.nq ∧
    (s.calRead src).state.sources = s.sources ∧ (s.calRead src).state.receivers = s.receivers ∧
    (s.calRead src).state.fs = s.fs ∧ (s.calRead src).state.gu = s.gu ∧ (s.calRead src).state.zc = s.zc ∧
    (s.calRead src).state.cp = s.cp ∧ (s.calRead src).state.op = s.op ∧ (s.calRead src).state.cc = s.cc ∧
    (s.calRead src).state.pending = s.pending := by
  unfold State.calRead
  (repeat' split) <;> simp

end Sys2Proof.Machine
end

