-- ==== Sys2Proof/Laws/Handoff.lean ====
section
/-! SUPPORT. What each operation of the zoom controller and of hand-off leaves unchanged. -/

namespace Sys2Proof.Machine

/-! Ladder and zoom -/

@[simp] theorem takeLadder_keeps (l : Ladder) (s : State) :
    (s.takeLadder l).cru = s.cru ∧ (s.takeLadder l).link = s.link ∧ (s.takeLadder l).nq = s.nq ∧
    (s.takeLadder l).sources = s.sources ∧ (s.takeLadder l).receivers = s.receivers ∧ (s.takeLadder l).fs = s.fs ∧
    (s.takeLadder l).gu = s.gu ∧ (s.takeLadder l).zc.rate = s.zc.rate ∧ (s.takeLadder l).zc.held = s.zc.held ∧
    (s.takeLadder l).zc.bounds = s.zc.bounds ∧ (s.takeLadder l).zc.record = s.zc.record ∧
    (s.takeLadder l).zc.reports = s.zc.reports ∧ (s.takeLadder l).cp = s.cp ∧ (s.takeLadder l).op = s.op ∧
    (s.takeLadder l).cc = s.cc ∧ (s.takeLadder l).pending = s.pending :=
  ⟨rfl, rfl, rfl, rfl, rfl, rfl, rfl, rfl, rfl, rfl, rfl, rfl, rfl, rfl, rfl, rfl⟩

@[simp] theorem ladderSet_keeps (count : Byte) (rungs : List RungRec) (queryOnly : Bool) (s : State) :
    (s.ladderSet count rungs queryOnly).state.cru = s.cru ∧
    (s.ladderSet count rungs queryOnly).state.link = s.link ∧ (s.ladderSet count rungs queryOnly).state.nq = s.nq ∧
    (s.ladderSet count rungs queryOnly).state.sources = s.sources ∧
    (s.ladderSet count rungs queryOnly).state.receivers = s.receivers ∧
    (s.ladderSet count rungs queryOnly).state.fs = s.fs ∧ (s.ladderSet count rungs queryOnly).state.gu = s.gu ∧
    (s.ladderSet count rungs queryOnly).state.zc.rate = s.zc.rate ∧
    (s.ladderSet count rungs queryOnly).state.zc.held = s.zc.held ∧
    (s.ladderSet count rungs queryOnly).state.zc.bounds = s.zc.bounds ∧
    (s.ladderSet count rungs queryOnly).state.zc.record = s.zc.record ∧
    (s.ladderSet count rungs queryOnly).state.zc.reports = s.zc.reports ∧
    (s.ladderSet count rungs queryOnly).state.cp = s.cp ∧ (s.ladderSet count rungs queryOnly).state.op = s.op ∧
    (s.ladderSet count rungs queryOnly).state.cc = s.cc ∧
    (s.ladderSet count rungs queryOnly).state.pending = s.pending := by
  unfold State.ladderSet
  (repeat' split) <;> simp

@[simp] theorem zoomSet_keeps (target rate : Half) (s : State) :
    (s.zoomSet target rate).state.cru = s.cru ∧ (s.zoomSet target rate).state.link = s.link ∧
    (s.zoomSet target rate).state.nq = s.nq ∧ (s.zoomSet target rate).state.sources = s.sources ∧
    (s.zoomSet target rate).state.receivers = s.receivers ∧ (s.zoomSet target rate).state.fs = s.fs ∧
    (s.zoomSet target rate).state.gu = s.gu ∧ (s.zoomSet target rate).state.zc.ladder = s.zc.ladder ∧
    (s.zoomSet target rate).state.zc.held = s.zc.held ∧ (s.zoomSet target rate).state.zc.pinned = s.zc.pinned ∧
    (s.zoomSet target rate).state.zc.bounds = s.zc.bounds ∧ (s.zoomSet target rate).state.zc.record = s.zc.record ∧
    (s.zoomSet target rate).state.zc.reports = s.zc.reports ∧ (s.zoomSet target rate).state.cp = s.cp ∧
    (s.zoomSet target rate).state.op = s.op ∧ (s.zoomSet target rate).state.cc = s.cc ∧
    (s.zoomSet target rate).state.pending = s.pending := by
  unfold State.zoomSet
  (repeat' split) <;> simp

@[simp] theorem pinRunning_keeps (s : State) :
    (s.pinRunning).state.cru = s.cru ∧ (s.pinRunning).state.link = s.link ∧ (s.pinRunning).state.nq = s.nq ∧
    (s.pinRunning).state.receivers = s.receivers ∧ (s.pinRunning).state.fs = s.fs ∧
    (s.pinRunning).state.gu = s.gu ∧ (s.pinRunning).state.zc.ladder = s.zc.ladder ∧
    (s.pinRunning).state.zc.target = s.zc.target ∧ (s.pinRunning).state.zc.shown = s.zc.shown ∧
    (s.pinRunning).state.zc.rate = s.zc.rate ∧ (s.pinRunning).state.zc.held = s.zc.held ∧
    (s.pinRunning).state.zc.bounds = s.zc.bounds ∧ (s.pinRunning).state.zc.reports = s.zc.reports ∧
    (s.pinRunning).state.cp = s.cp ∧ (s.pinRunning).state.op = s.op ∧ (s.pinRunning).state.cc = s.cc ∧
    (s.pinRunning).state.pending = s.pending := by
  unfold State.pinRunning
  (repeat' split) <;> simp

@[simp] theorem pinOn_keeps (s : State) :
    (s.pinOn).state.cru = s.cru ∧ (s.pinOn).state.link = s.link ∧ (s.pinOn).state.nq = s.nq ∧
    (s.pinOn).state.receivers = s.receivers ∧ (s.pinOn).state.fs = s.fs ∧ (s.pinOn).state.gu = s.gu ∧
    (s.pinOn).state.zc.ladder = s.zc.ladder ∧ (s.pinOn).state.zc.target = s.zc.target ∧
    (s.pinOn).state.zc.shown = s.zc.shown ∧ (s.pinOn).state.zc.rate = s.zc.rate ∧
    (s.pinOn).state.zc.held = s.zc.held ∧ (s.pinOn).state.zc.bounds = s.zc.bounds ∧
    (s.pinOn).state.zc.reports = s.zc.reports ∧ (s.pinOn).state.cp = s.cp ∧ (s.pinOn).state.op = s.op ∧
    (s.pinOn).state.cc = s.cc ∧ (s.pinOn).state.pending = s.pending := by
  unfold State.pinOn
  (repeat' split) <;> simp

@[simp] theorem pinOff_keeps (s : State) :
    (s.pinOff).state.cru = s.cru ∧ (s.pinOff).state.link = s.link ∧ (s.pinOff).state.nq = s.nq ∧
    (s.pinOff).state.sources = s.sources ∧ (s.pinOff).state.receivers = s.receivers ∧ (s.pinOff).state.fs = s.fs ∧
    (s.pinOff).state.gu = s.gu ∧ (s.pinOff).state.zc.ladder = s.zc.ladder ∧
    (s.pinOff).state.zc.target = s.zc.target ∧ (s.pinOff).state.zc.shown = s.zc.shown ∧
    (s.pinOff).state.zc.rate = s.zc.rate ∧ (s.pinOff).state.zc.held = s.zc.held ∧
    (s.pinOff).state.zc.bounds = s.zc.bounds ∧ (s.pinOff).state.zc.record = s.zc.record ∧
    (s.pinOff).state.zc.reports = s.zc.reports ∧ (s.pinOff).state.cp = s.cp ∧ (s.pinOff).state.op = s.op ∧
    (s.pinOff).state.cc = s.cc ∧ (s.pinOff).state.pending = s.pending :=
  ⟨rfl, rfl, rfl, rfl, rfl, rfl, rfl, rfl, rfl, rfl, rfl, rfl, rfl, rfl, rfl, rfl, rfl, rfl, rfl⟩

@[simp] theorem setHeld_keeps (b : Bounds) (s : State) :
    (s.setHeld b).cru = s.cru ∧ (s.setHeld b).link = s.link ∧ (s.setHeld b).sources = s.sources ∧
    (s.setHeld b).receivers = s.receivers ∧ (s.setHeld b).fs = s.fs ∧ (s.setHeld b).gu = s.gu ∧
    (s.setHeld b).zc.ladder = s.zc.ladder ∧ (s.setHeld b).zc.target = s.zc.target ∧
    (s.setHeld b).zc.shown = s.zc.shown ∧ (s.setHeld b).zc.rate = s.zc.rate ∧
    (s.setHeld b).zc.pinned = s.zc.pinned ∧ (s.setHeld b).zc.bounds = s.zc.bounds ∧
    (s.setHeld b).zc.record = s.zc.record ∧ (s.setHeld b).zc.reports = s.zc.reports ∧ (s.setHeld b).cp = s.cp ∧
    (s.setHeld b).op = s.op ∧ (s.setHeld b).cc = s.cc ∧ (s.setHeld b).pending = s.pending := by
  unfold State.setHeld
  try dsimp only
  (repeat' split) <;> simp

@[simp] theorem moveZoom_keeps (b : Bounds) (s : State) :
    (s.moveZoom b).cru = s.cru ∧ (s.moveZoom b).link = s.link ∧ (s.moveZoom b).sources = s.sources ∧
    (s.moveZoom b).receivers = s.receivers ∧ (s.moveZoom b).fs = s.fs ∧ (s.moveZoom b).gu = s.gu ∧
    (s.moveZoom b).zc.ladder = s.zc.ladder ∧ (s.moveZoom b).zc.target = s.zc.target ∧
    (s.moveZoom b).zc.rate = s.zc.rate ∧ (s.moveZoom b).zc.pinned = s.zc.pinned ∧
    (s.moveZoom b).zc.record = s.zc.record ∧ (s.moveZoom b).zc.reports = s.zc.reports ∧ (s.moveZoom b).cp = s.cp ∧
    (s.moveZoom b).op = s.op ∧ (s.moveZoom b).cc = s.cc ∧ (s.moveZoom b).pending = s.pending := by
  simp [State.moveZoom]

@[simp] theorem zoomStages_keeps (s : State) :
    s.zoomStages.cru = s.cru ∧ s.zoomStages.link = s.link ∧ s.zoomStages.sources = s.sources ∧
    s.zoomStages.receivers = s.receivers ∧ s.zoomStages.fs = s.fs ∧ s.zoomStages.gu = s.gu ∧
    s.zoomStages.zc.ladder = s.zc.ladder ∧ s.zoomStages.zc.target = s.zc.target ∧
    s.zoomStages.zc.rate = s.zc.rate ∧ s.zoomStages.zc.pinned = s.zc.pinned ∧
    s.zoomStages.zc.record = s.zc.record ∧ s.zoomStages.zc.reports = s.zc.reports ∧ s.zoomStages.cp = s.cp ∧
    s.zoomStages.op = s.op ∧ s.zoomStages.cc = s.cc ∧ s.zoomStages.pending = s.pending := by
  unfold State.zoomStages
  (repeat' split) <;> simp

@[simp] theorem wakeUpper_keeps (l : Ladder) (k : Nat) (s : State) :
    (s.wakeUpper l k).cru = s.cru ∧ (s.wakeUpper l k).link = s.link ∧ (s.wakeUpper l k).receivers = s.receivers ∧
    (s.wakeUpper l k).fs = s.fs ∧ (s.wakeUpper l k).gu = s.gu ∧ (s.wakeUpper l k).zc = s.zc ∧
    (s.wakeUpper l k).cp = s.cp ∧ (s.wakeUpper l k).op = s.op ∧ (s.wakeUpper l k).cc = s.cc ∧
    (s.wakeUpper l k).pending = s.pending := by
  unfold State.wakeUpper
  (repeat' split) <;> simp

@[simp] theorem wakeLower_keeps (l : Ladder) (k : Nat) (s : State) :
    (s.wakeLower l k).cru = s.cru ∧ (s.wakeLower l k).link = s.link ∧ (s.wakeLower l k).receivers = s.receivers ∧
    (s.wakeLower l k).fs = s.fs ∧ (s.wakeLower l k).gu = s.gu ∧ (s.wakeLower l k).zc = s.zc ∧
    (s.wakeLower l k).cp = s.cp ∧ (s.wakeLower l k).op = s.op ∧ (s.wakeLower l k).cc = s.cc ∧
    (s.wakeLower l k).pending = s.pending := by
  unfold State.wakeLower
  (repeat' split) <;> simp

@[simp] theorem wakePoints_keeps (s : State) :
    s.wakePoints.cru = s.cru ∧ s.wakePoints.link = s.link ∧ s.wakePoints.receivers = s.receivers ∧
    s.wakePoints.fs = s.fs ∧ s.wakePoints.gu = s.gu ∧ s.wakePoints.zc = s.zc ∧ s.wakePoints.cp = s.cp ∧
    s.wakePoints.op = s.op ∧ s.wakePoints.cc = s.cc ∧ s.wakePoints.pending = s.pending := by
  unfold State.wakePoints
  (repeat' split) <;> simp

@[simp] theorem zoomQuery_keeps (s : State) :
    (s.zoomQuery).state.cru = s.cru ∧ (s.zoomQuery).state.link = s.link ∧ (s.zoomQuery).state.nq = s.nq ∧
    (s.zoomQuery).state.sources = s.sources ∧ (s.zoomQuery).state.receivers = s.receivers ∧
    (s.zoomQuery).state.fs = s.fs ∧ (s.zoomQuery).state.gu = s.gu ∧ (s.zoomQuery).state.zc = s.zc ∧
    (s.zoomQuery).state.cp = s.cp ∧ (s.zoomQuery).state.op = s.op ∧ (s.zoomQuery).state.cc = s.cc ∧
    (s.zoomQuery).state.pending = s.pending :=
  ⟨rfl, rfl, rfl, rfl, rfl, rfl, rfl, rfl, rfl, rfl, rfl, rfl⟩

/-! Hand-off -/

@[simp] theorem postDone_keeps (r : Transition) (mode : HandMode) (time : Time) (s : State) :
    (s.postDone r mode time).cru = s.cru ∧ (s.postDone r mode time).link = s.link ∧
    (s.postDone r mode time).sources = s.sources ∧ (s.postDone r mode time).receivers = s.receivers ∧
    (s.postDone r mode time).fs = s.fs ∧ (s.postDone r mode time).gu = s.gu ∧ (s.postDone r mode time).zc = s.zc ∧
    (s.postDone r mode time).cp = s.cp ∧ (s.postDone r mode time).op = s.op ∧ (s.postDone r mode time).cc = s.cc ∧
    (s.postDone r mode time).pending = s.pending :=
  ⟨rfl, rfl, rfl, rfl, rfl, rfl, rfl, rfl, rfl, rfl, rfl⟩

@[simp] theorem postAborted_keeps (r : Transition) (cause : AbortCause) (time : Time) (s : State) :
    (s.postAborted r cause time).cru = s.cru ∧ (s.postAborted r cause time).link = s.link ∧
    (s.postAborted r cause time).sources = s.sources ∧ (s.postAborted r cause time).receivers = s.receivers ∧
    (s.postAborted r cause time).fs = s.fs ∧ (s.postAborted r cause time).gu = s.gu ∧
    (s.postAborted r cause time).zc = s.zc ∧ (s.postAborted r cause time).cp = s.cp ∧
    (s.postAborted r cause time).op = s.op ∧ (s.postAborted r cause time).cc = s.cc ∧
    (s.postAborted r cause time).pending = s.pending :=
  ⟨rfl, rfl, rfl, rfl, rfl, rfl, rfl, rfl, rfl, rfl, rfl⟩

@[simp] theorem postLimited_keeps (r : Transition) (cause : LimitCause) (s : State) :
    (s.postLimited r cause).cru = s.cru ∧ (s.postLimited r cause).link = s.link ∧
    (s.postLimited r cause).sources = s.sources ∧ (s.postLimited r cause).receivers = s.receivers ∧
    (s.postLimited r cause).fs = s.fs ∧ (s.postLimited r cause).gu = s.gu ∧ (s.postLimited r cause).zc = s.zc ∧
    (s.postLimited r cause).cp = s.cp ∧ (s.postLimited r cause).op = s.op ∧ (s.postLimited r cause).cc = s.cc ∧
    (s.postLimited r cause).pending = s.pending :=
  ⟨rfl, rfl, rfl, rfl, rfl, rfl, rfl, rfl, rfl, rfl, rfl⟩

@[simp] theorem postFrozen_keeps (faulted : Src) (target : Option Src) (s : State) :
    (s.postFrozen faulted target).cru = s.cru ∧ (s.postFrozen faulted target).link = s.link ∧
    (s.postFrozen faulted target).sources = s.sources ∧ (s.postFrozen faulted target).receivers = s.receivers ∧
    (s.postFrozen faulted target).fs = s.fs ∧ (s.postFrozen faulted target).gu = s.gu ∧
    (s.postFrozen faulted target).zc = s.zc ∧ (s.postFrozen faulted target).cp = s.cp ∧
    (s.postFrozen faulted target).op = s.op ∧ (s.postFrozen faulted target).cc = s.cc ∧
    (s.postFrozen faulted target).pending = s.pending :=
  ⟨rfl, rfl, rfl, rfl, rfl, rfl, rfl, rfl, rfl, rfl, rfl⟩

@[simp] theorem passRoles_keeps (r : Transition) (s : State) :
    (s.passRoles r).cru = s.cru ∧ (s.passRoles r).link = s.link ∧ (s.passRoles r).receivers = s.receivers ∧
    (s.passRoles r).fs = s.fs ∧ (s.passRoles r).gu = s.gu ∧ (s.passRoles r).zc.ladder = s.zc.ladder ∧
    (s.passRoles r).zc.target = s.zc.target ∧ (s.passRoles r).zc.shown = s.zc.shown ∧
    (s.passRoles r).zc.rate = s.zc.rate ∧ (s.passRoles r).zc.held = s.zc.held ∧
    (s.passRoles r).zc.pinned = s.zc.pinned ∧ (s.passRoles r).zc.bounds = s.zc.bounds ∧
    (s.passRoles r).zc.record = s.zc.record ∧ (s.passRoles r).cp = s.cp ∧ (s.passRoles r).op = s.op ∧
    (s.passRoles r).cc = s.cc ∧ (s.passRoles r).pending = s.pending := by
  simp [State.passRoles]

@[simp] theorem passPicture_keeps (r : Transition) (change : SpoiledChange) (mode : HandMode) (s : State) :
    (s.passPicture r change mode).cru = s.cru ∧ (s.passPicture r change mode).link = s.link ∧
    (s.passPicture r change mode).receivers = s.receivers ∧ (s.passPicture r change mode).fs = s.fs ∧
    (s.passPicture r change mode).gu = s.gu ∧ (s.passPicture r change mode).zc.ladder = s.zc.ladder ∧
    (s.passPicture r change mode).zc.target = s.zc.target ∧ (s.passPicture r change mode).zc.shown = s.zc.shown ∧
    (s.passPicture r change mode).zc.rate = s.zc.rate ∧ (s.passPicture r change mode).zc.held = s.zc.held ∧
    (s.passPicture r change mode).zc.pinned = s.zc.pinned ∧ (s.passPicture r change mode).zc.bounds = s.zc.bounds ∧
    (s.passPicture r change mode).cp = s.cp ∧ (s.passPicture r change mode).op = s.op ∧
    (s.passPicture r change mode).cc = s.cc ∧ (s.passPicture r change mode).pending = s.pending := by
  unfold State.passPicture
  (repeat' split) <;> simp

@[simp] theorem takeCut_keeps (r : Transition) (s : State) :
    (s.takeCut r).cru = s.cru ∧ (s.takeCut r).link = s.link ∧ (s.takeCut r).receivers = s.receivers ∧
    (s.takeCut r).fs = s.fs ∧ (s.takeCut r).gu = s.gu ∧ (s.takeCut r).zc.ladder = s.zc.ladder ∧
    (s.takeCut r).zc.target = s.zc.target ∧ (s.takeCut r).zc.shown = s.zc.shown ∧
    (s.takeCut r).zc.rate = s.zc.rate ∧ (s.takeCut r).zc.held = s.zc.held ∧ (s.takeCut r).zc.pinned = s.zc.pinned ∧
    (s.takeCut r).zc.bounds = s.zc.bounds ∧ (s.takeCut r).cp = s.cp ∧ (s.takeCut r).op = s.op ∧
    (s.takeCut r).cc = s.cc ∧ (s.takeCut r).pending = s.pending := by
  simp [State.takeCut]

@[simp] theorem completeBlend_keeps (r : Transition) (s : State) :
    (s.completeBlend r).cru = s.cru ∧ (s.completeBlend r).link = s.link ∧
    (s.completeBlend r).receivers = s.receivers ∧ (s.completeBlend r).fs = s.fs ∧ (s.completeBlend r).gu = s.gu ∧
    (s.completeBlend r).zc.ladder = s.zc.ladder ∧ (s.completeBlend r).zc.target = s.zc.target ∧
    (s.completeBlend r).zc.shown = s.zc.shown ∧ (s.completeBlend r).zc.rate = s.zc.rate ∧
    (s.completeBlend r).zc.held = s.zc.held ∧ (s.completeBlend r).zc.pinned = s.zc.pinned ∧
    (s.completeBlend r).zc.bounds = s.zc.bounds ∧ (s.completeBlend r).cp = s.cp ∧ (s.completeBlend r).op = s.op ∧
    (s.completeBlend r).cc = s.cc ∧ (s.completeBlend r).pending = s.pending := by
  simp [State.completeBlend]

@[simp] theorem advanceBlend_keeps (r : Transition) (s : State) :
    (s.advanceBlend r).cru = s.cru ∧ (s.advanceBlend r).link = s.link ∧ (s.advanceBlend r).nq = s.nq ∧
    (s.advanceBlend r).sources = s.sources ∧ (s.advanceBlend r).receivers = s.receivers ∧
    (s.advanceBlend r).fs = s.fs ∧ (s.advanceBlend r).gu = s.gu ∧ (s.advanceBlend r).zc.ladder = s.zc.ladder ∧
    (s.advanceBlend r).zc.target = s.zc.target ∧ (s.advanceBlend r).zc.shown = s.zc.shown ∧
    (s.advanceBlend r).zc.rate = s.zc.rate ∧ (s.advanceBlend r).zc.held = s.zc.held ∧
    (s.advanceBlend r).zc.pinned = s.zc.pinned ∧ (s.advanceBlend r).zc.bounds = s.zc.bounds ∧
    (s.advanceBlend r).zc.reports = s.zc.reports ∧ (s.advanceBlend r).cp = s.cp ∧ (s.advanceBlend r).op = s.op ∧
    (s.advanceBlend r).cc = s.cc ∧ (s.advanceBlend r).pending = s.pending :=
  ⟨rfl, rfl, rfl, rfl, rfl, rfl, rfl, rfl, rfl, rfl, rfl, rfl, rfl, rfl, rfl, rfl, rfl, rfl, rfl⟩

@[simp] theorem startBlend_keeps (r : Transition) (s : State) :
    (s.startBlend r).cru = s.cru ∧ (s.startBlend r).link = s.link ∧ (s.startBlend r).receivers = s.receivers ∧
    (s.startBlend r).fs = s.fs ∧ (s.startBlend r).gu = s.gu ∧ (s.startBlend r).zc.ladder = s.zc.ladder ∧
    (s.startBlend r).zc.target = s.zc.target ∧ (s.startBlend r).zc.shown = s.zc.shown ∧
    (s.startBlend r).zc.rate = s.zc.rate ∧ (s.startBlend r).zc.held = s.zc.held ∧
    (s.startBlend r).zc.pinned = s.zc.pinned ∧ (s.startBlend r).zc.bounds = s.zc.bounds ∧
    (s.startBlend r).cp = s.cp ∧ (s.startBlend r).op = s.op ∧ (s.startBlend r).cc = s.cc ∧
    (s.startBlend r).pending = s.pending := by
  simp [State.startBlend]

@[simp] theorem armedWork_keeps (r : Transition) (s : State) :
    (s.armedWork r).cru = s.cru ∧ (s.armedWork r).link = s.link ∧ (s.armedWork r).receivers = s.receivers ∧
    (s.armedWork r).fs = s.fs ∧ (s.armedWork r).gu = s.gu ∧ (s.armedWork r).zc.ladder = s.zc.ladder ∧
    (s.armedWork r).zc.target = s.zc.target ∧ (s.armedWork r).zc.shown = s.zc.shown ∧
    (s.armedWork r).zc.rate = s.zc.rate ∧ (s.armedWork r).zc.held = s.zc.held ∧
    (s.armedWork r).zc.pinned = s.zc.pinned ∧ (s.armedWork r).zc.bounds = s.zc.bounds ∧ (s.armedWork r).cp = s.cp ∧
    (s.armedWork r).op = s.op ∧ (s.armedWork r).cc = s.cc ∧ (s.armedWork r).pending = s.pending := by
  unfold State.armedWork
  (repeat' split) <;> simp

@[simp] theorem matchUpdate_keeps (r : Transition) (s : State) :
    (s.matchUpdate r).cru = s.cru ∧ (s.matchUpdate r).link = s.link ∧ (s.matchUpdate r).sources = s.sources ∧
    (s.matchUpdate r).receivers = s.receivers ∧ (s.matchUpdate r).fs = s.fs ∧ (s.matchUpdate r).gu = s.gu ∧
    (s.matchUpdate r).zc.ladder = s.zc.ladder ∧ (s.matchUpdate r).zc.target = s.zc.target ∧
    (s.matchUpdate r).zc.shown = s.zc.shown ∧ (s.matchUpdate r).zc.rate = s.zc.rate ∧
    (s.matchUpdate r).zc.held = s.zc.held ∧ (s.matchUpdate r).zc.pinned = s.zc.pinned ∧
    (s.matchUpdate r).zc.bounds = s.zc.bounds ∧ (s.matchUpdate r).zc.reports = s.zc.reports ∧
    (s.matchUpdate r).cp = s.cp ∧ (s.matchUpdate r).op = s.op ∧ (s.matchUpdate r).cc = s.cc ∧
    (s.matchUpdate r).pending = s.pending := by
  unfold State.matchUpdate
  (repeat' split) <;> simp

@[simp] theorem decideMatch_keeps (r : Transition) (s : State) :
    (s.decideMatch r).cru = s.cru ∧ (s.decideMatch r).link = s.link ∧ (s.decideMatch r).receivers = s.receivers ∧
    (s.decideMatch r).fs = s.fs ∧ (s.decideMatch r).gu = s.gu ∧ (s.decideMatch r).zc.ladder = s.zc.ladder ∧
    (s.decideMatch r).zc.target = s.zc.target ∧ (s.decideMatch r).zc.shown = s.zc.shown ∧
    (s.decideMatch r).zc.rate = s.zc.rate ∧ (s.decideMatch r).zc.held = s.zc.held ∧
    (s.decideMatch r).zc.pinned = s.zc.pinned ∧ (s.decideMatch r).zc.bounds = s.zc.bounds ∧
    (s.decideMatch r).cp = s.cp ∧ (s.decideMatch r).op = s.op ∧ (s.decideMatch r).cc = s.cc ∧
    (s.decideMatch r).pending = s.pending := by
  unfold State.decideMatch
  (repeat' split) <;> simp

@[simp] theorem matchingWork_keeps (r : Transition) (s : State) :
    (s.matchingWork r).cru = s.cru ∧ (s.matchingWork r).link = s.link ∧
    (s.matchingWork r).receivers = s.receivers ∧ (s.matchingWork r).fs = s.fs ∧ (s.matchingWork r).gu = s.gu ∧
    (s.matchingWork r).zc.ladder = s.zc.ladder ∧ (s.matchingWork r).zc.target = s.zc.target ∧
    (s.matchingWork r).zc.shown = s.zc.shown ∧ (s.matchingWork r).zc.rate = s.zc.rate ∧
    (s.matchingWork r).zc.held = s.zc.held ∧ (s.matchingWork r).zc.pinned = s.zc.pinned ∧
    (s.matchingWork r).zc.bounds = s.zc.bounds ∧ (s.matchingWork r).cp = s.cp ∧ (s.matchingWork r).op = s.op ∧
    (s.matchingWork r).cc = s.cc ∧ (s.matchingWork r).pending = s.pending := by
  unfold State.matchingWork
  try dsimp only
  (repeat' split) <;> simp

@[simp] theorem rescueTo_keeps (r : Transition) (s : State) :
    (s.rescueTo r).cru = s.cru ∧ (s.rescueTo r).link = s.link ∧ (s.rescueTo r).receivers = s.receivers ∧
    (s.rescueTo r).fs = s.fs ∧ (s.rescueTo r).gu = s.gu ∧ (s.rescueTo r).zc.ladder = s.zc.ladder ∧
    (s.rescueTo r).zc.target = s.zc.target ∧ (s.rescueTo r).zc.rate = s.zc.rate ∧
    (s.rescueTo r).zc.held = s.zc.held ∧ (s.rescueTo r).zc.pinned = s.zc.pinned ∧
    (s.rescueTo r).zc.bounds = s.zc.bounds ∧ (s.rescueTo r).zc.record = s.zc.record ∧
    (s.rescueTo r).cp.settings = s.cp.settings ∧ (s.rescueTo r).cp.deadline = s.cp.deadline ∧
    (s.rescueTo r).cp.compose = s.cp.compose ∧ (s.rescueTo r).cp.newest = s.cp.newest ∧
    (s.rescueTo r).cp.lastSent = s.cp.lastSent ∧ (s.rescueTo r).cp.fresh = s.cp.fresh ∧
    (s.rescueTo r).cp.overruns = s.cp.overruns ∧ (s.rescueTo r).cp.repeats = s.cp.repeats ∧
    (s.rescueTo r).cp.ping = s.cp.ping ∧ (s.rescueTo r).cp.pong = s.cp.pong ∧
    (s.rescueTo r).cp.stillCopy = s.cp.stillCopy ∧ (s.rescueTo r).op = s.op ∧ (s.rescueTo r).cc = s.cc ∧
    (s.rescueTo r).pending = s.pending := by
  unfold State.rescueTo
  (repeat' split) <;> simp

@[simp] theorem giveUp_keeps (faulted : Src) (s : State) :
    (s.giveUp faulted).cru = s.cru ∧ (s.giveUp faulted).link = s.link ∧
    (s.giveUp faulted).receivers = s.receivers ∧ (s.giveUp faulted).fs = s.fs ∧ (s.giveUp faulted).gu = s.gu ∧
    (s.giveUp faulted).zc = s.zc ∧ (s.giveUp faulted).cp.settings = s.cp.settings ∧
    (s.giveUp faulted).cp.deadline = s.cp.deadline ∧ (s.giveUp faulted).cp.compose = s.cp.compose ∧
    (s.giveUp faulted).cp.newest = s.cp.newest ∧ (s.giveUp faulted).cp.lastSent = s.cp.lastSent ∧
    (s.giveUp faulted).cp.fresh = s.cp.fresh ∧ (s.giveUp faulted).cp.overruns = s.cp.overruns ∧
    (s.giveUp faulted).cp.repeats = s.cp.repeats ∧ (s.giveUp faulted).cp.ping = s.cp.ping ∧
    (s.giveUp faulted).cp.pong = s.cp.pong ∧ (s.giveUp faulted).cp.stillCopy = s.cp.stillCopy ∧
    (s.giveUp faulted).op = s.op ∧ (s.giveUp faulted).cc = s.cc ∧ (s.giveUp faulted).pending = s.pending := by
  simp [State.giveUp]

@[simp] theorem freezeFor_keeps (faulted target : Src) (s : State) :
    (s.freezeFor faulted target).cru = s.cru ∧ (s.freezeFor faulted target).link = s.link ∧
    (s.freezeFor faulted target).receivers = s.receivers ∧ (s.freezeFor faulted target).fs = s.fs ∧
    (s.freezeFor faulted target).gu = s.gu ∧ (s.freezeFor faulted target).zc = s.zc ∧
    (s.freezeFor faulted target).cp.settings = s.cp.settings ∧
    (s.freezeFor faulted target).cp.deadline = s.cp.deadline ∧
    (s.freezeFor faulted target).cp.compose = s.cp.compose ∧ (s.freezeFor faulted target).cp.newest = s.cp.newest ∧
    (s.freezeFor faulted target).cp.lastSent = s.cp.lastSent ∧ (s.freezeFor faulted target).cp.fresh = s.cp.fresh ∧
    (s.freezeFor faulted target).cp.overruns = s.cp.overruns ∧
    (s.freezeFor faulted target).cp.repeats = s.cp.repeats ∧ (s.freezeFor faulted target).cp.ping = s.cp.ping ∧
    (s.freezeFor faulted target).cp.pong = s.cp.pong ∧ (s.freezeFor faulted target).cp.stillCopy = s.cp.stillCopy ∧
    (s.freezeFor faulted target).op = s.op ∧ (s.freezeFor faulted target).cc = s.cc ∧
    (s.freezeFor faulted target).pending = s.pending := by
  unfold State.freezeFor
  (repeat' split) <;> simp

@[simp] theorem rescue_keeps (p : Src) (s : State) :
    (s.rescue p).cru = s.cru ∧ (s.rescue p).link = s.link ∧ (s.rescue p).receivers = s.receivers ∧
    (s.rescue p).fs = s.fs ∧ (s.rescue p).gu = s.gu ∧ (s.rescue p).zc.ladder = s.zc.ladder ∧
    (s.rescue p).zc.target = s.zc.target ∧ (s.rescue p).zc.rate = s.zc.rate ∧ (s.rescue p).zc.held = s.zc.held ∧
    (s.rescue p).zc.pinned = s.zc.pinned ∧ (s.rescue p).zc.bounds = s.zc.bounds ∧
    (s.rescue p).cp.settings = s.cp.settings ∧ (s.rescue p).cp.deadline = s.cp.deadline ∧
    (s.rescue p).cp.compose = s.cp.compose ∧ (s.rescue p).cp.newest = s.cp.newest ∧
    (s.rescue p).cp.lastSent = s.cp.lastSent ∧ (s.rescue p).cp.fresh = s.cp.fresh ∧
    (s.rescue p).cp.overruns = s.cp.overruns ∧ (s.rescue p).cp.repeats = s.cp.repeats ∧
    (s.rescue p).cp.ping = s.cp.ping ∧ (s.rescue p).cp.pong = s.cp.pong ∧
    (s.rescue p).cp.stillCopy = s.cp.stillCopy ∧ (s.rescue p).op = s.op ∧ (s.rescue p).cc = s.cc ∧
    (s.rescue p).pending = s.pending := by
  unfold State.rescue
  (repeat' split) <;> simp

@[simp] theorem retarget_keeps (r : Transition) (t : Src) (s : State) :
    (s.retarget r t).cru = s.cru ∧ (s.retarget r t).link = s.link ∧ (s.retarget r t).receivers = s.receivers ∧
    (s.retarget r t).fs = s.fs ∧ (s.retarget r t).gu = s.gu ∧ (s.retarget r t).zc.ladder = s.zc.ladder ∧
    (s.retarget r t).zc.target = s.zc.target ∧ (s.retarget r t).zc.shown = s.zc.shown ∧
    (s.retarget r t).zc.rate = s.zc.rate ∧ (s.retarget r t).zc.held = s.zc.held ∧
    (s.retarget r t).zc.pinned = s.zc.pinned ∧ (s.retarget r t).zc.bounds = s.zc.bounds ∧
    (s.retarget r t).zc.reports = s.zc.reports ∧ (s.retarget r t).cp = s.cp ∧ (s.retarget r t).op = s.op ∧
    (s.retarget r t).cc = s.cc ∧ (s.retarget r t).pending = s.pending := by
  unfold State.retarget
  (repeat' split) <;> simp

@[simp] theorem rescueFailed_keeps (r : Transition) (s : State) :
    (s.rescueFailed r).cru = s.cru ∧ (s.rescueFailed r).link = s.link ∧
    (s.rescueFailed r).receivers = s.receivers ∧ (s.rescueFailed r).fs = s.fs ∧ (s.rescueFailed r).gu = s.gu ∧
    (s.rescueFailed r).zc.ladder = s.zc.ladder ∧ (s.rescueFailed r).zc.target = s.zc.target ∧
    (s.rescueFailed r).zc.shown = s.zc.shown ∧ (s.rescueFailed r).zc.rate = s.zc.rate ∧
    (s.rescueFailed r).zc.held = s.zc.held ∧ (s.rescueFailed r).zc.pinned = s.zc.pinned ∧
    (s.rescueFailed r).zc.bounds = s.zc.bounds ∧ (s.rescueFailed r).zc.reports = s.zc.reports ∧
    (s.rescueFailed r).cp.settings = s.cp.settings ∧ (s.rescueFailed r).cp.deadline = s.cp.deadline ∧
    (s.rescueFailed r).cp.compose = s.cp.compose ∧ (s.rescueFailed r).cp.newest = s.cp.newest ∧
    (s.rescueFailed r).cp.lastSent = s.cp.lastSent ∧ (s.rescueFailed r).cp.fresh = s.cp.fresh ∧
    (s.rescueFailed r).cp.overruns = s.cp.overruns ∧ (s.rescueFailed r).cp.repeats = s.cp.repeats ∧
    (s.rescueFailed r).cp.ping = s.cp.ping ∧ (s.rescueFailed r).cp.pong = s.cp.pong ∧
    (s.rescueFailed r).cp.stillCopy = s.cp.stillCopy ∧ (s.rescueFailed r).op = s.op ∧
    (s.rescueFailed r).cc = s.cc ∧ (s.rescueFailed r).pending = s.pending := by
  simp [State.rescueFailed]

@[simp] theorem tryOther_keeps (r : Transition) (s : State) :
    (s.tryOther r).cru = s.cru ∧ (s.tryOther r).link = s.link ∧ (s.tryOther r).receivers = s.receivers ∧
    (s.tryOther r).fs = s.fs ∧ (s.tryOther r).gu = s.gu ∧ (s.tryOther r).zc.ladder = s.zc.ladder ∧
    (s.tryOther r).zc.target = s.zc.target ∧ (s.tryOther r).zc.rate = s.zc.rate ∧
    (s.tryOther r).zc.held = s.zc.held ∧ (s.tryOther r).zc.pinned = s.zc.pinned ∧
    (s.tryOther r).zc.bounds = s.zc.bounds ∧ (s.tryOther r).cp.settings = s.cp.settings ∧
    (s.tryOther r).cp.deadline = s.cp.deadline ∧ (s.tryOther r).cp.compose = s.cp.compose ∧
    (s.tryOther r).cp.newest = s.cp.newest ∧ (s.tryOther r).cp.lastSent = s.cp.lastSent ∧
    (s.tryOther r).cp.fresh = s.cp.fresh ∧ (s.tryOther r).cp.overruns = s.cp.overruns ∧
    (s.tryOther r).cp.repeats = s.cp.repeats ∧ (s.tryOther r).cp.ping = s.cp.ping ∧
    (s.tryOther r).cp.pong = s.cp.pong ∧ (s.tryOther r).cp.stillCopy = s.cp.stillCopy ∧ (s.tryOther r).op = s.op ∧
    (s.tryOther r).cc = s.cc ∧ (s.tryOther r).pending = s.pending := by
  unfold State.tryOther
  (repeat' split) <;> simp

@[simp] theorem rescueWork_keeps (r : Transition) (s : State) :
    (s.rescueWork r).cru = s.cru ∧ (s.rescueWork r).link = s.link ∧ (s.rescueWork r).receivers = s.receivers ∧
    (s.rescueWork r).fs = s.fs ∧ (s.rescueWork r).gu = s.gu ∧ (s.rescueWork r).zc.ladder = s.zc.ladder ∧
    (s.rescueWork r).zc.target = s.zc.target ∧ (s.rescueWork r).zc.rate = s.zc.rate ∧
    (s.rescueWork r).zc.held = s.zc.held ∧ (s.rescueWork r).zc.pinned = s.zc.pinned ∧
    (s.rescueWork r).zc.bounds = s.zc.bounds ∧ (s.rescueWork r).cp.settings = s.cp.settings ∧
    (s.rescueWork r).cp.deadline = s.cp.deadline ∧ (s.rescueWork r).cp.compose = s.cp.compose ∧
    (s.rescueWork r).cp.newest = s.cp.newest ∧ (s.rescueWork r).cp.lastSent = s.cp.lastSent ∧
    (s.rescueWork r).cp.fresh = s.cp.fresh ∧ (s.rescueWork r).cp.overruns = s.cp.overruns ∧
    (s.rescueWork r).cp.repeats = s.cp.repeats ∧ (s.rescueWork r).cp.ping = s.cp.ping ∧
    (s.rescueWork r).cp.pong = s.cp.pong ∧ (s.rescueWork r).cp.stillCopy = s.cp.stillCopy ∧
    (s.rescueWork r).op = s.op ∧ (s.rescueWork r).cc = s.cc ∧ (s.rescueWork r).pending = s.pending := by
  unfold State.rescueWork
  (repeat' split) <;> simp

@[simp] theorem recordWork_keeps (r : Transition) (s : State) :
    (s.recordWork r).cru = s.cru ∧ (s.recordWork r).link = s.link ∧ (s.recordWork r).receivers = s.receivers ∧
    (s.recordWork r).fs = s.fs ∧ (s.recordWork r).gu = s.gu ∧ (s.recordWork r).zc.ladder = s.zc.ladder ∧
    (s.recordWork r).zc.target = s.zc.target ∧ (s.recordWork r).zc.rate = s.zc.rate ∧
    (s.recordWork r).zc.held = s.zc.held ∧ (s.recordWork r).zc.pinned = s.zc.pinned ∧
    (s.recordWork r).zc.bounds = s.zc.bounds ∧ (s.recordWork r).cp.settings = s.cp.settings ∧
    (s.recordWork r).cp.deadline = s.cp.deadline ∧ (s.recordWork r).cp.compose = s.cp.compose ∧
    (s.recordWork r).cp.newest = s.cp.newest ∧ (s.recordWork r).cp.lastSent = s.cp.lastSent ∧
    (s.recordWork r).cp.fresh = s.cp.fresh ∧ (s.recordWork r).cp.overruns = s.cp.overruns ∧
    (s.recordWork r).cp.repeats = s.cp.repeats ∧ (s.recordWork r).cp.ping = s.cp.ping ∧
    (s.recordWork r).cp.pong = s.cp.pong ∧ (s.recordWork r).cp.stillCopy = s.cp.stillCopy ∧
    (s.recordWork r).op = s.op ∧ (s.recordWork r).cc = s.cc ∧ (s.recordWork r).pending = s.pending := by
  unfold State.recordWork
  (repeat' split) <;> simp

@[simp] theorem handoffWork_keeps (s : State) :
    s.handoffWork.cru = s.cru ∧ s.handoffWork.link = s.link ∧ s.handoffWork.receivers = s.receivers ∧
    s.handoffWork.fs = s.fs ∧ s.handoffWork.gu = s.gu ∧ s.handoffWork.zc.ladder = s.zc.ladder ∧
    s.handoffWork.zc.target = s.zc.target ∧ s.handoffWork.zc.rate = s.zc.rate ∧ s.handoffWork.zc.held = s.zc.held ∧
    s.handoffWork.zc.pinned = s.zc.pinned ∧ s.handoffWork.zc.bounds = s.zc.bounds ∧
    s.handoffWork.cp.settings = s.cp.settings ∧ s.handoffWork.cp.deadline = s.cp.deadline ∧
    s.handoffWork.cp.compose = s.cp.compose ∧ s.handoffWork.cp.newest = s.cp.newest ∧
    s.handoffWork.cp.lastSent = s.cp.lastSent ∧ s.handoffWork.cp.fresh = s.cp.fresh ∧
    s.handoffWork.cp.overruns = s.cp.overruns ∧ s.handoffWork.cp.repeats = s.cp.repeats ∧
    s.handoffWork.cp.ping = s.cp.ping ∧ s.handoffWork.cp.pong = s.cp.pong ∧
    s.handoffWork.cp.stillCopy = s.cp.stillCopy ∧ s.handoffWork.op = s.op ∧ s.handoffWork.cc = s.cc ∧
    s.handoffWork.pending = s.pending := by
  unfold State.handoffWork
  (repeat' split) <;> simp

@[simp] theorem zoomStep_keeps (s : State) :
    s.zoomStep.cru = s.cru ∧ s.zoomStep.link = s.link ∧ s.zoomStep.receivers = s.receivers ∧ s.zoomStep.fs = s.fs ∧
    s.zoomStep.gu = s.gu ∧ s.zoomStep.zc.ladder = s.zc.ladder ∧ s.zoomStep.zc.target = s.zc.target ∧
    s.zoomStep.zc.rate = s.zc.rate ∧ s.zoomStep.zc.pinned = s.zc.pinned ∧ s.zoomStep.cp.settings = s.cp.settings ∧
    s.zoomStep.cp.deadline = s.cp.deadline ∧ s.zoomStep.cp.compose = s.cp.compose ∧
    s.zoomStep.cp.newest = s.cp.newest ∧ s.zoomStep.cp.lastSent = s.cp.lastSent ∧
    s.zoomStep.cp.fresh = s.cp.fresh ∧ s.zoomStep.cp.overruns = s.cp.overruns ∧
    s.zoomStep.cp.repeats = s.cp.repeats ∧ s.zoomStep.cp.ping = s.cp.ping ∧ s.zoomStep.cp.pong = s.cp.pong ∧
    s.zoomStep.cp.stillCopy = s.cp.stillCopy ∧ s.zoomStep.op = s.op ∧ s.zoomStep.cc = s.cc ∧
    s.zoomStep.pending = s.pending := by
  simp [State.zoomStep]

@[simp] theorem targetFault_keeps (r : Transition) (s : State) :
    (s.targetFault r).cru = s.cru ∧ (s.targetFault r).link = s.link ∧ (s.targetFault r).receivers = s.receivers ∧
    (s.targetFault r).fs = s.fs ∧ (s.targetFault r).gu = s.gu ∧ (s.targetFault r).zc.ladder = s.zc.ladder ∧
    (s.targetFault r).zc.target = s.zc.target ∧ (s.targetFault r).zc.shown = s.zc.shown ∧
    (s.targetFault r).zc.rate = s.zc.rate ∧ (s.targetFault r).zc.held = s.zc.held ∧
    (s.targetFault r).zc.pinned = s.zc.pinned ∧ (s.targetFault r).zc.bounds = s.zc.bounds ∧
    (s.targetFault r).zc.reports = s.zc.reports ∧ (s.targetFault r).cp = s.cp ∧ (s.targetFault r).op = s.op ∧
    (s.targetFault r).cc = s.cc ∧ (s.targetFault r).pending = s.pending := by
  simp [State.targetFault]

@[simp] theorem incomingFault_keeps (r : Transition) (s : State) :
    (s.incomingFault r).cru = s.cru ∧ (s.incomingFault r).link = s.link ∧
    (s.incomingFault r).receivers = s.receivers ∧ (s.incomingFault r).fs = s.fs ∧ (s.incomingFault r).gu = s.gu ∧
    (s.incomingFault r).zc.ladder = s.zc.ladder ∧ (s.incomingFault r).zc.target = s.zc.target ∧
    (s.incomingFault r).zc.shown = s.zc.shown ∧ (s.incomingFault r).zc.rate = s.zc.rate ∧
    (s.incomingFault r).zc.held = s.zc.held ∧ (s.incomingFault r).zc.pinned = s.zc.pinned ∧
    (s.incomingFault r).zc.bounds = s.zc.bounds ∧ (s.incomingFault r).cp = s.cp ∧ (s.incomingFault r).op = s.op ∧
    (s.incomingFault r).cc = s.cc ∧ (s.incomingFault r).pending = s.pending := by
  simp [State.incomingFault]

@[simp] theorem outgoingFault_keeps (r : Transition) (s : State) :
    (s.outgoingFault r).cru = s.cru ∧ (s.outgoingFault r).link = s.link ∧
    (s.outgoingFault r).receivers = s.receivers ∧ (s.outgoingFault r).fs = s.fs ∧ (s.outgoingFault r).gu = s.gu ∧
    (s.outgoingFault r).zc.ladder = s.zc.ladder ∧ (s.outgoingFault r).zc.target = s.zc.target ∧
    (s.outgoingFault r).zc.shown = s.zc.shown ∧ (s.outgoingFault r).zc.rate = s.zc.rate ∧
    (s.outgoingFault r).zc.held = s.zc.held ∧ (s.outgoingFault r).zc.pinned = s.zc.pinned ∧
    (s.outgoingFault r).zc.bounds = s.zc.bounds ∧ (s.outgoingFault r).cp = s.cp ∧ (s.outgoingFault r).op = s.op ∧
    (s.outgoingFault r).cc = s.cc ∧ (s.outgoingFault r).pending = s.pending := by
  simp [State.outgoingFault]

@[simp] theorem primaryFault_keeps (p : Src) (s : State) :
    (s.primaryFault p).cru = s.cru ∧ (s.primaryFault p).link = s.link ∧
    (s.primaryFault p).receivers = s.receivers ∧ (s.primaryFault p).fs = s.fs ∧ (s.primaryFault p).gu = s.gu ∧
    (s.primaryFault p).zc.ladder = s.zc.ladder ∧ (s.primaryFault p).zc.target = s.zc.target ∧
    (s.primaryFault p).zc.rate = s.zc.rate ∧ (s.primaryFault p).zc.held = s.zc.held ∧
    (s.primaryFault p).zc.pinned = s.zc.pinned ∧ (s.primaryFault p).zc.bounds = s.zc.bounds ∧
    (s.primaryFault p).cp.settings = s.cp.settings ∧ (s.primaryFault p).cp.deadline = s.cp.deadline ∧
    (s.primaryFault p).cp.compose = s.cp.compose ∧ (s.primaryFault p).cp.newest = s.cp.newest ∧
    (s.primaryFault p).cp.lastSent = s.cp.lastSent ∧ (s.primaryFault p).cp.fresh = s.cp.fresh ∧
    (s.primaryFault p).cp.overruns = s.cp.overruns ∧ (s.primaryFault p).cp.repeats = s.cp.repeats ∧
    (s.primaryFault p).cp.ping = s.cp.ping ∧ (s.primaryFault p).cp.pong = s.cp.pong ∧
    (s.primaryFault p).cp.stillCopy = s.cp.stillCopy ∧ (s.primaryFault p).op = s.op ∧
    (s.primaryFault p).cc = s.cc ∧ (s.primaryFault p).pending = s.pending := by
  unfold State.primaryFault
  (repeat' split) <;> simp

@[simp] theorem reportOnRecord_keeps (i : Src) (role : SrcState) (r : Transition) (s : State) :
    (s.reportOnRecord i role r).cru = s.cru ∧ (s.reportOnRecord i role r).link = s.link ∧
    (s.reportOnRecord i role r).receivers = s.receivers ∧ (s.reportOnRecord i role r).fs = s.fs ∧
    (s.reportOnRecord i role r).gu = s.gu ∧ (s.reportOnRecord i role r).zc.ladder = s.zc.ladder ∧
    (s.reportOnRecord i role r).zc.target = s.zc.target ∧ (s.reportOnRecord i role r).zc.rate = s.zc.rate ∧
    (s.reportOnRecord i role r).zc.held = s.zc.held ∧ (s.reportOnRecord i role r).zc.pinned = s.zc.pinned ∧
    (s.reportOnRecord i role r).zc.bounds = s.zc.bounds ∧ (s.reportOnRecord i role r).cp.settings = s.cp.settings ∧
    (s.reportOnRecord i role r).cp.deadline = s.cp.deadline ∧
    (s.reportOnRecord i role r).cp.compose = s.cp.compose ∧ (s.reportOnRecord i role r).cp.newest = s.cp.newest ∧
    (s.reportOnRecord i role r).cp.lastSent = s.cp.lastSent ∧ (s.reportOnRecord i role r).cp.fresh = s.cp.fresh ∧
    (s.reportOnRecord i role r).cp.overruns = s.cp.overruns ∧
    (s.reportOnRecord i role r).cp.repeats = s.cp.repeats ∧ (s.reportOnRecord i role r).cp.ping = s.cp.ping ∧
    (s.reportOnRecord i role r).cp.pong = s.cp.pong ∧ (s.reportOnRecord i role r).cp.stillCopy = s.cp.stillCopy ∧
    (s.reportOnRecord i role r).op = s.op ∧ (s.reportOnRecord i role r).cc = s.cc ∧
    (s.reportOnRecord i role r).pending = s.pending := by
  unfold State.reportOnRecord
  (repeat' split) <;> simp

@[simp] theorem reportAlone_keeps (i : Src) (role : SrcState) (s : State) :
    (s.reportAlone i role).cru = s.cru ∧ (s.reportAlone i role).link = s.link ∧
    (s.reportAlone i role).receivers = s.receivers ∧ (s.reportAlone i role).fs = s.fs ∧
    (s.reportAlone i role).gu = s.gu ∧ (s.reportAlone i role).zc.ladder = s.zc.ladder ∧
    (s.reportAlone i role).zc.target = s.zc.target ∧ (s.reportAlone i role).zc.rate = s.zc.rate ∧
    (s.reportAlone i role).zc.held = s.zc.held ∧ (s.reportAlone i role).zc.pinned = s.zc.pinned ∧
    (s.reportAlone i role).zc.bounds = s.zc.bounds ∧ (s.reportAlone i role).cp.settings = s.cp.settings ∧
    (s.reportAlone i role).cp.deadline = s.cp.deadline ∧ (s.reportAlone i role).cp.compose = s.cp.compose ∧
    (s.reportAlone i role).cp.newest = s.cp.newest ∧ (s.reportAlone i role).cp.lastSent = s.cp.lastSent ∧
    (s.reportAlone i role).cp.fresh = s.cp.fresh ∧ (s.reportAlone i role).cp.overruns = s.cp.overruns ∧
    (s.reportAlone i role).cp.repeats = s.cp.repeats ∧ (s.reportAlone i role).cp.ping = s.cp.ping ∧
    (s.reportAlone i role).cp.pong = s.cp.pong ∧ (s.reportAlone i role).cp.stillCopy = s.cp.stillCopy ∧
    (s.reportAlone i role).op = s.op ∧ (s.reportAlone i role).cc = s.cc ∧
    (s.reportAlone i role).pending = s.pending := by
  unfold State.reportAlone
  (repeat' split) <;> simp

@[simp] theorem handleFault_keeps (i : Src) (role : SrcState) (s : State) :
    (s.handleFault i role).cru = s.cru ∧ (s.handleFault i role).link = s.link ∧
    (s.handleFault i role).receivers = s.receivers ∧ (s.handleFault i role).fs = s.fs ∧
    (s.handleFault i role).gu = s.gu ∧ (s.handleFault i role).zc.ladder = s.zc.ladder ∧
    (s.handleFault i role).zc.target = s.zc.target ∧ (s.handleFault i role).zc.rate = s.zc.rate ∧
    (s.handleFault i role).zc.held = s.zc.held ∧ (s.handleFault i role).zc.pinned = s.zc.pinned ∧
    (s.handleFault i role).zc.bounds = s.zc.bounds ∧ (s.handleFault i role).cp.settings = s.cp.settings ∧
    (s.handleFault i role).cp.deadline = s.cp.deadline ∧ (s.handleFault i role).cp.compose = s.cp.compose ∧
    (s.handleFault i role).cp.newest = s.cp.newest ∧ (s.handleFault i role).cp.lastSent = s.cp.lastSent ∧
    (s.handleFault i role).cp.fresh = s.cp.fresh ∧ (s.handleFault i role).cp.overruns = s.cp.overruns ∧
    (s.handleFault i role).cp.repeats = s.cp.repeats ∧ (s.handleFault i role).cp.ping = s.cp.ping ∧
    (s.handleFault i role).cp.pong = s.cp.pong ∧ (s.handleFault i role).cp.stillCopy = s.cp.stillCopy ∧
    (s.handleFault i role).op = s.op ∧ (s.handleFault i role).cc = s.cc ∧
    (s.handleFault i role).pending = s.pending := by
  unfold State.handleFault
  (repeat' split) <;> simp

@[simp] theorem takeBack_keeps (x : Spoiled) (cause : AbortCause) (s : State) :
    (s.takeBack x cause).cru = s.cru ∧ (s.takeBack x cause).link = s.link ∧
    (s.takeBack x cause).receivers = s.receivers ∧ (s.takeBack x cause).fs = s.fs ∧
    (s.takeBack x cause).gu = s.gu ∧ (s.takeBack x cause).zc.ladder = s.zc.ladder ∧
    (s.takeBack x cause).zc.target = s.zc.target ∧ (s.takeBack x cause).zc.rate = s.zc.rate ∧
    (s.takeBack x cause).zc.held = s.zc.held ∧ (s.takeBack x cause).zc.pinned = s.zc.pinned ∧
    (s.takeBack x cause).zc.bounds = s.zc.bounds ∧ (s.takeBack x cause).cp.settings = s.cp.settings ∧
    (s.takeBack x cause).cp.deadline = s.cp.deadline ∧ (s.takeBack x cause).cp.compose = s.cp.compose ∧
    (s.takeBack x cause).cp.newest = s.cp.newest ∧ (s.takeBack x cause).cp.lastSent = s.cp.lastSent ∧
    (s.takeBack x cause).cp.fresh = s.cp.fresh ∧ (s.takeBack x cause).cp.overruns = s.cp.overruns ∧
    (s.takeBack x cause).cp.repeats = s.cp.repeats ∧ (s.takeBack x cause).cp.ping = s.cp.ping ∧
    (s.takeBack x cause).cp.pong = s.cp.pong ∧ (s.takeBack x cause).cp.stillCopy = s.cp.stillCopy ∧
    (s.takeBack x cause).op = s.op ∧ (s.takeBack x cause).cc = s.cc ∧ (s.takeBack x cause).pending = s.pending := by
  unfold State.takeBack
  (repeat' split) <;> simp

@[simp] theorem settleTaker_keeps (x : Spoiled) (s : State) :
    (s.settleTaker x).cru = s.cru ∧ (s.settleTaker x).link = s.link ∧ (s.settleTaker x).receivers = s.receivers ∧
    (s.settleTaker x).fs = s.fs ∧ (s.settleTaker x).gu = s.gu ∧ (s.settleTaker x).zc.ladder = s.zc.ladder ∧
    (s.settleTaker x).zc.target = s.zc.target ∧ (s.settleTaker x).zc.rate = s.zc.rate ∧
    (s.settleTaker x).zc.held = s.zc.held ∧ (s.settleTaker x).zc.pinned = s.zc.pinned ∧
    (s.settleTaker x).zc.bounds = s.zc.bounds ∧ (s.settleTaker x).cp.settings = s.cp.settings ∧
    (s.settleTaker x).cp.deadline = s.cp.deadline ∧ (s.settleTaker x).cp.compose = s.cp.compose ∧
    (s.settleTaker x).cp.newest = s.cp.newest ∧ (s.settleTaker x).cp.lastSent = s.cp.lastSent ∧
    (s.settleTaker x).cp.fresh = s.cp.fresh ∧ (s.settleTaker x).cp.overruns = s.cp.overruns ∧
    (s.settleTaker x).cp.repeats = s.cp.repeats ∧ (s.settleTaker x).cp.ping = s.cp.ping ∧
    (s.settleTaker x).cp.pong = s.cp.pong ∧ (s.settleTaker x).cp.stillCopy = s.cp.stillCopy ∧
    (s.settleTaker x).op = s.op ∧ (s.settleTaker x).cc = s.cc ∧ (s.settleTaker x).pending = s.pending := by
  unfold State.settleTaker
  (repeat' split) <;> simp

@[simp] theorem handleReport_keeps (i : Src) (x : Report) (s : State) :
    (s.handleReport i x).cru = s.cru ∧ (s.handleReport i x).link = s.link ∧
    (s.handleReport i x).receivers = s.receivers ∧ (s.handleReport i x).fs = s.fs ∧
    (s.handleReport i x).gu = s.gu ∧ (s.handleReport i x).zc.ladder = s.zc.ladder ∧
    (s.handleReport i x).zc.target = s.zc.target ∧ (s.handleReport i x).zc.rate = s.zc.rate ∧
    (s.handleReport i x).zc.held = s.zc.held ∧ (s.handleReport i x).zc.pinned = s.zc.pinned ∧
    (s.handleReport i x).zc.bounds = s.zc.bounds ∧ (s.handleReport i x).cp.settings = s.cp.settings ∧
    (s.handleReport i x).cp.deadline = s.cp.deadline ∧ (s.handleReport i x).cp.compose = s.cp.compose ∧
    (s.handleReport i x).cp.newest = s.cp.newest ∧ (s.handleReport i x).cp.lastSent = s.cp.lastSent ∧
    (s.handleReport i x).cp.fresh = s.cp.fresh ∧ (s.handleReport i x).cp.overruns = s.cp.overruns ∧
    (s.handleReport i x).cp.repeats = s.cp.repeats ∧ (s.handleReport i x).cp.ping = s.cp.ping ∧
    (s.handleReport i x).cp.pong = s.cp.pong ∧ (s.handleReport i x).cp.stillCopy = s.cp.stillCopy ∧
    (s.handleReport i x).op = s.op ∧ (s.handleReport i x).cc = s.cc ∧ (s.handleReport i x).pending = s.pending := by
  unfold State.handleReport
  (repeat' split) <;> simp

@[simp] theorem takeReport_keeps (i : Src) (s : State) :
    (s.takeReport i).cru = s.cru ∧ (s.takeReport i).link = s.link ∧ (s.takeReport i).receivers = s.receivers ∧
    (s.takeReport i).fs = s.fs ∧ (s.takeReport i).gu = s.gu ∧ (s.takeReport i).zc.ladder = s.zc.ladder ∧
    (s.takeReport i).zc.target = s.zc.target ∧ (s.takeReport i).zc.rate = s.zc.rate ∧
    (s.takeReport i).zc.held = s.zc.held ∧ (s.takeReport i).zc.pinned = s.zc.pinned ∧
    (s.takeReport i).zc.bounds = s.zc.bounds ∧ (s.takeReport i).cp.settings = s.cp.settings ∧
    (s.takeReport i).cp.deadline = s.cp.deadline ∧ (s.takeReport i).cp.compose = s.cp.compose ∧
    (s.takeReport i).cp.newest = s.cp.newest ∧ (s.takeReport i).cp.lastSent = s.cp.lastSent ∧
    (s.takeReport i).cp.fresh = s.cp.fresh ∧ (s.takeReport i).cp.overruns = s.cp.overruns ∧
    (s.takeReport i).cp.repeats = s.cp.repeats ∧ (s.takeReport i).cp.ping = s.cp.ping ∧
    (s.takeReport i).cp.pong = s.cp.pong ∧ (s.takeReport i).cp.stillCopy = s.cp.stillCopy ∧
    (s.takeReport i).op = s.op ∧ (s.takeReport i).cc = s.cc ∧ (s.takeReport i).pending = s.pending := by
  unfold State.takeReport
  (repeat' split) <;> simp

end Sys2Proof.Machine
end

