-- ==== Sys2Proof/Laws/Output.lean ====
section
/-! SUPPORT. What each operation of the stills and of the output leaves unchanged. -/

namespace Sys2Proof.Machine

/-! Stills -/

@[simp] theorem fillOne_keeps (s : State) :
    s.fillOne.cru = s.cru ∧ s.fillOne.link = s.link ∧ s.fillOne.nq = s.nq ∧ s.fillOne.sources = s.sources ∧
    s.fillOne.receivers = s.receivers ∧ s.fillOne.fs = s.fs ∧ s.fillOne.gu = s.gu ∧ s.fillOne.zc = s.zc ∧
    s.fillOne.cp = s.cp ∧ s.fillOne.op.video = s.op.video ∧ s.fillOne.op.group = s.op.group ∧
    s.fillOne.cc.lastId = s.cc.lastId ∧ s.fillOne.pending = s.pending := by
  unfold State.fillOne
  (repeat' split) <;> simp

@[simp] theorem fillQueue_keeps (s : State) :
    s.fillQueue.cru = s.cru ∧ s.fillQueue.link = s.link ∧ s.fillQueue.nq = s.nq ∧ s.fillQueue.sources = s.sources ∧
    s.fillQueue.receivers = s.receivers ∧ s.fillQueue.fs = s.fs ∧ s.fillQueue.gu = s.gu ∧ s.fillQueue.zc = s.zc ∧
    s.fillQueue.cp = s.cp ∧ s.fillQueue.op.video = s.op.video ∧ s.fillQueue.op.group = s.op.group ∧
    s.fillQueue.cc.lastId = s.cc.lastId ∧ s.fillQueue.pending = s.pending := by
  simp [State.fillQueue]

@[simp] theorem createStill_keeps (x : Still) (s : State) :
    (s.createStill x).cru = s.cru ∧ (s.createStill x).link = s.link ∧ (s.createStill x).nq = s.nq ∧
    (s.createStill x).sources = s.sources ∧ (s.createStill x).receivers = s.receivers ∧
    (s.createStill x).fs = s.fs ∧ (s.createStill x).gu = s.gu ∧ (s.createStill x).zc = s.zc ∧
    (s.createStill x).cp = s.cp ∧ (s.createStill x).op = s.op ∧ (s.createStill x).pending = s.pending :=
  ⟨rfl, rfl, rfl, rfl, rfl, rfl, rfl, rfl, rfl, rfl, rfl⟩

@[simp] theorem endStill_keeps (x : Still) (s : State) :
    (s.endStill x).cru = s.cru ∧ (s.endStill x).link = s.link ∧ (s.endStill x).nq = s.nq ∧
    (s.endStill x).sources = s.sources ∧ (s.endStill x).receivers = s.receivers ∧
    (s.endStill x).fs.slots = s.fs.slots ∧ (s.endStill x).gu = s.gu ∧ (s.endStill x).zc = s.zc ∧
    (s.endStill x).cp = s.cp ∧ (s.endStill x).op.video = s.op.video ∧ (s.endStill x).op.group = s.op.group ∧
    (s.endStill x).cc.lastId = s.cc.lastId ∧ (s.endStill x).pending = s.pending := by
  unfold State.endStill
  (repeat' split) <;> simp

@[simp] theorem pinFrame_keeps (i : Src) (r : FrameRec) (s : State) :
    (s.pinFrame i r).cru = s.cru ∧ (s.pinFrame i r).link = s.link ∧ (s.pinFrame i r).nq = s.nq ∧
    (s.pinFrame i r).sources = s.sources ∧ (s.pinFrame i r).receivers = s.receivers ∧
    (s.pinFrame i r).fs.slots = s.fs.slots ∧ (s.pinFrame i r).gu = s.gu ∧ (s.pinFrame i r).zc = s.zc ∧
    (s.pinFrame i r).cp = s.cp ∧ (s.pinFrame i r).op.video = s.op.video ∧ (s.pinFrame i r).op.group = s.op.group ∧
    (s.pinFrame i r).pending = s.pending := by
  simp [State.pinFrame]

@[simp] theorem stillTakeKnown_keeps (i : Src) (s : State) :
    (s.stillTakeKnown i).state.cru = s.cru ∧ (s.stillTakeKnown i).state.link = s.link ∧
    (s.stillTakeKnown i).state.nq = s.nq ∧ (s.stillTakeKnown i).state.sources = s.sources ∧
    (s.stillTakeKnown i).state.receivers = s.receivers ∧ (s.stillTakeKnown i).state.fs.slots = s.fs.slots ∧
    (s.stillTakeKnown i).state.gu = s.gu ∧ (s.stillTakeKnown i).state.zc = s.zc ∧
    (s.stillTakeKnown i).state.cp = s.cp ∧ (s.stillTakeKnown i).state.op.video = s.op.video ∧
    (s.stillTakeKnown i).state.op.group = s.op.group ∧ (s.stillTakeKnown i).state.pending = s.pending := by
  unfold State.stillTakeKnown
  (repeat' split) <;> simp

@[simp] theorem stillTakeSource_keeps (src : Byte) (s : State) :
    (s.stillTakeSource src).state.cru = s.cru ∧ (s.stillTakeSource src).state.link = s.link ∧
    (s.stillTakeSource src).state.nq = s.nq ∧ (s.stillTakeSource src).state.sources = s.sources ∧
    (s.stillTakeSource src).state.receivers = s.receivers ∧ (s.stillTakeSource src).state.fs.slots = s.fs.slots ∧
    (s.stillTakeSource src).state.gu = s.gu ∧ (s.stillTakeSource src).state.zc = s.zc ∧
    (s.stillTakeSource src).state.cp = s.cp ∧ (s.stillTakeSource src).state.op.video = s.op.video ∧
    (s.stillTakeSource src).state.op.group = s.op.group ∧ (s.stillTakeSource src).state.pending = s.pending := by
  unfold State.stillTakeSource
  (repeat' split) <;> simp

@[simp] theorem stillTakeFused_keeps (s : State) :
    (s.stillTakeFused).state.cru = s.cru ∧ (s.stillTakeFused).state.link = s.link ∧
    (s.stillTakeFused).state.nq = s.nq ∧ (s.stillTakeFused).state.sources = s.sources ∧
    (s.stillTakeFused).state.receivers = s.receivers ∧ (s.stillTakeFused).state.fs = s.fs ∧
    (s.stillTakeFused).state.gu = s.gu ∧ (s.stillTakeFused).state.zc = s.zc ∧ (s.stillTakeFused).state.cp = s.cp ∧
    (s.stillTakeFused).state.op = s.op ∧ (s.stillTakeFused).state.pending = s.pending := by
  unfold State.stillTakeFused
  (repeat' split) <;> simp

@[simp] theorem captureFused_keeps (pic : Picture) (s : State) :
    (s.captureFused pic).cru = s.cru ∧ (s.captureFused pic).link = s.link ∧ (s.captureFused pic).nq = s.nq ∧
    (s.captureFused pic).sources = s.sources ∧ (s.captureFused pic).receivers = s.receivers ∧
    (s.captureFused pic).fs = s.fs ∧ (s.captureFused pic).gu = s.gu ∧ (s.captureFused pic).zc = s.zc ∧
    (s.captureFused pic).cp.settings = s.cp.settings ∧ (s.captureFused pic).cp.sub = s.cp.sub ∧
    (s.captureFused pic).cp.pendingPrimary = s.cp.pendingPrimary ∧
    (s.captureFused pic).cp.deadline = s.cp.deadline ∧ (s.captureFused pic).cp.compose = s.cp.compose ∧
    (s.captureFused pic).cp.newest = s.cp.newest ∧ (s.captureFused pic).cp.lastSent = s.cp.lastSent ∧
    (s.captureFused pic).cp.fresh = s.cp.fresh ∧ (s.captureFused pic).cp.overruns = s.cp.overruns ∧
    (s.captureFused pic).cp.repeats = s.cp.repeats ∧ (s.captureFused pic).cp.ping = s.cp.ping ∧
    (s.captureFused pic).cp.pong = s.cp.pong ∧ (s.captureFused pic).op.video = s.op.video ∧
    (s.captureFused pic).op.group = s.op.group ∧ (s.captureFused pic).cc.lastId = s.cc.lastId ∧
    (s.captureFused pic).pending = s.pending := by
  unfold State.captureFused
  (repeat' split) <;> simp

@[simp] theorem abortStill_keeps (x : Still) (cause : StillCause) (s : State) :
    (s.abortStill x cause).cru = s.cru ∧ (s.abortStill x cause).link = s.link ∧
    (s.abortStill x cause).sources = s.sources ∧ (s.abortStill x cause).receivers = s.receivers ∧
    (s.abortStill x cause).fs.slots = s.fs.slots ∧ (s.abortStill x cause).gu = s.gu ∧
    (s.abortStill x cause).zc = s.zc ∧ (s.abortStill x cause).cp = s.cp ∧
    (s.abortStill x cause).op.video = s.op.video ∧ (s.abortStill x cause).op.group = s.op.group ∧
    (s.abortStill x cause).cc.lastId = s.cc.lastId ∧ (s.abortStill x cause).pending = s.pending := by
  unfold State.abortStill
  (repeat' split) <;> simp

@[simp] theorem flowPause_keeps (s : State) :
    (s.flowPause).state.cru = s.cru ∧ (s.flowPause).state.link = s.link ∧ (s.flowPause).state.nq = s.nq ∧
    (s.flowPause).state.sources = s.sources ∧ (s.flowPause).state.receivers = s.receivers ∧
    (s.flowPause).state.fs = s.fs ∧ (s.flowPause).state.gu = s.gu ∧ (s.flowPause).state.zc = s.zc ∧
    (s.flowPause).state.cp = s.cp ∧ (s.flowPause).state.op = s.op ∧ (s.flowPause).state.cc.lastId = s.cc.lastId ∧
    (s.flowPause).state.pending = s.pending := by
  unfold State.flowPause
  (repeat' split) <;> simp

@[simp] theorem flowResume_keeps (s : State) :
    (s.flowResume).state.cru = s.cru ∧ (s.flowResume).state.link = s.link ∧ (s.flowResume).state.nq = s.nq ∧
    (s.flowResume).state.sources = s.sources ∧ (s.flowResume).state.receivers = s.receivers ∧
    (s.flowResume).state.fs = s.fs ∧ (s.flowResume).state.gu = s.gu ∧ (s.flowResume).state.zc = s.zc ∧
    (s.flowResume).state.cp = s.cp ∧ (s.flowResume).state.op.video = s.op.video ∧
    (s.flowResume).state.op.group = s.op.group ∧ (s.flowResume).state.cc.lastId = s.cc.lastId ∧
    (s.flowResume).state.pending = s.pending := by
  unfold State.flowResume
  (repeat' split) <;> simp

@[simp] theorem flowAbort_keeps (s : State) :
    (s.flowAbort).state.cru = s.cru ∧ (s.flowAbort).state.link = s.link ∧ (s.flowAbort).state.sources = s.sources ∧
    (s.flowAbort).state.receivers = s.receivers ∧ (s.flowAbort).state.fs.slots = s.fs.slots ∧
    (s.flowAbort).state.gu = s.gu ∧ (s.flowAbort).state.zc = s.zc ∧ (s.flowAbort).state.cp = s.cp ∧
    (s.flowAbort).state.op.video = s.op.video ∧ (s.flowAbort).state.op.group = s.op.group ∧
    (s.flowAbort).state.cc.lastId = s.cc.lastId ∧ (s.flowAbort).state.pending = s.pending := by
  unfold State.flowAbort
  (repeat' split) <;> simp

@[simp] theorem groupBegin_keeps (s : State) :
    s.groupBegin.cru = s.cru ∧ s.groupBegin.link = s.link ∧ s.groupBegin.nq = s.nq ∧
    s.groupBegin.sources = s.sources ∧ s.groupBegin.receivers = s.receivers ∧ s.groupBegin.fs = s.fs ∧
    s.groupBegin.gu = s.gu ∧ s.groupBegin.zc = s.zc ∧ s.groupBegin.cp = s.cp ∧ s.groupBegin.op.video = s.op.video ∧
    s.groupBegin.cc.lastId = s.cc.lastId ∧ s.groupBegin.pending = s.pending := by
  unfold State.groupBegin
  (repeat' split) <;> simp

@[simp] theorem postStillDone_keeps (x : Still) (s : State) :
    (s.postStillDone x).cru = s.cru ∧ (s.postStillDone x).link = s.link ∧ (s.postStillDone x).sources = s.sources ∧
    (s.postStillDone x).receivers = s.receivers ∧ (s.postStillDone x).fs = s.fs ∧ (s.postStillDone x).gu = s.gu ∧
    (s.postStillDone x).zc = s.zc ∧ (s.postStillDone x).cp = s.cp ∧ (s.postStillDone x).op = s.op ∧
    (s.postStillDone x).cc = s.cc ∧ (s.postStillDone x).pending = s.pending :=
  ⟨rfl, rfl, rfl, rfl, rfl, rfl, rfl, rfl, rfl, rfl, rfl⟩

@[simp] theorem afterGroup_keeps (number : Nat) (s : State) :
    (s.afterGroup number).cru = s.cru ∧ (s.afterGroup number).link = s.link ∧
    (s.afterGroup number).sources = s.sources ∧ (s.afterGroup number).receivers = s.receivers ∧
    (s.afterGroup number).fs.slots = s.fs.slots ∧ (s.afterGroup number).gu = s.gu ∧
    (s.afterGroup number).zc = s.zc ∧ (s.afterGroup number).cp = s.cp ∧
    (s.afterGroup number).op.video = s.op.video ∧ (s.afterGroup number).op.group = s.op.group ∧
    (s.afterGroup number).cc.lastId = s.cc.lastId ∧ (s.afterGroup number).pending = s.pending := by
  unfold State.afterGroup
  (repeat' split) <;> simp

@[simp] theorem groupEnd_keeps (s : State) :
    s.groupEnd.cru.resetHeld = s.cru.resetHeld ∧ s.groupEnd.cru.straps = s.cru.straps ∧
    s.groupEnd.cru.lock = s.cru.lock ∧ s.groupEnd.cru.test = s.cru.test ∧
    s.groupEnd.cru.linkResetAt = s.cru.linkResetAt ∧ s.groupEnd.link = s.link ∧ s.groupEnd.sources = s.sources ∧
    s.groupEnd.receivers = s.receivers ∧ s.groupEnd.fs.slots = s.fs.slots ∧ s.groupEnd.gu = s.gu ∧
    s.groupEnd.zc = s.zc ∧ s.groupEnd.cp = s.cp ∧ s.groupEnd.op.video = s.op.video ∧
    s.groupEnd.cc.lastId = s.cc.lastId ∧ s.groupEnd.pending = s.pending := by
  unfold State.groupEnd
  (repeat' split) <;> simp

@[simp] theorem pauseTimeout_keeps (s : State) :
    s.pauseTimeout.cru.resetHeld = s.cru.resetHeld ∧ s.pauseTimeout.cru.straps = s.cru.straps ∧
    s.pauseTimeout.cru.lock = s.cru.lock ∧ s.pauseTimeout.cru.test = s.cru.test ∧
    s.pauseTimeout.cru.linkResetAt = s.cru.linkResetAt ∧ s.pauseTimeout.link = s.link ∧
    s.pauseTimeout.sources = s.sources ∧ s.pauseTimeout.receivers = s.receivers ∧
    s.pauseTimeout.fs.slots = s.fs.slots ∧ s.pauseTimeout.gu = s.gu ∧ s.pauseTimeout.zc = s.zc ∧
    s.pauseTimeout.cp = s.cp ∧ s.pauseTimeout.op.video = s.op.video ∧ s.pauseTimeout.op.group = s.op.group ∧
    s.pauseTimeout.cc.lastId = s.cc.lastId ∧ s.pauseTimeout.pending = s.pending := by
  unfold State.pauseTimeout
  (repeat' split) <;> simp

/-! Output -/

@[simp] theorem outputSet_keeps (x : Settings) (queryOnly : Bool) (s : State) :
    (s.outputSet x queryOnly).state.cru = s.cru ∧ (s.outputSet x queryOnly).state.link = s.link ∧
    (s.outputSet x queryOnly).state.nq = s.nq ∧ (s.outputSet x queryOnly).state.sources = s.sources ∧
    (s.outputSet x queryOnly).state.receivers = s.receivers ∧ (s.outputSet x queryOnly).state.fs = s.fs ∧
    (s.outputSet x queryOnly).state.gu = s.gu ∧ (s.outputSet x queryOnly).state.zc = s.zc ∧
    (s.outputSet x queryOnly).state.cp.sub = s.cp.sub ∧
    (s.outputSet x queryOnly).state.cp.pendingPrimary = s.cp.pendingPrimary ∧
    (s.outputSet x queryOnly).state.cp.deadline = s.cp.deadline ∧
    (s.outputSet x queryOnly).state.cp.compose = s.cp.compose ∧
    (s.outputSet x queryOnly).state.cp.newest = s.cp.newest ∧
    (s.outputSet x queryOnly).state.cp.lastSent = s.cp.lastSent ∧
    (s.outputSet x queryOnly).state.cp.fresh = s.cp.fresh ∧
    (s.outputSet x queryOnly).state.cp.overruns = s.cp.overruns ∧
    (s.outputSet x queryOnly).state.cp.repeats = s.cp.repeats ∧
    (s.outputSet x queryOnly).state.cp.ping = s.cp.ping ∧ (s.outputSet x queryOnly).state.cp.pong = s.cp.pong ∧
    (s.outputSet x queryOnly).state.cp.stillCopy = s.cp.stillCopy ∧ (s.outputSet x queryOnly).state.op = s.op ∧
    (s.outputSet x queryOnly).state.cc = s.cc ∧ (s.outputSet x queryOnly).state.pending = s.pending := by
  unfold State.outputSet
  (repeat' split) <;> simp

@[simp] theorem beginOutput_keeps (s : State) :
    s.beginOutput.cru = s.cru ∧ s.beginOutput.link.phase = s.link.phase ∧
    s.beginOutput.link.current = s.link.current ∧ s.beginOutput.link.slot = s.link.slot ∧
    s.beginOutput.link.txn = s.link.txn ∧ s.beginOutput.link.sdo = s.link.sdo ∧ s.beginOutput.nq = s.nq ∧
    s.beginOutput.sources = s.sources ∧ s.beginOutput.receivers = s.receivers ∧ s.beginOutput.fs = s.fs ∧
    s.beginOutput.gu = s.gu ∧ s.beginOutput.zc.ladder = s.zc.ladder ∧ s.beginOutput.zc.target = s.zc.target ∧
    s.beginOutput.zc.shown = s.zc.shown ∧ s.beginOutput.zc.rate = s.zc.rate ∧ s.beginOutput.zc.held = s.zc.held ∧
    s.beginOutput.zc.pinned = s.zc.pinned ∧ s.beginOutput.zc.record = s.zc.record ∧
    s.beginOutput.zc.reports = s.zc.reports ∧ s.beginOutput.cp.settings = s.cp.settings ∧
    s.beginOutput.cp.sub = s.cp.sub ∧ s.beginOutput.cp.pendingPrimary = s.cp.pendingPrimary ∧
    s.beginOutput.cp.ping = s.cp.ping ∧ s.beginOutput.cp.pong = s.cp.pong ∧
    s.beginOutput.cp.stillCopy = s.cp.stillCopy ∧ s.beginOutput.op = s.op ∧ s.beginOutput.cc = s.cc ∧
    s.beginOutput.pending = s.pending :=
  ⟨rfl, rfl, rfl, rfl, rfl, rfl, rfl, rfl, rfl, rfl, rfl, rfl, rfl, rfl, rfl, rfl, rfl, rfl, rfl, rfl, rfl, rfl, rfl,
   rfl, rfl, rfl, rfl, rfl⟩

@[simp] theorem awaitPrimary_keeps (p : Src) (s : State) :
    (s.awaitPrimary p).cru = s.cru ∧ (s.awaitPrimary p).link = s.link ∧ (s.awaitPrimary p).nq = s.nq ∧
    (s.awaitPrimary p).receivers = s.receivers ∧ (s.awaitPrimary p).fs = s.fs ∧ (s.awaitPrimary p).gu = s.gu ∧
    (s.awaitPrimary p).zc = s.zc ∧ (s.awaitPrimary p).cp.settings = s.cp.settings ∧
    (s.awaitPrimary p).cp.deadline = s.cp.deadline ∧ (s.awaitPrimary p).cp.compose = s.cp.compose ∧
    (s.awaitPrimary p).cp.newest = s.cp.newest ∧ (s.awaitPrimary p).cp.lastSent = s.cp.lastSent ∧
    (s.awaitPrimary p).cp.fresh = s.cp.fresh ∧ (s.awaitPrimary p).cp.overruns = s.cp.overruns ∧
    (s.awaitPrimary p).cp.repeats = s.cp.repeats ∧ (s.awaitPrimary p).cp.ping = s.cp.ping ∧
    (s.awaitPrimary p).cp.pong = s.cp.pong ∧ (s.awaitPrimary p).cp.stillCopy = s.cp.stillCopy ∧
    (s.awaitPrimary p).op = s.op ∧ (s.awaitPrimary p).cc = s.cc ∧ (s.awaitPrimary p).pending = s.pending :=
  ⟨rfl, rfl, rfl, rfl, rfl, rfl, rfl, rfl, rfl, rfl, rfl, rfl, rfl, rfl, rfl, rfl, rfl, rfl, rfl, rfl, rfl⟩

@[simp] theorem placePrimary_keeps (p : Src) (s : State) :
    (s.placePrimary p).cru = s.cru ∧ (s.placePrimary p).link = s.link ∧
    (s.placePrimary p).receivers = s.receivers ∧ (s.placePrimary p).fs = s.fs ∧ (s.placePrimary p).gu = s.gu ∧
    (s.placePrimary p).zc.ladder = s.zc.ladder ∧ (s.placePrimary p).zc.target = s.zc.target ∧
    (s.placePrimary p).zc.shown = s.zc.shown ∧ (s.placePrimary p).zc.rate = s.zc.rate ∧
    (s.placePrimary p).zc.held = s.zc.held ∧ (s.placePrimary p).zc.pinned = s.zc.pinned ∧
    (s.placePrimary p).zc.bounds = s.zc.bounds ∧ (s.placePrimary p).zc.record = s.zc.record ∧
    (s.placePrimary p).cp.settings = s.cp.settings ∧ (s.placePrimary p).cp.deadline = s.cp.deadline ∧
    (s.placePrimary p).cp.compose = s.cp.compose ∧ (s.placePrimary p).cp.newest = s.cp.newest ∧
    (s.placePrimary p).cp.lastSent = s.cp.lastSent ∧ (s.placePrimary p).cp.fresh = s.cp.fresh ∧
    (s.placePrimary p).cp.overruns = s.cp.overruns ∧ (s.placePrimary p).cp.repeats = s.cp.repeats ∧
    (s.placePrimary p).cp.ping = s.cp.ping ∧ (s.placePrimary p).cp.pong = s.cp.pong ∧
    (s.placePrimary p).cp.stillCopy = s.cp.stillCopy ∧ (s.placePrimary p).op = s.op ∧
    (s.placePrimary p).cc = s.cc ∧ (s.placePrimary p).pending = s.pending := by
  unfold State.placePrimary
  (repeat' split) <;> simp

@[simp] theorem outputStart_keeps (s : State) :
    (s.outputStart).state.cru = s.cru ∧ (s.outputStart).state.link.phase = s.link.phase ∧
    (s.outputStart).state.link.current = s.link.current ∧ (s.outputStart).state.link.slot = s.link.slot ∧
    (s.outputStart).state.link.txn = s.link.txn ∧ (s.outputStart).state.link.sdo = s.link.sdo ∧
    (s.outputStart).state.receivers = s.receivers ∧ (s.outputStart).state.fs = s.fs ∧
    (s.outputStart).state.gu = s.gu ∧ (s.outputStart).state.zc.ladder = s.zc.ladder ∧
    (s.outputStart).state.zc.target = s.zc.target ∧ (s.outputStart).state.zc.shown = s.zc.shown ∧
    (s.outputStart).state.zc.rate = s.zc.rate ∧ (s.outputStart).state.zc.held = s.zc.held ∧
    (s.outputStart).state.zc.pinned = s.zc.pinned ∧ (s.outputStart).state.zc.record = s.zc.record ∧
    (s.outputStart).state.cp.settings = s.cp.settings ∧ (s.outputStart).state.cp.ping = s.cp.ping ∧
    (s.outputStart).state.cp.pong = s.cp.pong ∧ (s.outputStart).state.cp.stillCopy = s.cp.stillCopy ∧
    (s.outputStart).state.op = s.op ∧ (s.outputStart).state.cc = s.cc ∧ (s.outputStart).state.pending = s.pending := by
  unfold State.outputStart
  (repeat' split) <;> simp

@[simp] theorem endRole_keeps (i : Src) (s : State) :
    (s.endRole i).cru = s.cru ∧ (s.endRole i).link = s.link ∧ (s.endRole i).receivers = s.receivers ∧
    (s.endRole i).fs = s.fs ∧ (s.endRole i).gu = s.gu ∧ (s.endRole i).zc.ladder = s.zc.ladder ∧
    (s.endRole i).zc.target = s.zc.target ∧ (s.endRole i).zc.shown = s.zc.shown ∧
    (s.endRole i).zc.rate = s.zc.rate ∧ (s.endRole i).zc.held = s.zc.held ∧ (s.endRole i).zc.pinned = s.zc.pinned ∧
    (s.endRole i).zc.bounds = s.zc.bounds ∧ (s.endRole i).zc.record = s.zc.record ∧ (s.endRole i).cp = s.cp ∧
    (s.endRole i).op = s.op ∧ (s.endRole i).cc = s.cc ∧ (s.endRole i).pending = s.pending := by
  unfold State.endRole
  (repeat' split) <;> simp

@[simp] theorem endRoles_keeps (s : State) :
    s.endRoles.cru = s.cru ∧ s.endRoles.link = s.link ∧ s.endRoles.receivers = s.receivers ∧ s.endRoles.fs = s.fs ∧
    s.endRoles.gu = s.gu ∧ s.endRoles.zc.ladder = s.zc.ladder ∧ s.endRoles.zc.target = s.zc.target ∧
    s.endRoles.zc.shown = s.zc.shown ∧ s.endRoles.zc.rate = s.zc.rate ∧ s.endRoles.zc.held = s.zc.held ∧
    s.endRoles.zc.pinned = s.zc.pinned ∧ s.endRoles.zc.bounds = s.zc.bounds ∧ s.endRoles.zc.record = s.zc.record ∧
    s.endRoles.cp = s.cp ∧ s.endRoles.op = s.op ∧ s.endRoles.cc = s.cc ∧ s.endRoles.pending = s.pending := by
  simp [State.endRoles]

@[simp] theorem releaseAll_keeps (s : State) :
    s.releaseAll.cru = s.cru ∧ s.releaseAll.link = s.link ∧ s.releaseAll.nq = s.nq ∧
    s.releaseAll.sources = s.sources ∧ s.releaseAll.receivers = s.receivers ∧ s.releaseAll.fs.slots = s.fs.slots ∧
    s.releaseAll.gu = s.gu ∧ s.releaseAll.zc = s.zc ∧ s.releaseAll.cp = s.cp ∧ s.releaseAll.op = s.op ∧
    s.releaseAll.cc = s.cc ∧ s.releaseAll.pending = s.pending :=
  ⟨rfl, rfl, rfl, rfl, rfl, rfl, rfl, rfl, rfl, rfl, rfl, rfl⟩

@[simp] theorem clearHeld_keeps (s : State) :
    s.clearHeld.cru = s.cru ∧ s.clearHeld.link = s.link ∧ s.clearHeld.sources = s.sources ∧
    s.clearHeld.receivers = s.receivers ∧ s.clearHeld.fs = s.fs ∧ s.clearHeld.gu = s.gu ∧
    s.clearHeld.zc.ladder = s.zc.ladder ∧ s.clearHeld.zc.target = s.zc.target ∧ s.clearHeld.zc.shown = s.zc.shown ∧
    s.clearHeld.zc.rate = s.zc.rate ∧ s.clearHeld.zc.pinned = s.zc.pinned ∧ s.clearHeld.zc.bounds = s.zc.bounds ∧
    s.clearHeld.zc.record = s.zc.record ∧ s.clearHeld.zc.reports = s.zc.reports ∧ s.clearHeld.cp = s.cp ∧
    s.clearHeld.op = s.op ∧ s.clearHeld.cc = s.cc ∧ s.clearHeld.pending = s.pending := by
  unfold State.clearHeld
  (repeat' split) <;> simp

@[simp] theorem discardCompose_keeps (s : State) :
    s.discardCompose.cru = s.cru ∧ s.discardCompose.link = s.link ∧ s.discardCompose.nq = s.nq ∧
    s.discardCompose.sources = s.sources ∧ s.discardCompose.receivers = s.receivers ∧ s.discardCompose.fs = s.fs ∧
    s.discardCompose.gu = s.gu ∧ s.discardCompose.zc = s.zc ∧ s.discardCompose.cp.settings = s.cp.settings ∧
    s.discardCompose.cp.sub = s.cp.sub ∧ s.discardCompose.cp.pendingPrimary = s.cp.pendingPrimary ∧
    s.discardCompose.cp.deadline = s.cp.deadline ∧ s.discardCompose.cp.newest = s.cp.newest ∧
    s.discardCompose.cp.lastSent = s.cp.lastSent ∧ s.discardCompose.cp.fresh = s.cp.fresh ∧
    s.discardCompose.cp.overruns = s.cp.overruns ∧ s.discardCompose.cp.repeats = s.cp.repeats ∧
    s.discardCompose.cp.ping = s.cp.ping ∧ s.discardCompose.cp.pong = s.cp.pong ∧
    s.discardCompose.cp.stillCopy = s.cp.stillCopy ∧ s.discardCompose.op = s.op ∧ s.discardCompose.cc = s.cc ∧
    s.discardCompose.pending = s.pending :=
  ⟨rfl, rfl, rfl, rfl, rfl, rfl, rfl, rfl, rfl, rfl, rfl, rfl, rfl, rfl, rfl, rfl, rfl, rfl, rfl, rfl, rfl, rfl, rfl⟩

@[simp] theorem abortCapture_keeps (s : State) :
    s.abortCapture.cru = s.cru ∧ s.abortCapture.link = s.link ∧ s.abortCapture.sources = s.sources ∧
    s.abortCapture.receivers = s.receivers ∧ s.abortCapture.fs.slots = s.fs.slots ∧ s.abortCapture.gu = s.gu ∧
    s.abortCapture.zc = s.zc ∧ s.abortCapture.cp = s.cp ∧ s.abortCapture.op.video = s.op.video ∧
    s.abortCapture.op.group = s.op.group ∧ s.abortCapture.cc.lastId = s.cc.lastId ∧
    s.abortCapture.pending = s.pending := by
  unfold State.abortCapture
  (repeat' split) <;> simp

@[simp] theorem endOutput_keeps (s : State) :
    s.endOutput.cru = s.cru ∧ s.endOutput.link.phase = s.link.phase ∧ s.endOutput.link.current = s.link.current ∧
    s.endOutput.link.slot = s.link.slot ∧ s.endOutput.link.txn = s.link.txn ∧ s.endOutput.link.sdo = s.link.sdo ∧
    s.endOutput.nq = s.nq ∧ s.endOutput.sources = s.sources ∧ s.endOutput.receivers = s.receivers ∧
    s.endOutput.fs = s.fs ∧ s.endOutput.gu = s.gu ∧ s.endOutput.zc.ladder = s.zc.ladder ∧
    s.endOutput.zc.target = s.zc.target ∧ s.endOutput.zc.shown = s.zc.shown ∧ s.endOutput.zc.rate = s.zc.rate ∧
    s.endOutput.zc.held = s.zc.held ∧ s.endOutput.zc.record = s.zc.record ∧ s.endOutput.zc.reports = s.zc.reports ∧
    s.endOutput.cp.settings = s.cp.settings ∧ s.endOutput.cp.pendingPrimary = s.cp.pendingPrimary ∧
    s.endOutput.cp.compose = s.cp.compose ∧ s.endOutput.cp.newest = s.cp.newest ∧
    s.endOutput.cp.lastSent = s.cp.lastSent ∧ s.endOutput.cp.fresh = s.cp.fresh ∧
    s.endOutput.cp.overruns = s.cp.overruns ∧ s.endOutput.cp.repeats = s.cp.repeats ∧
    s.endOutput.cp.ping = s.cp.ping ∧ s.endOutput.cp.pong = s.cp.pong ∧ s.endOutput.cp.stillCopy = s.cp.stillCopy ∧
    s.endOutput.op = s.op ∧ s.endOutput.cc = s.cc ∧ s.endOutput.pending = s.pending :=
  ⟨rfl, rfl, rfl, rfl, rfl, rfl, rfl, rfl, rfl, rfl, rfl, rfl, rfl, rfl, rfl, rfl, rfl, rfl, rfl, rfl, rfl, rfl, rfl,
   rfl, rfl, rfl, rfl, rfl, rfl, rfl, rfl, rfl⟩

@[simp] theorem stopOutput_keeps (s : State) :
    s.stopOutput.cru = s.cru ∧ s.stopOutput.link.phase = s.link.phase ∧
    s.stopOutput.link.current = s.link.current ∧ s.stopOutput.link.slot = s.link.slot ∧
    s.stopOutput.link.txn = s.link.txn ∧ s.stopOutput.link.sdo = s.link.sdo ∧
    s.stopOutput.receivers = s.receivers ∧ s.stopOutput.fs.slots = s.fs.slots ∧ s.stopOutput.gu = s.gu ∧
    s.stopOutput.zc.ladder = s.zc.ladder ∧ s.stopOutput.zc.target = s.zc.target ∧
    s.stopOutput.zc.shown = s.zc.shown ∧ s.stopOutput.zc.rate = s.zc.rate ∧
    s.stopOutput.cp.settings = s.cp.settings ∧ s.stopOutput.cp.newest = s.cp.newest ∧
    s.stopOutput.cp.lastSent = s.cp.lastSent ∧ s.stopOutput.cp.fresh = s.cp.fresh ∧
    s.stopOutput.cp.overruns = s.cp.overruns ∧ s.stopOutput.cp.repeats = s.cp.repeats ∧
    s.stopOutput.cp.ping = s.cp.ping ∧ s.stopOutput.cp.pong = s.cp.pong ∧
    s.stopOutput.cp.stillCopy = s.cp.stillCopy ∧ s.stopOutput.op.video = s.op.video ∧
    s.stopOutput.op.group = s.op.group ∧ s.stopOutput.cc.lastId = s.cc.lastId ∧ s.stopOutput.pending = s.pending := by
  simp [State.stopOutput]

@[simp] theorem outputStop_keeps (s : State) :
    (s.outputStop).state.cru = s.cru ∧ (s.outputStop).state.link.phase = s.link.phase ∧
    (s.outputStop).state.link.current = s.link.current ∧ (s.outputStop).state.link.slot = s.link.slot ∧
    (s.outputStop).state.link.txn = s.link.txn ∧ (s.outputStop).state.link.sdo = s.link.sdo ∧
    (s.outputStop).state.receivers = s.receivers ∧ (s.outputStop).state.fs.slots = s.fs.slots ∧
    (s.outputStop).state.gu = s.gu ∧ (s.outputStop).state.zc.ladder = s.zc.ladder ∧
    (s.outputStop).state.zc.target = s.zc.target ∧ (s.outputStop).state.zc.shown = s.zc.shown ∧
    (s.outputStop).state.zc.rate = s.zc.rate ∧ (s.outputStop).state.cp.settings = s.cp.settings ∧
    (s.outputStop).state.cp.newest = s.cp.newest ∧ (s.outputStop).state.cp.lastSent = s.cp.lastSent ∧
    (s.outputStop).state.cp.fresh = s.cp.fresh ∧ (s.outputStop).state.cp.overruns = s.cp.overruns ∧
    (s.outputStop).state.cp.repeats = s.cp.repeats ∧ (s.outputStop).state.cp.ping = s.cp.ping ∧
    (s.outputStop).state.cp.pong = s.cp.pong ∧ (s.outputStop).state.cp.stillCopy = s.cp.stillCopy ∧
    (s.outputStop).state.op.video = s.op.video ∧ (s.outputStop).state.op.group = s.op.group ∧
    (s.outputStop).state.cc.lastId = s.cc.lastId ∧ (s.outputStop).state.pending = s.pending := by
  unfold State.outputStop
  (repeat' split) <;> simp

@[simp] theorem beginVideo_keeps (b : Buf) (s : State) :
    (s.beginVideo b).cru = s.cru ∧ (s.beginVideo b).link = s.link ∧ (s.beginVideo b).nq = s.nq ∧
    (s.beginVideo b).sources = s.sources ∧ (s.beginVideo b).receivers = s.receivers ∧ (s.beginVideo b).fs = s.fs ∧
    (s.beginVideo b).gu = s.gu ∧ (s.beginVideo b).zc = s.zc ∧ (s.beginVideo b).cp.settings = s.cp.settings ∧
    (s.beginVideo b).cp.sub = s.cp.sub ∧ (s.beginVideo b).cp.pendingPrimary = s.cp.pendingPrimary ∧
    (s.beginVideo b).cp.deadline = s.cp.deadline ∧ (s.beginVideo b).cp.compose = s.cp.compose ∧
    (s.beginVideo b).cp.newest = s.cp.newest ∧ (s.beginVideo b).cp.fresh = s.cp.fresh ∧
    (s.beginVideo b).cp.overruns = s.cp.overruns ∧ (s.beginVideo b).cp.repeats = s.cp.repeats ∧
    (s.beginVideo b).cp.ping = s.cp.ping ∧ (s.beginVideo b).cp.pong = s.cp.pong ∧
    (s.beginVideo b).cp.stillCopy = s.cp.stillCopy ∧ (s.beginVideo b).op.queue = s.op.queue ∧
    (s.beginVideo b).op.group = s.op.group ∧ (s.beginVideo b).cc = s.cc ∧ (s.beginVideo b).pending = s.pending :=
  ⟨rfl, rfl, rfl, rfl, rfl, rfl, rfl, rfl, rfl, rfl, rfl, rfl, rfl, rfl, rfl, rfl, rfl, rfl, rfl, rfl, rfl, rfl, rfl,
   rfl⟩

@[simp] theorem videoSend_keeps (s : State) :
    s.videoSend.cru = s.cru ∧ s.videoSend.link = s.link ∧ s.videoSend.nq = s.nq ∧ s.videoSend.sources = s.sources ∧
    s.videoSend.receivers = s.receivers ∧ s.videoSend.fs = s.fs ∧ s.videoSend.gu = s.gu ∧ s.videoSend.zc = s.zc ∧
    s.videoSend.cp.settings = s.cp.settings ∧ s.videoSend.cp.sub = s.cp.sub ∧
    s.videoSend.cp.pendingPrimary = s.cp.pendingPrimary ∧ s.videoSend.cp.deadline = s.cp.deadline ∧
    s.videoSend.cp.compose = s.cp.compose ∧ s.videoSend.cp.newest = s.cp.newest ∧
    s.videoSend.cp.overruns = s.cp.overruns ∧ s.videoSend.cp.repeats = s.cp.repeats ∧
    s.videoSend.cp.ping = s.cp.ping ∧ s.videoSend.cp.pong = s.cp.pong ∧ s.videoSend.cp.stillCopy = s.cp.stillCopy ∧
    s.videoSend.op.queue = s.op.queue ∧ s.videoSend.op.group = s.op.group ∧ s.videoSend.cc = s.cc ∧
    s.videoSend.pending = s.pending := by
  unfold State.videoSend
  (repeat' split) <;> simp

@[simp] theorem videoEnd_keeps (s : State) :
    s.videoEnd.cru.resetHeld = s.cru.resetHeld ∧ s.videoEnd.cru.straps = s.cru.straps ∧
    s.videoEnd.cru.lock = s.cru.lock ∧ s.videoEnd.cru.test = s.cru.test ∧
    s.videoEnd.cru.linkResetAt = s.cru.linkResetAt ∧ s.videoEnd.link = s.link ∧ s.videoEnd.nq = s.nq ∧
    s.videoEnd.sources = s.sources ∧ s.videoEnd.receivers = s.receivers ∧ s.videoEnd.fs = s.fs ∧
    s.videoEnd.gu = s.gu ∧ s.videoEnd.zc = s.zc ∧ s.videoEnd.cp = s.cp ∧ s.videoEnd.op.queue = s.op.queue ∧
    s.videoEnd.op.group = s.op.group ∧ s.videoEnd.cc = s.cc ∧ s.videoEnd.pending = s.pending := by
  unfold State.videoEnd
  (repeat' split) <;> simp

@[simp] theorem settleHold_keeps (l : List Chosen) (i : Src) (s : State) :
    (s.settleHold l i).cru = s.cru ∧ (s.settleHold l i).link = s.link ∧ (s.settleHold l i).nq = s.nq ∧
    (s.settleHold l i).sources = s.sources ∧ (s.settleHold l i).receivers = s.receivers ∧
    (s.settleHold l i).fs.slots = s.fs.slots ∧ (s.settleHold l i).gu = s.gu ∧ (s.settleHold l i).zc = s.zc ∧
    (s.settleHold l i).cp = s.cp ∧ (s.settleHold l i).op = s.op ∧ (s.settleHold l i).cc = s.cc ∧
    (s.settleHold l i).pending = s.pending := by
  unfold State.settleHold
  (repeat' split) <;> simp

@[simp] theorem settleHolds_keeps (l : List Chosen) (s : State) :
    (s.settleHolds l).cru = s.cru ∧ (s.settleHolds l).link = s.link ∧ (s.settleHolds l).nq = s.nq ∧
    (s.settleHolds l).sources = s.sources ∧ (s.settleHolds l).receivers = s.receivers ∧
    (s.settleHolds l).fs.slots = s.fs.slots ∧ (s.settleHolds l).gu = s.gu ∧ (s.settleHolds l).zc = s.zc ∧
    (s.settleHolds l).cp = s.cp ∧ (s.settleHolds l).op = s.op ∧ (s.settleHolds l).cc = s.cc ∧
    (s.settleHolds l).pending = s.pending := by
  simp [State.settleHolds]

@[simp] theorem openCompose_keeps (parts : List Part) (s : State) :
    (s.openCompose parts).cru = s.cru ∧ (s.openCompose parts).link = s.link ∧ (s.openCompose parts).nq = s.nq ∧
    (s.openCompose parts).sources = s.sources ∧ (s.openCompose parts).receivers = s.receivers ∧
    (s.openCompose parts).fs = s.fs ∧ (s.openCompose parts).gu.cal = s.gu.cal ∧ (s.openCompose parts).zc = s.zc ∧
    (s.openCompose parts).op = s.op ∧ (s.openCompose parts).cc = s.cc ∧ (s.openCompose parts).pending = s.pending :=
  ⟨rfl, rfl, rfl, rfl, rfl, rfl, rfl, rfl, rfl, rfl, rfl⟩

@[simp] theorem beginCompose_keeps (l : List Chosen) (s : State) :
    (s.beginCompose l).cru = s.cru ∧ (s.beginCompose l).link = s.link ∧ (s.beginCompose l).nq = s.nq ∧
    (s.beginCompose l).sources = s.sources ∧ (s.beginCompose l).receivers = s.receivers ∧
    (s.beginCompose l).fs.slots = s.fs.slots ∧ (s.beginCompose l).gu.cal = s.gu.cal ∧
    (s.beginCompose l).zc = s.zc ∧ (s.beginCompose l).op = s.op ∧ (s.beginCompose l).cc = s.cc ∧
    (s.beginCompose l).pending = s.pending := by
  simp [State.beginCompose]

@[simp] theorem countRepeat_keeps (cause : RepeatCause) (sources : List Src) (s : State) :
    (s.countRepeat cause sources).cru = s.cru ∧ (s.countRepeat cause sources).link = s.link ∧
    (s.countRepeat cause sources).sources = s.sources ∧ (s.countRepeat cause sources).receivers = s.receivers ∧
    (s.countRepeat cause sources).fs = s.fs ∧ (s.countRepeat cause sources).gu = s.gu ∧
    (s.countRepeat cause sources).zc = s.zc ∧ (s.countRepeat cause sources).cp.settings = s.cp.settings ∧
    (s.countRepeat cause sources).cp.sub = s.cp.sub ∧
    (s.countRepeat cause sources).cp.pendingPrimary = s.cp.pendingPrimary ∧
    (s.countRepeat cause sources).cp.deadline = s.cp.deadline ∧
    (s.countRepeat cause sources).cp.compose = s.cp.compose ∧
    (s.countRepeat cause sources).cp.newest = s.cp.newest ∧
    (s.countRepeat cause sources).cp.lastSent = s.cp.lastSent ∧
    (s.countRepeat cause sources).cp.fresh = s.cp.fresh ∧
    (s.countRepeat cause sources).cp.overruns = s.cp.overruns ∧ (s.countRepeat cause sources).cp.ping = s.cp.ping ∧
    (s.countRepeat cause sources).cp.pong = s.cp.pong ∧
    (s.countRepeat cause sources).cp.stillCopy = s.cp.stillCopy ∧ (s.countRepeat cause sources).op = s.op ∧
    (s.countRepeat cause sources).cc = s.cc ∧ (s.countRepeat cause sources).pending = s.pending :=
  ⟨rfl, rfl, rfl, rfl, rfl, rfl, rfl, rfl, rfl, rfl, rfl, rfl, rfl, rfl, rfl, rfl, rfl, rfl, rfl, rfl, rfl, rfl⟩

@[simp] theorem reportRepeat_keeps (left again : List Src) (s : State) :
    (s.reportRepeat left again).cru = s.cru ∧ (s.reportRepeat left again).link = s.link ∧
    (s.reportRepeat left again).sources = s.sources ∧ (s.reportRepeat left again).receivers = s.receivers ∧
    (s.reportRepeat left again).fs = s.fs ∧ (s.reportRepeat left again).gu = s.gu ∧
    (s.reportRepeat left again).zc = s.zc ∧ (s.reportRepeat left again).cp.settings = s.cp.settings ∧
    (s.reportRepeat left again).cp.sub = s.cp.sub ∧
    (s.reportRepeat left again).cp.pendingPrimary = s.cp.pendingPrimary ∧
    (s.reportRepeat left again).cp.deadline = s.cp.deadline ∧
    (s.reportRepeat left again).cp.compose = s.cp.compose ∧ (s.reportRepeat left again).cp.newest = s.cp.newest ∧
    (s.reportRepeat left again).cp.lastSent = s.cp.lastSent ∧ (s.reportRepeat left again).cp.fresh = s.cp.fresh ∧
    (s.reportRepeat left again).cp.overruns = s.cp.overruns ∧ (s.reportRepeat left again).cp.ping = s.cp.ping ∧
    (s.reportRepeat left again).cp.pong = s.cp.pong ∧ (s.reportRepeat left again).cp.stillCopy = s.cp.stillCopy ∧
    (s.reportRepeat left again).op = s.op ∧ (s.reportRepeat left again).cc = s.cc ∧
    (s.reportRepeat left again).pending = s.pending := by
  unfold State.reportRepeat
  (repeat' split) <;> simp

@[simp] theorem composeBegin_keeps (s : State) :
    s.composeBegin.cru = s.cru ∧ s.composeBegin.link = s.link ∧ s.composeBegin.sources = s.sources ∧
    s.composeBegin.receivers = s.receivers ∧ s.composeBegin.fs.slots = s.fs.slots ∧
    s.composeBegin.gu.cal = s.gu.cal ∧ s.composeBegin.zc = s.zc ∧ s.composeBegin.op = s.op ∧
    s.composeBegin.cc = s.cc ∧ s.composeBegin.pending = s.pending := by
  unfold State.composeBegin
  (repeat' split) <;> simp

@[simp] theorem overrun_keeps (s : State) :
    s.overrun.cru = s.cru ∧ s.overrun.link = s.link ∧ s.overrun.sources = s.sources ∧
    s.overrun.receivers = s.receivers ∧ s.overrun.fs = s.fs ∧ s.overrun.gu = s.gu ∧ s.overrun.zc = s.zc ∧
    s.overrun.cp.settings = s.cp.settings ∧ s.overrun.cp.sub = s.cp.sub ∧
    s.overrun.cp.pendingPrimary = s.cp.pendingPrimary ∧ s.overrun.cp.deadline = s.cp.deadline ∧
    s.overrun.cp.compose = s.cp.compose ∧ s.overrun.cp.newest = s.cp.newest ∧
    s.overrun.cp.lastSent = s.cp.lastSent ∧ s.overrun.cp.fresh = s.cp.fresh ∧ s.overrun.cp.repeats = s.cp.repeats ∧
    s.overrun.cp.ping = s.cp.ping ∧ s.overrun.cp.pong = s.cp.pong ∧ s.overrun.cp.stillCopy = s.cp.stillCopy ∧
    s.overrun.op = s.op ∧ s.overrun.cc = s.cc ∧ s.overrun.pending = s.pending := by
  unfold State.overrun
  (repeat' split) <;> simp

@[simp] theorem promotePending_keeps (s : State) :
    s.promotePending.cru = s.cru ∧ s.promotePending.link = s.link ∧ s.promotePending.receivers = s.receivers ∧
    s.promotePending.fs = s.fs ∧ s.promotePending.gu = s.gu ∧ s.promotePending.zc.ladder = s.zc.ladder ∧
    s.promotePending.zc.target = s.zc.target ∧ s.promotePending.zc.shown = s.zc.shown ∧
    s.promotePending.zc.rate = s.zc.rate ∧ s.promotePending.zc.held = s.zc.held ∧
    s.promotePending.zc.pinned = s.zc.pinned ∧ s.promotePending.zc.bounds = s.zc.bounds ∧
    s.promotePending.zc.record = s.zc.record ∧ s.promotePending.cp.settings = s.cp.settings ∧
    s.promotePending.cp.deadline = s.cp.deadline ∧ s.promotePending.cp.compose = s.cp.compose ∧
    s.promotePending.cp.newest = s.cp.newest ∧ s.promotePending.cp.lastSent = s.cp.lastSent ∧
    s.promotePending.cp.fresh = s.cp.fresh ∧ s.promotePending.cp.overruns = s.cp.overruns ∧
    s.promotePending.cp.repeats = s.cp.repeats ∧ s.promotePending.cp.ping = s.cp.ping ∧
    s.promotePending.cp.pong = s.cp.pong ∧ s.promotePending.cp.stillCopy = s.cp.stillCopy ∧
    s.promotePending.op = s.op ∧ s.promotePending.cc = s.cc ∧ s.promotePending.pending = s.pending := by
  unfold State.promotePending
  (repeat' split) <;> simp

@[simp] theorem tickWork_keeps (s : State) :
    s.tickWork.cru = s.cru ∧ s.tickWork.link = s.link ∧ s.tickWork.receivers = s.receivers ∧
    s.tickWork.fs.slots = s.fs.slots ∧ s.tickWork.gu.cal = s.gu.cal ∧ s.tickWork.zc.ladder = s.zc.ladder ∧
    s.tickWork.zc.target = s.zc.target ∧ s.tickWork.zc.rate = s.zc.rate ∧ s.tickWork.zc.pinned = s.zc.pinned ∧
    s.tickWork.op.queue = s.op.queue ∧ s.tickWork.op.group = s.op.group ∧ s.tickWork.cc = s.cc ∧
    s.tickWork.pending = s.pending := by
  unfold State.tickWork
  try dsimp only
  (repeat' split) <;> simp

@[simp] theorem tick_keeps (s : State) :
    s.tick.cru.resetHeld = s.cru.resetHeld ∧ s.tick.cru.straps = s.cru.straps ∧ s.tick.cru.lock = s.cru.lock ∧
    s.tick.cru.test = s.cru.test ∧ s.tick.cru.linkResetAt = s.cru.linkResetAt ∧ s.tick.link = s.link ∧
    s.tick.receivers = s.receivers ∧ s.tick.fs.slots = s.fs.slots ∧ s.tick.gu.cal = s.gu.cal ∧
    s.tick.zc.ladder = s.zc.ladder ∧ s.tick.zc.target = s.zc.target ∧ s.tick.zc.rate = s.zc.rate ∧
    s.tick.zc.pinned = s.zc.pinned ∧ s.tick.op.queue = s.op.queue ∧ s.tick.op.group = s.op.group ∧
    s.tick.cc = s.cc ∧ s.tick.pending = s.pending := by
  unfold State.tick
  (repeat' split) <;> simp

@[simp] theorem completeLive_keeps (k : Compose) (s : State) :
    (s.completeLive k).cru = s.cru ∧ (s.completeLive k).link = s.link ∧ (s.completeLive k).nq = s.nq ∧
    (s.completeLive k).sources = s.sources ∧ (s.completeLive k).receivers = s.receivers ∧
    (s.completeLive k).fs = s.fs ∧ (s.completeLive k).gu = s.gu ∧ (s.completeLive k).zc = s.zc ∧
    (s.completeLive k).op.video = s.op.video ∧ (s.completeLive k).op.group = s.op.group ∧
    (s.completeLive k).cc.lastId = s.cc.lastId ∧ (s.completeLive k).pending = s.pending := by
  simp [State.completeLive]

@[simp] theorem composeComplete_keeps (s : State) :
    s.composeComplete.cru = s.cru ∧ s.composeComplete.link = s.link ∧ s.composeComplete.nq = s.nq ∧
    s.composeComplete.sources = s.sources ∧ s.composeComplete.receivers = s.receivers ∧
    s.composeComplete.fs = s.fs ∧ s.composeComplete.gu = s.gu ∧ s.composeComplete.zc = s.zc ∧
    s.composeComplete.op.video = s.op.video ∧ s.composeComplete.op.group = s.op.group ∧
    s.composeComplete.cc.lastId = s.cc.lastId ∧ s.composeComplete.pending = s.pending := by
  unfold State.composeComplete
  (repeat' split) <;> simp

end Sys2Proof.Machine
end

