-- ==== Sys2Proof/Laws/Clock.lean ====
section
/-! SUPPORT. What each operation of the clock and reset unit, of the notices and of the control link leaves
unchanged. -/

namespace Sys2Proof.Machine

/-! Clock, notices and part state -/

@[simp] theorem release_keeps (x : Straps) (s : State) :
    (s.release x).cru.lock = s.cru.lock ∧ (s.release x).cru.time = s.cru.time ∧
    (s.release x).cru.test = s.cru.test ∧ (s.release x).cru.linkResetAt = s.cru.linkResetAt ∧
    (s.release x).link = s.link ∧ (s.release x).nq = s.nq ∧ (s.release x).sources = s.sources ∧
    (s.release x).receivers = s.receivers ∧ (s.release x).fs = s.fs ∧ (s.release x).gu = s.gu ∧
    (s.release x).zc = s.zc ∧ (s.release x).cp = s.cp ∧ (s.release x).op = s.op ∧ (s.release x).cc = s.cc ∧
    (s.release x).pending = s.pending := by
  unfold State.release
  (repeat' split) <;> simp

@[simp] theorem postReady_keeps (kind : ResetKind) (s : State) :
    (s.postReady kind).cru = s.cru ∧ (s.postReady kind).link.phase = s.link.phase ∧
    (s.postReady kind).link.current = s.link.current ∧ (s.postReady kind).link.slot = s.link.slot ∧
    (s.postReady kind).link.txn = s.link.txn ∧ (s.postReady kind).link.sdo = s.link.sdo ∧
    (s.postReady kind).sources = s.sources ∧ (s.postReady kind).receivers = s.receivers ∧
    (s.postReady kind).fs = s.fs ∧ (s.postReady kind).gu = s.gu ∧ (s.postReady kind).zc = s.zc ∧
    (s.postReady kind).cp = s.cp ∧ (s.postReady kind).op = s.op ∧ (s.postReady kind).cc = s.cc ∧
    (s.postReady kind).pending = s.pending :=
  ⟨rfl, rfl, rfl, rfl, rfl, rfl, rfl, rfl, rfl, rfl, rfl, rfl, rfl, rfl, rfl⟩

@[simp] theorem reachLock_keeps (s : State) :
    s.reachLock.cru.resetHeld = s.cru.resetHeld ∧ s.reachLock.cru.straps = s.cru.straps ∧
    s.reachLock.cru.time = s.cru.time ∧ s.reachLock.cru.test = s.cru.test ∧
    s.reachLock.cru.linkResetAt = s.cru.linkResetAt ∧ s.reachLock.link.phase = s.link.phase ∧
    s.reachLock.link.current = s.link.current ∧ s.reachLock.link.slot = s.link.slot ∧
    s.reachLock.link.txn = s.link.txn ∧ s.reachLock.link.sdo = s.link.sdo ∧ s.reachLock.sources = s.sources ∧
    s.reachLock.receivers = s.receivers ∧ s.reachLock.fs = s.fs ∧ s.reachLock.gu = s.gu ∧ s.reachLock.zc = s.zc ∧
    s.reachLock.cp = s.cp ∧ s.reachLock.op = s.op ∧ s.reachLock.cc = s.cc ∧ s.reachLock.pending = s.pending := by
  unfold State.reachLock
  (repeat' split) <;> simp

@[simp] theorem endLinkReset_keeps (s : State) :
    s.endLinkReset.cru.resetHeld = s.cru.resetHeld ∧ s.endLinkReset.cru.straps = s.cru.straps ∧
    s.endLinkReset.cru.lock = s.cru.lock ∧ s.endLinkReset.cru.time = s.cru.time ∧
    s.endLinkReset.cru.test = s.cru.test ∧ s.endLinkReset.link.phase = s.link.phase ∧
    s.endLinkReset.link.current = s.link.current ∧ s.endLinkReset.link.slot = s.link.slot ∧
    s.endLinkReset.link.txn = s.link.txn ∧ s.endLinkReset.link.sdo = s.link.sdo ∧
    s.endLinkReset.sources = s.sources ∧ s.endLinkReset.receivers = s.receivers ∧ s.endLinkReset.fs = s.fs ∧
    s.endLinkReset.gu = s.gu ∧ s.endLinkReset.zc = s.zc ∧ s.endLinkReset.cp = s.cp ∧ s.endLinkReset.op = s.op ∧
    s.endLinkReset.cc = s.cc ∧ s.endLinkReset.pending = s.pending := by
  unfold State.endLinkReset
  (repeat' split) <;> simp

@[simp] theorem endPulse_keeps (s : State) :
    s.endPulse.cru.resetHeld = s.cru.resetHeld ∧ s.endPulse.cru.straps = s.cru.straps ∧
    s.endPulse.cru.lock = s.cru.lock ∧ s.endPulse.cru.test = s.cru.test ∧
    s.endPulse.cru.linkResetAt = s.cru.linkResetAt ∧ s.endPulse.link = s.link ∧
    s.endPulse.nq.entries = s.nq.entries ∧ s.endPulse.nq.masked = s.nq.masked ∧
    s.endPulse.nq.urgent = s.nq.urgent ∧ s.endPulse.sources = s.sources ∧ s.endPulse.receivers = s.receivers ∧
    s.endPulse.fs = s.fs ∧ s.endPulse.gu = s.gu ∧ s.endPulse.zc = s.zc ∧ s.endPulse.cp = s.cp ∧
    s.endPulse.op = s.op ∧ s.endPulse.cc = s.cc ∧ s.endPulse.pending = s.pending := by
  unfold State.endPulse
  (repeat' split) <;> simp

@[simp] theorem ident_keeps (s : State) :
    (s.ident).state.cru = s.cru ∧ (s.ident).state.link = s.link ∧ (s.ident).state.nq = s.nq ∧
    (s.ident).state.sources = s.sources ∧ (s.ident).state.receivers = s.receivers ∧ (s.ident).state.fs = s.fs ∧
    (s.ident).state.gu = s.gu ∧ (s.ident).state.zc = s.zc ∧ (s.ident).state.cp = s.cp ∧ (s.ident).state.op = s.op ∧
    (s.ident).state.cc = s.cc ∧ (s.ident).state.pending = s.pending :=
  ⟨rfl, rfl, rfl, rfl, rfl, rfl, rfl, rfl, rfl, rfl, rfl, rfl⟩

@[simp] theorem beginTest_keeps (i : Src) (s : State) :
    (s.beginTest i).cru = s.cru ∧ (s.beginTest i).link = s.link ∧ (s.beginTest i).receivers = s.receivers ∧
    (s.beginTest i).fs = s.fs ∧ (s.beginTest i).gu = s.gu ∧ (s.beginTest i).zc = s.zc ∧ (s.beginTest i).cp = s.cp ∧
    (s.beginTest i).op = s.op ∧ (s.beginTest i).cc = s.cc ∧ (s.beginTest i).pending = s.pending := by
  unfold State.beginTest
  (repeat' split) <;> simp

@[simp] theorem linkTest_keeps (s : State) :
    (s.linkTest).state.cru.resetHeld = s.cru.resetHeld ∧ (s.linkTest).state.cru.straps = s.cru.straps ∧
    (s.linkTest).state.cru.lock = s.cru.lock ∧ (s.linkTest).state.cru.time = s.cru.time ∧
    (s.linkTest).state.cru.linkResetAt = s.cru.linkResetAt ∧ (s.linkTest).state.link = s.link ∧
    (s.linkTest).state.receivers = s.receivers ∧ (s.linkTest).state.fs = s.fs ∧ (s.linkTest).state.gu = s.gu ∧
    (s.linkTest).state.zc = s.zc ∧ (s.linkTest).state.cp = s.cp ∧ (s.linkTest).state.op = s.op ∧
    (s.linkTest).state.cc = s.cc ∧ (s.linkTest).state.pending = s.pending := by
  unfold State.linkTest
  (repeat' split) <;> simp

@[simp] theorem resetPart_keeps (s : State) :
    (s.resetPart).state.cru = s.cru ∧ (s.resetPart).state.link = s.link ∧ (s.resetPart).state.nq = s.nq ∧
    (s.resetPart).state.sources = s.sources ∧ (s.resetPart).state.receivers = s.receivers ∧
    (s.resetPart).state.fs = s.fs ∧ (s.resetPart).state.gu = s.gu ∧ (s.resetPart).state.zc = s.zc ∧
    (s.resetPart).state.cp = s.cp ∧ (s.resetPart).state.op = s.op ∧ (s.resetPart).state.cc = s.cc ∧
    (s.resetPart).state.pending = s.pending :=
  ⟨rfl, rfl, rfl, rfl, rfl, rfl, rfl, rfl, rfl, rfl, rfl, rfl⟩

@[simp] theorem nop_keeps (s : State) :
    (s.nop).state.cru = s.cru ∧ (s.nop).state.link = s.link ∧ (s.nop).state.nq = s.nq ∧
    (s.nop).state.sources = s.sources ∧ (s.nop).state.receivers = s.receivers ∧ (s.nop).state.fs = s.fs ∧
    (s.nop).state.gu = s.gu ∧ (s.nop).state.zc = s.zc ∧ (s.nop).state.cp = s.cp ∧ (s.nop).state.op = s.op ∧
    (s.nop).state.cc = s.cc ∧ (s.nop).state.pending = s.pending :=
  ⟨rfl, rfl, rfl, rfl, rfl, rfl, rfl, rfl, rfl, rfl, rfl, rfl⟩

@[simp] theorem parkAll_keeps (s : State) :
    s.parkAll.cru = s.cru ∧ s.parkAll.link = s.link ∧ s.parkAll.fs.slots = s.fs.slots ∧ s.parkAll.gu = s.gu ∧
    s.parkAll.zc = s.zc ∧ s.parkAll.cp = s.cp ∧ s.parkAll.op = s.op ∧ s.parkAll.cc = s.cc ∧
    s.parkAll.pending = s.pending := by
  simp [State.parkAll]

@[simp] theorem suspendPart_keeps (s : State) :
    s.suspendPart.cru = s.cru ∧ s.suspendPart.link.phase = s.link.phase ∧
    s.suspendPart.link.current = s.link.current ∧ s.suspendPart.link.slot = s.link.slot ∧
    s.suspendPart.link.txn = s.link.txn ∧ s.suspendPart.link.sdo = s.link.sdo ∧
    s.suspendPart.fs.slots = s.fs.slots ∧ s.suspendPart.gu = s.gu ∧ s.suspendPart.zc = s.zc ∧
    s.suspendPart.cp.settings = s.cp.settings ∧ s.suspendPart.cp.sub = s.cp.sub ∧
    s.suspendPart.cp.pendingPrimary = s.cp.pendingPrimary ∧ s.suspendPart.cp.deadline = s.cp.deadline ∧
    s.suspendPart.cp.newest = s.cp.newest ∧ s.suspendPart.cp.lastSent = s.cp.lastSent ∧
    s.suspendPart.cp.fresh = s.cp.fresh ∧ s.suspendPart.cp.overruns = s.cp.overruns ∧
    s.suspendPart.cp.repeats = s.cp.repeats ∧ s.suspendPart.cp.ping = s.cp.ping ∧
    s.suspendPart.cp.pong = s.cp.pong ∧ s.suspendPart.cp.stillCopy = s.cp.stillCopy ∧ s.suspendPart.op = s.op ∧
    s.suspendPart.cc = s.cc ∧ s.suspendPart.pending = s.pending := by
  simp [State.suspendPart]

@[simp] theorem suspend_keeps (s : State) :
    (s.suspend).state.cru = s.cru ∧ (s.suspend).state.link.phase = s.link.phase ∧
    (s.suspend).state.link.current = s.link.current ∧ (s.suspend).state.link.slot = s.link.slot ∧
    (s.suspend).state.link.txn = s.link.txn ∧ (s.suspend).state.link.sdo = s.link.sdo ∧
    (s.suspend).state.fs.slots = s.fs.slots ∧ (s.suspend).state.gu = s.gu ∧ (s.suspend).state.zc = s.zc ∧
    (s.suspend).state.cp.settings = s.cp.settings ∧ (s.suspend).state.cp.sub = s.cp.sub ∧
    (s.suspend).state.cp.pendingPrimary = s.cp.pendingPrimary ∧ (s.suspend).state.cp.deadline = s.cp.deadline ∧
    (s.suspend).state.cp.newest = s.cp.newest ∧ (s.suspend).state.cp.lastSent = s.cp.lastSent ∧
    (s.suspend).state.cp.fresh = s.cp.fresh ∧ (s.suspend).state.cp.overruns = s.cp.overruns ∧
    (s.suspend).state.cp.repeats = s.cp.repeats ∧ (s.suspend).state.cp.ping = s.cp.ping ∧
    (s.suspend).state.cp.pong = s.cp.pong ∧ (s.suspend).state.cp.stillCopy = s.cp.stillCopy ∧
    (s.suspend).state.op = s.op ∧ (s.suspend).state.cc = s.cc ∧ (s.suspend).state.pending = s.pending := by
  unfold State.suspend
  (repeat' split) <;> simp

@[simp] theorem resume_keeps (s : State) :
    (s.resume).state.cru = s.cru ∧ (s.resume).state.link.phase = s.link.phase ∧
    (s.resume).state.link.current = s.link.current ∧ (s.resume).state.link.slot = s.link.slot ∧
    (s.resume).state.link.txn = s.link.txn ∧ (s.resume).state.link.sdo = s.link.sdo ∧ (s.resume).state.nq = s.nq ∧
    (s.resume).state.sources = s.sources ∧ (s.resume).state.receivers = s.receivers ∧ (s.resume).state.fs = s.fs ∧
    (s.resume).state.gu = s.gu ∧ (s.resume).state.zc = s.zc ∧ (s.resume).state.cp = s.cp ∧
    (s.resume).state.op = s.op ∧ (s.resume).state.cc = s.cc ∧ (s.resume).state.pending = s.pending :=
  ⟨rfl, rfl, rfl, rfl, rfl, rfl, rfl, rfl, rfl, rfl, rfl, rfl, rfl, rfl, rfl, rfl⟩

@[simp] theorem noticeTake_keeps (s : State) :
    (s.noticeTake).state.cru = s.cru ∧ (s.noticeTake).state.link = s.link ∧
    (s.noticeTake).state.sources = s.sources ∧ (s.noticeTake).state.receivers = s.receivers ∧
    (s.noticeTake).state.fs = s.fs ∧ (s.noticeTake).state.gu = s.gu ∧ (s.noticeTake).state.zc = s.zc ∧
    (s.noticeTake).state.cp = s.cp ∧ (s.noticeTake).state.op = s.op ∧ (s.noticeTake).state.cc = s.cc ∧
    (s.noticeTake).state.pending = s.pending :=
  ⟨rfl, rfl, rfl, rfl, rfl, rfl, rfl, rfl, rfl, rfl, rfl⟩

@[simp] theorem noticeSetup_keeps (mask unmask urgent routine : KindSet) (s : State) :
    (s.noticeSetup mask unmask urgent routine).state.cru = s.cru ∧
    (s.noticeSetup mask unmask urgent routine).state.link = s.link ∧
    (s.noticeSetup mask unmask urgent routine).state.nq.entries = s.nq.entries ∧
    (s.noticeSetup mask unmask urgent routine).state.nq.attn = s.nq.attn ∧
    (s.noticeSetup mask unmask urgent routine).state.nq.pulse = s.nq.pulse ∧
    (s.noticeSetup mask unmask urgent routine).state.sources = s.sources ∧
    (s.noticeSetup mask unmask urgent routine).state.receivers = s.receivers ∧
    (s.noticeSetup mask unmask urgent routine).state.fs = s.fs ∧
    (s.noticeSetup mask unmask urgent routine).state.gu = s.gu ∧
    (s.noticeSetup mask unmask urgent routine).state.zc = s.zc ∧
    (s.noticeSetup mask unmask urgent routine).state.cp = s.cp ∧
    (s.noticeSetup mask unmask urgent routine).state.op = s.op ∧
    (s.noticeSetup mask unmask urgent routine).state.cc = s.cc ∧
    (s.noticeSetup mask unmask urgent routine).state.pending = s.pending := by
  and_intros <;> (unfold State.noticeSetup; (repeat' split) <;> rfl)

/-! Control link -/

@[simp] theorem deliver_keeps (r : Reply) (s : State) :
    (s.deliver r).cru = s.cru ∧ (s.deliver r).link.part = s.link.part ∧ (s.deliver r).link.phase = s.link.phase ∧
    (s.deliver r).link.current = s.link.current ∧ (s.deliver r).link.sdo = s.link.sdo ∧ (s.deliver r).nq = s.nq ∧
    (s.deliver r).sources = s.sources ∧ (s.deliver r).receivers = s.receivers ∧ (s.deliver r).fs = s.fs ∧
    (s.deliver r).gu = s.gu ∧ (s.deliver r).zc = s.zc ∧ (s.deliver r).cp = s.cp ∧ (s.deliver r).op = s.op ∧
    (s.deliver r).cc = s.cc ∧ (s.deliver r).pending = s.pending :=
  ⟨rfl, rfl, rfl, rfl, rfl, rfl, rfl, rfl, rfl, rfl, rfl, rfl, rfl, rfl, rfl⟩

@[simp] theorem decideTxn_keeps (s : State) :
    s.decideTxn.cru = s.cru ∧ s.decideTxn.link.part = s.link.part ∧ s.decideTxn.link.phase = s.link.phase ∧
    s.decideTxn.link.current = s.link.current ∧ s.decideTxn.link.sdo = s.link.sdo ∧ s.decideTxn.nq = s.nq ∧
    s.decideTxn.sources = s.sources ∧ s.decideTxn.receivers = s.receivers ∧ s.decideTxn.fs = s.fs ∧
    s.decideTxn.gu = s.gu ∧ s.decideTxn.zc = s.zc ∧ s.decideTxn.cp = s.cp ∧ s.decideTxn.op = s.op ∧
    s.decideTxn.cc = s.cc ∧ s.decideTxn.pending = s.pending := by
  unfold State.decideTxn
  (repeat' split) <;> simp

@[simp] theorem beginTransaction_keeps (s : State) :
    s.beginTransaction.cru = s.cru ∧ s.beginTransaction.link.part = s.link.part ∧
    s.beginTransaction.link.phase = s.link.phase ∧ s.beginTransaction.link.current = s.link.current ∧
    s.beginTransaction.link.sdo = s.link.sdo ∧ s.beginTransaction.nq = s.nq ∧
    s.beginTransaction.sources = s.sources ∧ s.beginTransaction.receivers = s.receivers ∧
    s.beginTransaction.fs = s.fs ∧ s.beginTransaction.gu = s.gu ∧ s.beginTransaction.zc = s.zc ∧
    s.beginTransaction.cp = s.cp ∧ s.beginTransaction.op = s.op ∧ s.beginTransaction.cc = s.cc ∧
    s.beginTransaction.pending = s.pending := by
  unfold State.beginTransaction
  (repeat' split) <;> simp

@[simp] theorem undoTransaction_keeps (t : Txn) (s : State) :
    (s.undoTransaction t).cru = s.cru ∧ (s.undoTransaction t).link.part = s.link.part ∧
    (s.undoTransaction t).link.phase = s.link.phase ∧ (s.undoTransaction t).link.current = s.link.current ∧
    (s.undoTransaction t).link.sdo = s.link.sdo ∧ (s.undoTransaction t).nq = s.nq ∧
    (s.undoTransaction t).sources = s.sources ∧ (s.undoTransaction t).receivers = s.receivers ∧
    (s.undoTransaction t).fs = s.fs ∧ (s.undoTransaction t).gu = s.gu ∧ (s.undoTransaction t).zc = s.zc ∧
    (s.undoTransaction t).cp = s.cp ∧ (s.undoTransaction t).op = s.op ∧ (s.undoTransaction t).cc = s.cc ∧
    (s.undoTransaction t).pending = s.pending := by
  unfold State.undoTransaction
  (repeat' split) <;> simp

@[simp] theorem closeTransaction_keeps (t : Txn) (n : Nat) (s : State) :
    (s.closeTransaction t n).cru = s.cru ∧ (s.closeTransaction t n).link.part = s.link.part ∧
    (s.closeTransaction t n).link.phase = s.link.phase ∧ (s.closeTransaction t n).link.current = s.link.current ∧
    (s.closeTransaction t n).link.slot = s.link.slot ∧ (s.closeTransaction t n).nq = s.nq ∧
    (s.closeTransaction t n).sources = s.sources ∧ (s.closeTransaction t n).receivers = s.receivers ∧
    (s.closeTransaction t n).fs = s.fs ∧ (s.closeTransaction t n).gu = s.gu ∧ (s.closeTransaction t n).zc = s.zc ∧
    (s.closeTransaction t n).cp = s.cp ∧ (s.closeTransaction t n).op = s.op ∧ (s.closeTransaction t n).cc = s.cc ∧
    (s.closeTransaction t n).pending = s.pending :=
  ⟨rfl, rfl, rfl, rfl, rfl, rfl, rfl, rfl, rfl, rfl, rfl, rfl, rfl, rfl, rfl⟩

@[simp] theorem serve_keeps (q : Request) (queryOnly : Bool) (s : State) :
    (s.serve q queryOnly).state.cru.resetHeld = s.cru.resetHeld ∧
    (s.serve q queryOnly).state.cru.straps = s.cru.straps ∧ (s.serve q queryOnly).state.cru.lock = s.cru.lock ∧
    (s.serve q queryOnly).state.cru.time = s.cru.time ∧
    (s.serve q queryOnly).state.cru.linkResetAt = s.cru.linkResetAt ∧
    (s.serve q queryOnly).state.link.phase = s.link.phase ∧
    (s.serve q queryOnly).state.link.current = s.link.current ∧
    (s.serve q queryOnly).state.link.slot = s.link.slot ∧ (s.serve q queryOnly).state.link.txn = s.link.txn ∧
    (s.serve q queryOnly).state.link.sdo = s.link.sdo ∧ (s.serve q queryOnly).state.fs.slots = s.fs.slots ∧
    (s.serve q queryOnly).state.cp.ping = s.cp.ping ∧ (s.serve q queryOnly).state.cp.pong = s.cp.pong ∧
    (s.serve q queryOnly).state.cp.stillCopy = s.cp.stillCopy ∧ (s.serve q queryOnly).state.op.video = s.op.video ∧
    (s.serve q queryOnly).state.op.group = s.op.group ∧ (s.serve q queryOnly).state.pending = s.pending := by
  unfold State.serve
  (repeat' split) <;> simp

@[simp] theorem answer_keeps (q : Request) (queryOnly : Bool) (s : State) :
    (s.answer q queryOnly).state.cru.resetHeld = s.cru.resetHeld ∧
    (s.answer q queryOnly).state.cru.straps = s.cru.straps ∧ (s.answer q queryOnly).state.cru.lock = s.cru.lock ∧
    (s.answer q queryOnly).state.cru.time = s.cru.time ∧
    (s.answer q queryOnly).state.cru.linkResetAt = s.cru.linkResetAt ∧
    (s.answer q queryOnly).state.link.phase = s.link.phase ∧
    (s.answer q queryOnly).state.link.current = s.link.current ∧
    (s.answer q queryOnly).state.link.slot = s.link.slot ∧ (s.answer q queryOnly).state.link.txn = s.link.txn ∧
    (s.answer q queryOnly).state.link.sdo = s.link.sdo ∧ (s.answer q queryOnly).state.fs.slots = s.fs.slots ∧
    (s.answer q queryOnly).state.cp.ping = s.cp.ping ∧ (s.answer q queryOnly).state.cp.pong = s.cp.pong ∧
    (s.answer q queryOnly).state.cp.stillCopy = s.cp.stillCopy ∧
    (s.answer q queryOnly).state.op.video = s.op.video ∧ (s.answer q queryOnly).state.op.group = s.op.group ∧
    (s.answer q queryOnly).state.pending = s.pending := by
  unfold State.answer
  (repeat' split) <;> simp

@[simp] theorem formReply_keeps (s : State) :
    s.formReply.cru = s.cru ∧ s.formReply.link.part = s.link.part ∧ s.formReply.link.txn = s.link.txn ∧
    s.formReply.link.sdo = s.link.sdo ∧ s.formReply.nq = s.nq ∧ s.formReply.sources = s.sources ∧
    s.formReply.receivers = s.receivers ∧ s.formReply.fs = s.fs ∧ s.formReply.gu = s.gu ∧ s.formReply.zc = s.zc ∧
    s.formReply.cp = s.cp ∧ s.formReply.op = s.op ∧ s.formReply.cc = s.cc ∧ s.formReply.pending = s.pending := by
  unfold State.formReply
  (repeat' split) <;> simp

end Sys2Proof.Machine
end

