-- ==== Sys2Proof/Laws/Link.lean ====
section
/-! SUPPORT. What a transaction and a request row can do, said once: a request row on a free link is its request's answer on
the machine as the delivery leaves it. -/

namespace Sys2Proof.Machine

/-! What a delivery leaves unchanged -/

@[simp] theorem delivered_keeps (n : Nat) (s : State) :
    (s.delivered n).cru = s.cru ∧ (s.delivered n).nq = s.nq ∧ (s.delivered n).sources = s.sources ∧
    (s.delivered n).receivers = s.receivers ∧ (s.delivered n).fs = s.fs ∧ (s.delivered n).gu = s.gu ∧
    (s.delivered n).zc = s.zc ∧ (s.delivered n).cp = s.cp ∧ (s.delivered n).op = s.op ∧ (s.delivered n).cc = s.cc ∧
    (s.delivered n).pending = s.pending ∧ (s.delivered n).link.part = s.link.part ∧
    (s.delivered n).link.phase = s.link.phase ∧ (s.delivered n).link.current = s.link.current ∧
    (s.delivered n).link.slot = none ∧ (s.delivered n).link.txn = none :=
  ⟨rfl, rfl, rfl, rfl, rfl, rfl, rfl, rfl, rfl, rfl, rfl, rfl, rfl, rfl, rfl, rfl⟩

@[simp] theorem source_delivered (n : Nat) (s : State) (i : Src) : (s.delivered n).source i = s.source i := rfl

@[simp] theorem ring_delivered (n : Nat) (s : State) (i : Src) : (s.delivered n).ring i = s.ring i := rfl

@[simp] theorem receiver_delivered (n : Nat) (s : State) (i : Src) : (s.delivered n).receiver i = s.receiver i := rfl

@[simp] theorem forming_keeps (raw : Option RawRequest) (r : Reply) (s : State) :
    (s.forming raw r).cru = s.cru ∧ (s.forming raw r).nq = s.nq ∧ (s.forming raw r).sources = s.sources ∧
    (s.forming raw r).receivers = s.receivers ∧ (s.forming raw r).fs = s.fs ∧ (s.forming raw r).gu = s.gu ∧
    (s.forming raw r).zc = s.zc ∧ (s.forming raw r).cp = s.cp ∧ (s.forming raw r).op = s.op ∧
    (s.forming raw r).cc = s.cc ∧ (s.forming raw r).pending = s.pending ∧
    (s.forming raw r).link.part = s.link.part ∧ (s.forming raw r).link.phase = .executing ∧
    (s.forming raw r).link.current = some ⟨raw, r, s.cru.time⟩ ∧ (s.forming raw r).link.slot = s.link.slot ∧
    (s.forming raw r).link.txn = s.link.txn ∧ (s.forming raw r).link.sdo = s.link.sdo :=
  ⟨rfl, rfl, rfl, rfl, rfl, rfl, rfl, rfl, rfl, rfl, rfl, rfl, rfl, rfl, rfl, rfl, rfl⟩

/-! A transaction on a free link -/

/-- On a free link a transaction of at least one byte delivers what waits and then acts. -/
theorem transaction_ready {s : State} (h : LinkReady s) (n : Nat) (action : State → State) :
    s.beginTransaction.endTransaction (n + 1) action = action (s.delivered (n + 1)) := by
  have hb : s.beginTransaction = s.decideTxn := by
    simp [State.beginTransaction, h.held, h.txn, h.part]
  rw [hb]
  rcases h.phase with ⟨hp, hs⟩ | ⟨r, hp, hs, hr⟩
  · simp [State.decideTxn, hp, hs, State.setTxn, State.endTransaction, State.closeTransaction, State.delivered,
      State.outgoing]
  · simp [State.decideTxn, hp, hs, State.deliver, hr, State.endTransaction, State.closeTransaction, State.delivered,
      State.outgoing]

/-- A request row on a free link takes its request on the machine as the delivery leaves it. -/
theorem hostRequest_ready {s : State} (h : LinkReady s) (tag : Byte) (queryOnly : Bool) (q : Request) :
    s.hostRequest tag queryOnly q = (s.delivered 257).takeRequest tag queryOnly q :=
  transaction_ready h 256 _

/-- A request whose answer is known is being executed with that answer's result and payload. -/
theorem takeRequest_of_answer {s : State} {q : Request} {queryOnly : Bool} {a : Answer}
    (h : s.answer q queryOnly = a) (tag : Byte) :
    s.takeRequest tag queryOnly q = a.state.answered tag queryOnly q a.result a.payload := by
  subst h; rfl

/-- A request that passes the length check, the table and the encoding check is its owner's. -/
theorem answer_served {s : State} {q : Request} (hl : q.lengthAgrees = true) (hp : s.link.part.passes q = true)
    (he : q.encodingGood = true) (queryOnly : Bool) : s.answer q queryOnly = s.serve q queryOnly := by
  simp [State.answer, hl, hp, he]

/-- A request row that reaches its owner completes with its owner's answer. -/
theorem hostRequest_served {s : State} (h : LinkReady s) {q : Request} (hl : q.lengthAgrees = true)
    (hp : s.link.part.passes q = true) (he : q.encodingGood = true) (tag : Byte) (queryOnly : Bool) {a : Answer}
    (ha : (s.delivered 257).serve q queryOnly = a) :
    s.hostRequest tag queryOnly q = a.state.answered tag queryOnly q a.result a.payload := by
  rw [hostRequest_ready h]
  exact takeRequest_of_answer ((answer_served (s := s.delivered 257) hl hp he queryOnly).trans ha) tag

end Sys2Proof.Machine
end

