-- ==== Sys2Proof/Tests/Slice0.lean ====
section
/-! SUPPORT. Small tests: the well-formedness smoke, the spec's worked cases, and for every statement with hypotheses a
concrete state and operands that meet them together. -/

namespace Sys2Proof.Tests
open Sys2Proof.Machine

/-! States for the tests -/

/-- A part in CONFIG at time 1000, nothing described. -/
def config : State :=
  { State.reset with
    cru := { State.reset.cru with resetHeld := false, lock := .locked, time := 1000 }
    link := { Link.reset with part := .config } }

/-- A defined source of 640 pixels with the enable line and the timer of its state; every timer is due at time 1000. -/
def source (x : SrcState) : Source :=
  { Source.reset with
    defined := true, width := 640, state := x, enable := x.powered
    settle := if x = .waking then some ⟨0, 1000⟩ else none
    sync := if x = .syncing then some ⟨0, 1000⟩ else none
    frame := if x.usable then some ⟨0, 1000⟩ else none
    cause := if x = .fault then some .link else none }

/-- The same source with base zoom, stretch and state given. -/
def lens (base stretch : Nat) (x : SrcState) : Source := { source x with base := base, stretch := stretch }

/-- The assembly of chapter 4 with these states. -/
def assembly (a b c d : SrcState) (s : State) : State :=
  { s with sources := ⟨lens 128 768 a, lens 256 1024 b, lens 768 512 c, lens 1280 1024 d⟩ }

/-- The ladder of chapter 4. -/
def ladder : Ladder := [⟨.s0, 0, 0, 0, 0⟩, ⟨.s1, 320, 360, 300, 330⟩, ⟨.s2, 700, 960, 800, 900⟩, ⟨.s3, 1350, 1500, 1320, 1450⟩]

/-- The records of LADDER_SET for it. -/
def rungs : List RungRec := [⟨0, 0, 0, 0, 0⟩, ⟨1, 320, 360, 300, 330⟩, ⟨2, 700, 960, 800, 900⟩, ⟨3, 1350, 1500, 1320, 1450⟩]

/-- A READY record on a slot. -/
def ready (k : Slot) : FrameRec :=
  { slot := k, width := 640, state := .ready, start := 5, counter := some 7, focus := some 9, window := some ⟨0, 0, 640, 360⟩,
    means := some ⟨1, 2, 3⟩, heldC := false, heldS := false }

/-- A FILLING record whose metadata line came. -/
def filling (k : Slot) : FrameRec := { ready k with state := .filling, means := none }

/-- A RUNNING output at Z = 800 with S1 PRIMARY, one READY frame of S1 and of S2, a tick due at 900. -/
def running : State :=
  (((assembly .parked .primary .warm .parked { config with
      link := { config.link with part := .streaming }
      cp := { Compositor.reset with sub := .running, deadline := some 900 }
      zc := { ZoomCtl.reset with ladder := some ladder, shown := 850, target := 850 } }).setRing .s1 [ready .s0]).setRing .s2
    [ready .s1])

/-- A record from S1 to S2. -/
def up (phase : Phase) (n index : Nat) : Transition :=
  { kind := .up, giver := .s1, taker := .s2, phase := phase, n := n, index := index, gains := .unit, run := 0, ticks := 2,
    limited := false, lastPair := some (5, 5), retargeted := false }

/-- A source still being sent. -/
def still (x : StillState) : Still :=
  { id := 5, kind := .fused, source := none, state := x, width := some 640, height := some 360, total := some 6, next := 2,
    begun := 0, pause := none }

theorem test_config_ready : LinkReady config := ⟨rfl, by decide, rfl, .inl ⟨rfl, rfl⟩⟩

theorem test_running_ready : LinkReady running := ⟨rfl, by decide, rfl, .inl ⟨rfl, rfl⟩⟩

theorem test_reply_waiting_ready :
    LinkReady { config with link := { config.link with phase := .replyReady, slot := some ⟨1, 2, .ok, []⟩ } } :=
  ⟨rfl, by decide, rfl, .inr ⟨⟨1, 2, .ok, []⟩, rfl, rfl, by decide⟩⟩

/-! Well-formedness: an ill-formed term for each check -/

theorem test_wf_frame_error : (Instr.frameError [0x00, 0x01]).wf = true ∧ (Instr.frameError []).wf = false ∧
    (Instr.frameError (RawRequest.frame ⟨1, 2, 0, []⟩)).wf = false := by decide +kernel

theorem test_wf_unknown : (Instr.unknown 0x17 0 0 []).wf = true ∧ (Instr.unknown 0x16 0 0 []).wf = false ∧
    (Instr.unknown 0x00 0 0 (List.replicate 251 0)).wf = false := by decide +kernel

theorem test_wf_cal_run : (Instr.calRun 0 0 0 1 0 (List.replicate 41 ⟨0, 0, 0⟩)).wf = true ∧
    (Instr.calRun 0 0 0 1 0 (List.replicate 42 ⟨0, 0, 0⟩)).wf = false ∧
    (Instr.calRunQueryOnly 0 0 0 1 0 (List.replicate 42 ⟨0, 0, 0⟩)).wf = false := by decide

theorem test_wf_ladder_set : (Instr.ladderSet 0 4 rungs).wf = true ∧
    (Instr.ladderSet 0 4 (List.replicate 28 ⟨0, 0, 0, 0, 0⟩)).wf = false ∧
    (Instr.ladderSetQueryOnly 0 4 (List.replicate 28 ⟨0, 0, 0, 0, 0⟩)).wf = false := by decide

theorem test_wf_lines : (Instr.metadataLine .s0 []).wf = false ∧ (Instr.imageLine .s0 []).wf = false ∧
    (Instr.imageLine .s0 [Pixel.black]).wf = true := by decide

theorem test_no_table_word : decodeTableWord 8 1 = none := by decide

/-! The spec's worked cases -/

theorem test_crc_check_value : crc [0x31, 0x32, 0x33, 0x34, 0x35, 0x36, 0x37, 0x38, 0x39] = 0x29B1 := by decide +kernel

/-- Chapter 3, the tele window: W = 4032, B = 768, Z = 1024, the lookup at focus code 400. -/
theorem test_tele_window :
    lookupPoints [⟨200, -1000, 300⟩, ⟨600, -1400, 340⟩] 400 = ⟨-1200, 320⟩ ∧
    cropWindow 4032 768 1024 ⟨-1200, 320⟩ = ⟨⟨724, 224, 3024, 1700⟩, false, false⟩ ∧ stretchOf 3840 3024 = 325 := by decide

/-- Chapter 3, the resample of the tele window to 3840 × 2160. -/
theorem test_tele_mapping : mapPosition 724 3024 3840 0 = 185344 ∧ mapPosition 724 3024 3840 1920 = 572388 ∧
    mapPosition 724 3024 3840 3839 = 959232 ∧ mapPosition 224 1700 2160 0 = 57344 ∧
    bilinear 400 420 440 460 228 64 = 428 := by decide

/-- Chapter 4, the ladder is taken with Zmin 128 and Zmax 5120. -/
theorem test_ladder_taken : ((assembly .parked .parked .parked .parked config).checkRungs rungs []).toOption = some ladder ∧
    (assembly .parked .parked .parked .parked config).zmin ladder = 128 ∧
    (assembly .parked .parked .parked .parked config).zmax ladder = 5120 := by decide

/-- Chapter 4, U_2 given as 1100 fails check 7 at rung 2. -/
theorem test_ladder_refused : ((assembly .parked .parked .parked .parked config).ladderSet 4
    [⟨0, 0, 0, 0, 0⟩, ⟨1, 320, 360, 300, 330⟩, ⟨2, 700, 1100, 800, 900⟩, ⟨3, 1350, 1500, 1320, 1450⟩] false).payload =
    [2, 7] := by decide

/-- Chapter 6, one pixel through a blend of N = 4 with matched gain 1100. -/
theorem test_blend_pixel :
    ([1, 2, 3, 4].map fun i => ({ up .blending 4 i with gains := ⟨1100, 1024, 1024⟩ } : Transition).weight) = [51, 102, 153, 204] ∧
    ([1, 2, 3, 4].map fun i => ({ up .blending 4 i with gains := ⟨1100, 1024, 1024⟩ } : Transition).blendGains.r) =
      [1085, 1070, 1055, 1040] ∧
    blended 500 (gained 460 1085) 51 = 497 ∧ blended 1010 (gained 1000 1085) 51 = 1013 := by decide

/-- Chapter 6, clamped ratios. -/
theorem test_clamped_ratios :
    Gains.update .unit ⟨900, 500, 40⟩ ⟨300, 0, 200⟩ = ⟨1280, 1280, 896⟩ ∧ anyClamped ⟨900, 500, 40⟩ ⟨300, 0, 200⟩ = true := by
  decide

/-- Chapter 1, a settle deadline across a wrap. -/
theorem test_wrap : Timer.expired ⟨4294950000, 40000⟩ 10000 = false ∧ Timer.expired ⟨4294950000, 40000⟩ 22704 = true := by
  decide

/-- Chapter 8, the groups of the 4032 × 2268 still. -/
theorem test_groups : totalGroups 2268 = 36 ∧ groupLineCount 2268 35 = 28 ∧ transmissionTime (64 * 4032) = 207 ∧
    transmissionTime (28 * 4032) = 91 ∧ transmissionTime (1920 * 1080) = 1659 := by decide

/-! The premises of the statements hold together somewhere: one theorem for each statement with hypotheses, one conjunct for
each clause -/

/-- A part in RESET whose transaction has delivered the reply to RESET_PART. -/
def delivering (take resets : Bool) : State :=
  { config with link := { config.link with phase := .replyReady, txn := some ⟨.reply ⟨4, 2, .ok, []⟩, take, resets⟩ } }

/-- The part in the RESET span of a link reset. -/
def resting : State :=
  { State.reset with cru := { config.cru with linkResetAt := some 900 }, link := .reset }

/-- The link with a request being executed. -/
def executing : State :=
  { config with link := { config.link with phase := .executing, current := some ⟨some ⟨1, 2, 0, []⟩, ⟨1, 2, .ok, []⟩, 1000⟩ } }

/-- The link with a reply waiting. -/
def waiting : State := { config with link := { config.link with phase := .replyReady, slot := some ⟨1, 2, .ok, []⟩ } }

/-- A suspended part. -/
def suspended : State := { config with link := { config.link with part := .suspended } }

theorem test_suspended_ready : LinkReady suspended := ⟨rfl, by decide, rfl, .inl ⟨rfl, rfl⟩⟩

/-- A part in CONFIG with one source in a state, the others PARKED. -/
def only (i : Src) (x : SrcState) : State := config.setSource i (source x)

theorem test_only_ready (i : Src) (x : SrcState) : LinkReady (only i x) := by
  cases i <;> exact ⟨rfl, by show PartState.config ≠ .reset; decide, rfl, .inl ⟨rfl, rfl⟩⟩

/-- An output that streams with these source states and this record. -/
def streaming (a b c d : SrcState) (r : Option Transition) : State :=
  assembly a b c d { running with zc := { running.zc with record := r } }

theorem test_streaming_ready (a b c d : SrcState) (r : Option Transition) : LinkReady (streaming a b c d r) :=
  ⟨rfl, by show PartState.streaming ≠ .reset; decide, rfl, .inl ⟨rfl, rfl⟩⟩

/-- A link test with one source under test, SYNCING. -/
def testing : State :=
  { config.setSource .s1 { source .syncing with purpose := .test } with
    cru := { config.cru with test := some ⟨900, ⟨.notTested, .pending, .notTested, .notTested⟩⟩ } }

/-- A part in CONFIG with the ladder of chapter 4, at Z = 1000: the starting rung is S2's. -/
def prepared (x : SrcState) : State :=
  assembly .parked .parked x .parked { config with zc := { ZoomCtl.reset with ladder := some ladder, shown := 1000, target := 1000 } }

/-- A STARTING output whose pending primary is in this state. -/
def starting (x : SrcState) : State :=
  let s := streaming .parked x .parked .parked none
  { s with cp := { s.cp with sub := .starting, pendingPrimary := some .s1 } }

/-- A FROZEN output with this record, S0 in this state. -/
def frozen (x : SrcState) (r : Option Transition) : State :=
  let s := streaming x .fault .parked .parked r
  { s with cp := { s.cp with sub := .frozen } }

/-- A fused still of 360 lines on its way, this group in transmission. -/
def sending (g : Option GroupTx) (queue : List Nat) (pause : Option Timer) : State :=
  { config with
    cc := ⟨some { still .sending with pause := pause }, 5⟩
    op := ⟨none, queue, g⟩ }

theorem test_every_step_completes_premises :
    running.pending = [] ∧ running.due.head? = some (.frameTimeout .s1) ∧ config.due = [] ∧ config.cru.lock = .locked ∧
    State.reset.pending = [] ∧ State.reset.due = [] ∧ State.reset.cru.lock = .locking := by decide

theorem test_reset_values_premises : (delivering false true).link.txn = some ⟨.reply ⟨4, 2, .ok, []⟩, false, true⟩ := rfl

theorem test_reset_is_left_premises :
    State.reset.cru.resetHeld = true ∧
    ({ State.reset with cru := { State.reset.cru with resetHeld := false } } : State).cru.lock = .locking ∧
    resting.link.part = .reset ∧ resting.cru.lock = .locked ∧ resting.nq = ⟨[], 0, 0, false, none⟩ := by decide

theorem test_transaction_decisions_premises :
    resting.cru.resetHeld = false ∧ resting.link.txn = none ∧ resting.link.part = .reset ∧ config.cru.resetHeld = false ∧
    config.link.txn = none ∧ config.link.part ≠ .reset ∧ config.link.phase = .idle ∧ executing.cru.resetHeld = false ∧
    executing.link.txn = none ∧ executing.link.part ≠ .reset ∧ executing.link.phase = .executing ∧
    waiting.cru.resetHeld = false ∧ waiting.link.txn = none ∧ waiting.link.part ≠ .reset ∧
    waiting.link.phase = .replyReady ∧ waiting.link.slot = some ⟨1, 2, .ok, []⟩ ∧
    (delivering false false).link.txn = some ⟨.reply ⟨4, 2, .ok, []⟩, false, false⟩ := by decide

theorem test_reply_formed_and_sent_premises :
    executing.link.phase = .executing ∧
    executing.link.current = some ⟨some ⟨1, 2, 0, []⟩, ⟨1, 2, .ok, []⟩, 1000⟩ ∧
    (delivering true false).link.txn = some ⟨.reply ⟨4, 2, .ok, []⟩, true, false⟩ := by decide

/-- One frame for each check of R169, the length field at 250 and at 251, and the bytes of a frame one short. -/
theorem test_frame_errors_premises :
    frameCheck [0x00] = some .badSync ∧ frameCheck [0xA5] = some .badLengthField ∧
    frameCheck [0xA5, 251] = some .badLengthField ∧ frameCheck [0xA5, 250] = some .short ∧
    frameCheck [0xA5, 0, 1, 2, 0, 0] = some .short ∧ frameCheck [0xA5, 0, 1, 2, 0, 0, 0] = some .badCrc ∧
    ([1, 2, 0] : List Byte).length = (0 : Byte).toNat + 3 := by decide +kernel

theorem test_frame_round_trip_premises : frameCheck (RawRequest.frame ⟨1, 2, 0, []⟩ ++ [0, 0]) = none := by decide +kernel

theorem test_request_row_premises :
    (Request.nop).lengthAgrees = true ∧ (Request.nop).payload.length ≤ 250 ∧
    (((Request.nop).raw 2 (modifierByte false)).frame ++ List.replicate 250 0).length = 257 ∧
    (Request.ladderSet 4 rungs).lengthAgrees = true ∧ (Request.ladderSet 4 rungs).mayQuery = true := by decide +kernel

theorem test_requests_refused_premises :
    (0x16 < (0x17 : Byte).toNat) ∧ (delivering true false).link.txn = some ⟨.reply ⟨4, 2, .ok, []⟩, true, false⟩ ∧
    1 < (2 : Byte).toNat ∧ readPayload 0x01 [0] = none ∧ readPayload 0x0A [0, 0] = none ∧
    (readPayload 0x0A (List.replicate 76 0)).isSome = true ∧ (readPayload 0x0A (List.replicate 75 0)).isSome = false ∧
    (readPayload 0x0C [5]).isSome = true ∧ (readPayload 0x0C (4 :: List.replicate 36 0)).isSome = true ∧
    PartState.suspended.passes (.zoomSet 256 0) = false ∧ PartState.config.passes .resume = false ∧
    (Request.zoomSet 256 0).lengthAgrees = true := by decide

theorem test_refusals_premises :
    (config.answer (.zoomSet 0 0) false).result = .badValue ∧ (config.answer .outputStop false).result = .wrongState := by
  decide

theorem test_reports_premises : byteSource 0 = some .s0 ∧ byteSource 3 = some .s3 ∧ 3 < (4 : Byte).toNat := by decide

/-- SOURCE_DEFINE of a source out of range, not PARKED, on the ladder, under the still hold, with its first and its last bad
field, and with every field at its lower limit. -/
theorem test_source_define_premises :
    byteSource 0 = some .s0 ∧ byteSource 4 = none ∧ (config.source .s0).state = .parked ∧ config.zc.ladder = none ∧
    (∀ r ∈ config.ring .s0, r.heldS = false) ∧ ((only .s0 .warm).source .s0).state ≠ .parked ∧
    (prepared .parked).onLadder .s0 = true ∧ ((prepared .parked).source .s0).state = .parked ∧
    (∃ r ∈ (config.setRing .s0 [{ ready .s0 with heldS := true }]).ring .s0, r.heldS = true) ∧
    ([false, true, false, true, true, true] : List Bool).findIdx? not = some 0 ∧
    ([true, true, true, true, true, false] : List Bool).findIdx? not = some 5 ∧
    [decide (64 ≤ (64 : Half).toNat ∧ (64 : Half).toNat ≤ 4096),
      decide (640 ≤ (640 : Half).toNat ∧ (640 : Half).toNat ≤ 4096 ∧ (640 : Half).toNat % 16 = 0),
      decide (8333 ≤ (8333 : Word).toNat ∧ (8333 : Word).toNat ≤ 100000),
      decide (256 ≤ (256 : Half).toNat ∧ (256 : Half).toNat ≤ 1024), decide (1 ≤ (1 : Byte).toNat),
      decide (1 ≤ (1 : Byte).toNat ∧ (1 : Byte).toNat ≤ 200)].findIdx? not = none := by decide

theorem test_source_wake_premises :
    ((only .s1 .parked).source .s1).defined = true ∧ (only .s1 .parked).underTest .s1 = false ∧
    ((only .s1 .parked).source .s1).state = .parked ∧ ((only .s1 .warm).source .s1).state = .warm ∧
    ((only .s1 .fault).source .s1).state = .fault ∧ (config.source .s1).defined = false ∧ byteSource 4 = none := by decide

theorem test_source_park_premises :
    ((only .s1 .warm).source .s1).defined = true ∧ (only .s1 .warm).underTest .s1 = false ∧
    ((only .s1 .warm).source .s1).purpose = .normal ∧ (only .s1 .warm).isPending .s1 = false ∧
    (only .s1 .warm).isTarget .s1 = false ∧
    (streaming .parked .primary .warm .parked (some (up .armed 8 0))).link.part = .streaming ∧
    ((streaming .parked .primary .warm .parked (some (up .armed 8 0))).source .s2).defined = true ∧
    (streaming .parked .primary .warm .parked (some (up .armed 8 0))).underTest .s2 = false ∧
    (streaming .parked .primary .warm .parked (some (up .armed 8 0))).isPending .s2 = false := by decide

/-- The forms that SOURCE_POWER (park) turns away or leaves as they are. -/
theorem test_source_park_refused_premises :
    byteSource 4 = none ∧ (config.source .s1).defined = false ∧ (testing.source .s1).defined = true ∧
    testing.underTest .s1 = true ∧ (running.source .s1).state.isRole = true ∧ running.underTest .s1 = false ∧
    (starting .warm).cp.sub = .starting ∧ (starting .warm).cp.pendingPrimary = some .s1 ∧
    ((frozen .warm (some { up .armed 8 0 with kind := .rescue, taker := .s0 })).zc.record.map Transition.kind) =
      some .rescue ∧
    ((only .s1 .parked).source .s1).state = .parked ∧ (only .s1 .parked).cp.sub = .none ∧
    (only .s1 .parked).zc.record = none := by decide

theorem test_timers_premises :
    ((only .s1 .waking).source .s1).settle = some ⟨0, 1000⟩ ∧ Timer.expired ⟨0, 1000⟩ config.cru.time = true ∧
    Timer.expired ⟨0, 1001⟩ config.cru.time = false ∧ (config.source .s1).settle = none ∧ config.op.video = none ∧
    (((only .s1 .warm).setSource .s1 { source .warm with idle := some ⟨0, 1000⟩ }).source .s1).idle = some ⟨0, 1000⟩ := by
  decide

theorem test_fault_entry_premises :
    ((only .s1 .syncing).source .s1).state = .syncing ∧ ((only .s1 .syncing).source .s1).sync = some ⟨0, 1000⟩ ∧
    ((only .s1 .warm).source .s1).frame = some ⟨0, 1000⟩ ∧ (running.source .s1).frame = some ⟨0, 1000⟩ := by decide

theorem test_link_test_premises :
    (only .s1 .parked).cru.test = none ∧ ((only .s1 .parked).source .s1).defined = true ∧
    (∀ i, (config.source i).defined = false) ∧ (testing.source .s1).purpose = .test ∧
    (testing.source .s1).sync = some ⟨0, 1000⟩ ∧
    (∀ j, j ≠ .s1 → (Four.mk TestCode.notTested .pending .notTested .notTested).get j ≠ .pending) := by
  refine ⟨rfl, rfl, ?_, rfl, rfl, ?_⟩
  · intro i; cases i <;> rfl
  · intro j; cases j <;> decide

theorem test_suspend_premises :
    config.cc.still = none ∧ config.cru.test = none ∧ (∀ i, ((only .s1 .warm).source i).state.isRole = false) := by
  refine ⟨rfl, rfl, ?_⟩
  intro i; cases i <;> rfl

/-- A source that fills a frame of 360 lines at this line count. -/
def filling1 (x : SrcState) (k : Intake) (n run : Nat) : State :=
  ((only .s1 x).setRing .s1 [ready .s0, filling .s1]).setReceiver .s1 ⟨k, n, run, some 7, ⟨0, 0, 0⟩⟩

/-- The same source under a link test. -/
def tested (k : Intake) (run : Nat) : State :=
  { filling1 .syncing k 360 run with cru := testing.cru }.setSource .s1 { source .syncing with purpose := .test }

theorem test_frame_start_premises :
    State.reset.cru.resetHeld = true ∧ config.cru.resetHeld = false ∧
    (config.receiver .s1).intake = .between ∧ (config.source .s1).state = .parked ∧
    ((filling1 .warm .discarding 0 0).receiver .s1).intake = .discarding ∧
    ([Src.s0, .s1, .s2, .s3].filter fun n => decide (n ∉ [ready .s0, filling .s1].map FrameRec.slot)).head? = some .s2 ∧
    ((filling1 .warm .awaitMeta 0 6).receiver .s1).intake = .awaitMeta ∧
    ((filling1 .warm .awaitMeta 0 6).source .s1).purpose = .normal ∧
    ((filling1 .warm .awaitMeta 0 6).receiver .s1).run < 7 ∧
    ((filling1 .warm .receiving 0 7).receiver .s1).run = 7 ∧
    ((filling1 .warm .receiving 0 7).source .s1).state.keepsFrames = true ∧
    ((tested .awaitMeta 7).receiver .s1).run = 7 ∧ ((tested .awaitMeta 7).source .s1).state = .syncing ∧
    ((tested .awaitMeta 7).source .s1).purpose = .test := by decide

theorem test_metadata_premises :
    ((filling1 .warm .awaitMeta 0 6).receiver .s1).intake = .awaitMeta ∧
    ([Pixel.black, Pixel.black] : List Pixel).length < 3 ∧
    ([Pixel.black, Pixel.black, Pixel.black] : List Pixel).head? ≠ some ⟨0x2A5, 0x15A, 0x3C3⟩ := by decide

theorem test_image_line_premises :
    ((filling1 .warm .receiving 359 0).ring .s1).find? (fun q => decide (q.state = .filling)) = some (filling .s1) ∧
    (filling .s1).window = some ⟨0, 0, 640, 360⟩ ∧ 359 < (filling .s1).width * 9 / 16 ∧
    (filling .s1).width * 9 / 16 ≤ 360 := by decide

theorem test_good_frame_premises :
    (filling1 .warm .receiving 360 0).ring .s1 = [ready .s0] ++ [filling .s1] ∧ (ready .s0).state = .ready ∧
    (filling .s1).state = .filling ∧ ((filling1 .warm .receiving 360 0).receiver .s1).lines = 640 * 9 / 16 ∧
    ((filling1 .warm .receiving 360 0).source .s1).state.usable = true ∧
    ((tested .receiving 0).receiver .s1).lines = 640 * 9 / 16 ∧ ((tested .receiving 0).source .s1).purpose = .test ∧
    ((filling1 .syncing .receiving 360 0).source .s1).state = .syncing := by decide

theorem test_bad_frame_premises :
    ((filling1 .warm .receiving 359 6).receiver .s1).lines ≠ 640 * 9 / 16 ∧
    ((filling1 .warm .receiving 361 7).receiver .s1).run = 7 ∧
    ((filling1 .warm .receiving 361 7).source .s1).state.keepsFrames = true ∧
    ((filling1 .warm .awaitMeta 0 0).receiver .s1).intake = .awaitMeta ∧ ((tested .awaitMeta 7).receiver .s1).run = 7 ∧
    (tested .awaitMeta 7).cru.test = some ⟨900, ⟨.notTested, .pending, .notTested, .notTested⟩⟩ := by decide

/-- The first and the last start position, a count of 12 (as 0), an emptied position, and a bad value for each check. -/
theorem test_cal_run_premises :
    (2 : Byte) ≠ 0x01 ∧ (2 : Byte) ≠ 0xFF ∧ 11 < (12 : Byte).toNat ∧ 12 < (13 : Byte).toNat ∧ byteSource 4 = none ∧
    ([⟨1023, 0, 0⟩, ⟨0xFFFF, 0, 0⟩, ⟨0xFFFE, 0, 0⟩, ⟨1024, 0, 0⟩] : List PointRec).findIdx?
      (fun p => decide (1023 < p.focus.toNat ∧ p.focus ≠ 0xFFFF)) = some 2 ∧
    (0 : Byte).toNat ≤ 11 ∧ (11 : Byte).toNat ≤ 11 ∧ (0 : Byte).toNat ≤ 12 ∧ (12 : Byte).toNat ≤ 12 ∧
    (List.replicate 12 (⟨0xFFFF, 0, 0⟩ : PointRec)).length = (if (0 : Byte) = 0 then 12 else (0 : Byte).toNat) ∧
    (1023 : Half).toNat ≤ 1023 := by decide

theorem test_order_check_premises :
    orderCheck (Vector.replicate 12 none) = none ∧
    orderCheck ((Vector.replicate 12 (none : Option CalPoint)).set 2 (some ⟨5, 0, 0⟩) |>.set 11 (some ⟨5, 0, 0⟩)) =
      some 11 := by decide

theorem test_lookup_premises :
    (([] ++ (⟨200, -1000, 300⟩ : CalPoint) :: ⟨600, -1400, 340⟩ :: []).map CalPoint.focus).Pairwise (· < ·) ∧
    200 < 201 ∧ 599 < 600 ∧ lookupPoints [] 7 = ⟨0, 0⟩ ∧ lookupPoints [⟨200, -1000, 300⟩, ⟨600, -1400, 340⟩] 199 = ⟨-1000, 300⟩ ∧
    lookupPoints [⟨200, -1000, 300⟩, ⟨600, -1400, 340⟩] 601 = ⟨-1400, 340⟩ ∧
    lookupPoints [⟨200, 0, 0⟩, ⟨600, -32768, 32767⟩] 600 = ⟨-32768, 32767⟩ := by decide

/-- A window inside its frame, one moved at each side, and a short one. -/
theorem test_window_premises :
    4032 % 16 = 0 ∧ (cropWindow 4032 768 1024 ⟨0, 0⟩).edge = false ∧ (cropWindow 640 256 1024 ⟨32767, 0⟩).rect.x0 = 0 ∧
    (cropWindow 640 256 1024 ⟨-32768, 0⟩).rect.x0 = 480 ∧ (cropWindow 640 256 128 ⟨0, 0⟩).short = true := by decide

theorem test_resample_premises : mapPosition 10 2 8 0 = 10 * 256 ∧ mapPosition 10 2 8 7 = 11 * 256 := by decide

theorem test_ladder_premises :
    let s := assembly .parked .parked .parked .parked config
    rungs.length = (4 : Byte).toNat ∧ (s.checkRungs rungs []).toOption = some ladder ∧
    (s.checkRungs [⟨3, 0, 0, 0, 0⟩, ⟨3, 0, 0, 0, 0⟩] []).toOption = none ∧ (s.checkRungs [⟨0, 0, 0, 0, 0⟩] []).toOption.isSome ∧
    4 < (5 : Byte).toNat ∧ byteSource 4 = none ∧ (config.source .s1).defined = false ∧
    ([true, false, true, true, true] : List Bool).findIdx? not = some 1 := by decide

theorem test_zoom_and_pin_premises :
    (streaming .parked .primary .warm .parked none).cp.sub = .running ∧
    (streaming .parked .primary .warm .parked none).zc.pinned = false ∧
    (streaming .parked .primary .warm .parked none).primary = some .s1 ∧
    (streaming .parked .primary .warm .parked (some (up .matching 8 0))).zc.record = some (up .matching 8 0) ∧
    (streaming .parked .outgoing .incoming .parked (some (up .blending 8 1))).zc.record = some (up .blending 8 1) := by
  decide

theorem test_zoom_step_premises :
    running.cp.sub = .running ∧ running.primary = some .s1 ∧ running.zc.record = none ∧ (256 : Nat) < 850 ∧
    zoomMove 850 0 (clamp 850 256 1024) = 850 := by decide

theorem test_match_and_blend_premises :
    1 ≤ (up .blending 32 32).index ∧ (up .blending 32 32).index ≤ (up .blending 32 32).n ∧ (up .blending 32 32).n ≤ 32 := by
  decide

theorem test_trigger_premises :
    running.zc.ladder = some ladder ∧ running.primary = some .s1 ∧ rungOf ladder .s1 = some 1 := by decide

/-- An output at Z = T = 1000, beyond U of S2, with S1 PRIMARY, S2 in this state, this blend length and record. -/
def zoomed (x : SrcState) (n : Nat) (r : Option Transition) : State :=
  let s := streaming .parked .primary x .parked r
  { s with
    cp := { s.cp with settings := { s.cp.settings with n := n } }
    zc := { s.zc with shown := 1000, target := 1000 } }

theorem test_tick_due (x : SrcState) (n : Nat) (r : Option Transition) : TickDue (zoomed x n r) 900 :=
  ⟨rfl, rfl, (by decide : ahead 900 config.cru.time = false), rfl⟩

/-- At 1000 the trigger UP creates a record, at 850 none does; the target is PARKED, WARM, or WARM with N = 0. -/
theorem test_tick_trigger_premises :
    (ladder.map Rung.source).Nodup ∧ (zoomed .parked 8 none).primary = some .s1 ∧
    (zoomed .parked 8 none).zc.pinned = false ∧ (zoomed .parked 8 none).steppedZoom .s1 = 1000 ∧
    (zoomed .parked 8 none).trigger.map Transition.taker = some .s2 ∧
    ((zoomed .parked 8 none).source .s2).defined = true ∧ (zoomed .warm 8 none).trigger.map Transition.n = some 8 ∧
    (zoomed .warm 0 none).trigger.map Transition.n = some 0 ∧ running.trigger = none ∧ running.steppedZoom .s1 = 850 := by
  decide

/-- A record in MATCHING one tick before its window ends, its last pair the newest one. -/
def matching : State :=
  streaming .parked .primary .warm .parked (some { up .matching 8 0 with ticks := 29 })

theorem test_matching_due : TickDue matching 900 := ⟨rfl, rfl, rfl, rfl⟩

theorem test_blend_premises :
    matching.cp.settings.window ≤ 29 + 1 ∧ matching.cp.settings.window ≤ 255 ∧
    (matching.source .s1).state = .primary ∧ (matching.source .s2).state = .warm ∧ matching.primary = some .s1 ∧
    (matching.boundary (up .matching 8 0)).map Rung.d = some 800 ∧
    matching.steppedZoom .s1 = 850 ∧
    (newestReady (matching.ring .s1)).map FrameRec.start = some 5 ∧
    (newestReady (matching.ring .s2)).map FrameRec.start = some 5 ∧
    min ((up .matching 8 0).ticks + 1) 255 < matching.cp.settings.window ∧
    (matching.boundary { up .matching 8 0 with kind := .down, taker := .s0 }).map Rung.u = some 360 ∧
    ({ matching with zc := { matching.zc with shown := 359, target := 359 } } : State).steppedZoom .s1 = 359 ∧
    ((streaming .parked .outgoing .incoming .parked (some (up .blending 8 7))).source .s1).state = .outgoing ∧
    ((streaming .parked .outgoing .incoming .parked (some (up .blending 8 8))).source .s2).state = .incoming := by decide

/-- A completion with the taker in FAULT, and with the giver in FAULT, the report pending. -/
theorem test_spoiled_blend_premises :
    ((streaming .parked .outgoing .fault .parked (some (up .blending 8 8))).raiseReport .s2 .incoming).zc.reports.get .s2 =
      [⟨.incoming, none⟩] ∧
    ((streaming .parked .fault .incoming .parked (some (up .blending 8 8))).raiseReport .s1 .outgoing).zc.reports.get .s1 =
      [⟨.outgoing, none⟩] ∧
    (((streaming .parked .fault .incoming .parked (some (up .blending 8 8))).raiseReport .s1 .outgoing).source .s2).state =
      .incoming := by decide

/-- A record from S1 to S2 in ARMED at Z = 1000 stands for each state of its target, and is disarmed at Z = 700. -/
theorem test_armed_premises :
    ((zoomed .warm 0 (some (up .armed 0 0))).boundary (up .armed 0 0)).map Rung.d = some 800 ∧
    (zoomed .warm 8 (some (up .armed 8 0))).steppedZoom .s1 = 1000 ∧
    ((zoomed .parked 8 (some (up .armed 8 0))).source .s2).defined = true ∧
    ((zoomed .waking 8 (some (up .armed 8 0))).source .s2).state = .waking ∧
    (zoomed .warm 8 (some (up .armed 8 0))).primary = some .s1 ∧
    ({ zoomed .warm 8 (some (up .armed 8 0)) with
      zc := { (zoomed .warm 8 none).zc with shown := 700, target := 700 } } : State).steppedZoom .s1 = 700 := by decide

/-- A record in MATCHING whose last pair is absent, which the next update brings to convergence at run 14, leaves in MATCHING
at run 0, or finds at the end of its window. -/
theorem test_match_premises :
    let s := zoomed .warm 8 (some { up .matching 8 0 with lastPair := none })
    (newestReady (s.ring .s1)).bind FrameRec.means = some ⟨1, 2, 3⟩ ∧
    (newestReady (s.ring .s2)).bind FrameRec.means = some ⟨1, 2, 3⟩ ∧
    s.cp.settings.m ≤ (Transition.matchUpdate { up .matching 8 0 with run := 14 } ⟨1, 2, 3⟩ ⟨1, 2, 3⟩ 5 5 16).run ∧
    (Transition.matchUpdate (up .matching 8 0) ⟨1, 2, 3⟩ ⟨1, 2, 3⟩ 5 5 16).run < s.cp.settings.m ∧
    anyClamped ⟨1, 2, 3⟩ ⟨1, 2, 3⟩ = false ∧ anyClamped ⟨9, 9, 9⟩ ⟨1, 2, 3⟩ = true ∧
    s.cp.settings.window ≤ ({ up .matching 8 0 with ticks := 30 } : Transition).ticks := by decide

/-- The part with the report of this source's fault pending, that it faulted in this role. -/
def reporting (i : Src) (role : SrcState) (s : State) : State := s.raiseReport i role

theorem test_fault_report_premises :
    running.zc.reports.get .s1 = [] ∧
    (reporting .s1 .warm (only .s1 .fault)).zc.reports.get .s1 = ⟨.warm, none⟩ :: [] ∧
    ((reporting .s2 .warm (streaming .parked .primary .fault .parked (some (up .armed 8 0)))).source .s2).state = .fault ∧
    (reporting .s2 .incoming (streaming .parked .outgoing .fault .parked (some (up .blending 8 3)))).zc.reports.get .s2 =
      ⟨.incoming, none⟩ :: [] ∧
    ((reporting .s2 .incoming (streaming .parked .outgoing .fault .parked (some (up .blending 8 3)))).source .s1).state =
      .outgoing ∧
    ((reporting .s1 .outgoing (streaming .parked .fault .incoming .parked (some (up .blending 8 3)))).source .s2).state =
      .incoming := by decide

/-- A faulted S1 with these states of its neighbours S0 and S2, this record, and its report as that of the primary. -/
def lost (a c : SrcState) (r : Option Transition) : State := reporting .s1 .primary (streaming a .fault c .parked r)

/-- The same source as the pending primary of a STARTING output. -/
def lostStarting (a c : SrcState) : State :=
  let s := reporting .s1 .syncing (streaming a .fault c .parked none)
  { s with cp := { s.cp with sub := .starting, pendingPrimary := some .s1 } }

theorem test_warm_choice_lower : WarmChoice (lost .warm .warm (some (up .armed 8 0))) .s1 .s0 := ⟨rfl, .inl rfl⟩

theorem test_warm_choice_upper : WarmChoice (lost .parked .warm none) .s1 .s2 :=
  ⟨rfl, .inr ⟨rfl, by rintro q h; cases h; decide⟩⟩

theorem test_cold_choice_lower : ColdChoice (lost .parked .fault (some (up .armed 8 0))) .s1 .s0 :=
  ⟨by rintro q (h | h) <;> cases h <;> decide, rfl, .inl rfl, .inl rfl⟩

theorem test_cold_choice_upper : ColdChoice (lost .fault .syncing none) .s1 .s2 :=
  ⟨by rintro q (h | h) <;> cases h <;> decide, rfl, .inr (.inr rfl), .inr ⟨rfl, by rintro q h; cases h; decide⟩⟩

theorem test_no_choice : NoChoice (lost .fault .fault none) .s1 := by rintro q (h | h) <;> cases h <;> decide

theorem test_starting_choices : WarmChoice (lostStarting .warm .parked) .s1 .s0 ∧
    ColdChoice (lostStarting .parked .parked) .s1 .s0 ∧ NoChoice (lostStarting .fault .fault) .s1 :=
  ⟨⟨rfl, .inl rfl⟩, ⟨by rintro q (h | h) <;> cases h <;> decide, rfl, .inl rfl, .inl rfl⟩,
   by rintro q (h | h) <;> cases h <;> decide⟩

theorem test_lost_premises :
    (lost .warm .warm (some (up .armed 8 0))).link.part = .streaming ∧ (lost .warm .warm none).cp.sub = .running ∧
    (lost .warm .warm none).zc.reports.get .s1 = ⟨.primary, none⟩ :: [] ∧
    (up .armed 8 0).kind ≠ .rescue ∧ (up .armed 8 0).phase ≠ .blending ∧ (up .armed 8 0).taker ≠ .s1 ∧
    (lostStarting .warm .parked).zc.reports.get .s1 = ⟨.syncing, none⟩ :: [] ∧
    ((lostStarting .warm .parked).source .s1).state = .fault ∧ (lostStarting .warm .parked).zc.record = none ∧
    (lostStarting .warm .parked).cp.pendingPrimary = some .s1 := by decide

/-- A RESCUE record from a faulted S1 toward S0, S0 having faulted too, with S2 in this state; the output is FROZEN. -/
def rescuing (x : SrcState) : State :=
  let s := reporting .s0 .warm (streaming .fault .fault x .parked (some { up .armed 8 0 with kind := .rescue, taker := .s0 }))
  { s with cp := { s.cp with sub := .frozen } }

theorem test_rescue_premises :
    (rescuing .warm).lowerOf .s1 = some .s0 ∧ (rescuing .warm).upperOf .s1 = some .s2 ∧
    ((rescuing .warm).source .s0).state = .fault ∧ ((rescuing .warm).source .s2).state = .warm ∧
    ((rescuing .parked).source .s2).defined = true ∧ ((rescuing .fault).source .s2).state = .fault ∧
    (rescuing .warm).cp.pendingPrimary = none ∧ (rescuing .warm).zc.record.map Transition.retargeted = some false ∧
    (rescuing .warm).zc.reports.get .s0 = ⟨.warm, none⟩ :: [] := by decide

/-- A completion spoiled by this source, from S1 to S2: the sources as it left them, and the report. -/
def spoiledBy (i : Src) (a b : SrcState) (role : SrcState) : State :=
  (reporting i role (streaming .parked a b .parked none)).spoil i ⟨.completion, up .blending 8 8, 990⟩

theorem test_spoiled_premises :
    (spoiledBy .s2 .warm .fault .primary).zc.reports.get .s2 = [⟨.primary, some ⟨.completion, up .blending 8 8, 990⟩⟩] ∧
    ((spoiledBy .s2 .warm .fault .primary).source .s1).state = .warm ∧
    (spoiledBy .s1 .fault .primary .warm).zc.reports.get .s1 = [⟨.warm, some ⟨.completion, up .blending 8 8, 990⟩⟩] ∧
    (spoiledBy .s1 .fault .primary .warm).zc.record = none ∧ (spoiledBy .s1 .fault .primary .warm).cp.sub = .running := by
  decide

/-- Every field at its upper limit, and a bad field of each end of the list. -/
theorem test_output_set_premises :
    [decide (640 ≤ (3840 : Half).toNat ∧ (3840 : Half).toNat ≤ 3840 ∧ (3840 : Half).toNat % 16 = 0),
      decide (8333 ≤ (100000 : Word).toNat ∧ (100000 : Word).toNat ≤ 100000), decide ((32 : Byte).toNat ≤ 32),
      decide ((255 : Byte).toNat ≤ 255), decide (1 ≤ (15 : Byte).toNat ∧ (15 : Byte).toNat ≤ 15),
      decide (1 ≤ (255 : Byte).toNat)].findIdx? not = none ∧
    [decide (640 ≤ (641 : Half).toNat ∧ (641 : Half).toNat ≤ 3840 ∧ (641 : Half).toNat % 16 = 0), true, true, true, true,
      decide (1 ≤ (0 : Byte).toNat)].findIdx? not = some 0 ∧
    [true, true, true, true, true, decide (1 ≤ (0 : Byte).toNat)].findIdx? not = some 5 := by decide

theorem test_output_start_premises :
    (prepared .warm).zc.ladder = some ladder ∧ ladder[2]? = some ⟨.s2, 700, 960, 800, 900⟩ ∧
    (960 ≤ (prepared .warm).zc.shown) ∧ (ladder[3]?.map Rung.u = some 1500) ∧ (prepared .warm).cru.test = none ∧
    ((prepared .parked).source .s2).state.isRole = false ∧ ((prepared .fault).source .s2).state = .fault ∧
    testing.cru.test ≠ none ∧ config.zc.ladder = none := by decide

theorem test_output_stop_premises :
    running.link.part = .streaming ∧ suspended.link.part = .suspended ∧
    ({ running with cc := ⟨some (still .capturing), 5⟩ } : State).op.group = none := by decide

/-- The compose of S1 alone. -/
def alone (live : Bool) : Compose := ⟨live, .ping, 1920, [⟨.s1, .s0, 256, .unit, ⟨⟨0, 0, 640, 360⟩, false, false, 768, 850, 9⟩⟩]⟩

theorem test_tick_premises :
    config.link.part ≠ .streaming ∧
    ({ running with cp := { running.cp with compose := some (alone true) } } : State).cp.compose = some (alone true) ∧
    ({ running with zc := { running.zc with pinned := true } } : State).primary = some .s1 ∧
    (newestReady (running.ring .s1)).map FrameRec.slot = some .s0 := by decide

/-- A discarded compose in flight is no overrun. -/
theorem test_discarded_due : TickDue { running with cp := { running.cp with compose := some (alone false) } } 900 :=
  ⟨rfl, rfl, rfl, rfl⟩

/-- A faulted primary whose ring is empty, and a blend whose taker's ring is empty. -/
theorem test_left_out_premises :
    ((lost .parked .parked none).setRing .s1 []).knownPrimary = some .s1 ∧
    newestReady (((lost .parked .parked none).setRing .s1 []).ring .s1) = none ∧
    newestReady (((streaming .parked .outgoing .fault .parked (some (up .blending 8 3))).setRing .s2 []).ring .s2) = none ∧
    (newestReady (((streaming .parked .outgoing .fault .parked (some (up .blending 8 3))).setRing .s2 []).ring .s1)).map
      FrameRec.slot = some .s0 := by decide

theorem test_starting_due (x : SrcState) : TickDue (starting x) 900 :=
  ⟨rfl, rfl, (by decide : ahead 900 config.cru.time = false), rfl⟩

theorem test_starting_premises :
    ((starting .warm).source .s1).state = .warm ∧ ((starting .warm).source .s1).purpose = .normal ∧
    (starting .warm).zc.reports.get .s1 = [] ∧ (starting .warm).cp.lastSent = none ∧ (starting .warm).cp.fresh = false ∧
    ((starting .waking).source .s1).state ≠ .warm ∧ (starting .waking).cp.pendingPrimary = some .s1 := by decide

theorem test_frozen_due (x : SrcState) (r : Option Transition) : TickDue (frozen x r) 900 :=
  ⟨rfl, rfl, (by decide : ahead 900 config.cru.time = false), rfl⟩

theorem test_frozen_premises :
    ((frozen .warm (some { up .armed 8 0 with kind := .rescue, taker := .s0 })).source .s0).state = .warm ∧
    ((frozen .waking (some { up .armed 8 0 with kind := .rescue, taker := .s0 })).source .s0).state ≠ .warm ∧
    (frozen .warm none).cp.pendingPrimary = none ∧ (frozen .warm none).zc.record = none ∧
    (frozen .warm none).primary = none := by decide

theorem test_compose_and_video_premises :
    (alone false).live = false ∧ (alone true).live = true ∧ (still .sending).state ≠ .capturing ∧
    ({ still .capturing with next := 0 } : Still).state = .capturing ∧
    Timer.expired ⟨0, 1000⟩ config.cru.time = true := by decide

theorem test_still_take_premises :
    newestReady ((filling1 .warm .receiving 0 0).ring .s1) = some (ready .s0) ∧
    ((filling1 .warm .receiving 0 0).source .s1).defined = true ∧ (filling1 .warm .receiving 0 0).cc.still = none ∧
    (filling1 .warm .receiving 0 0).op.queue = [] ∧ running.cp.sub = .running ∧
    byteSource 4 = none ∧ config.cc.still = none ∧ (config.source .s1).defined = false ∧
    ((only .s1 .warm).source .s1).defined = true ∧ (only .s1 .warm).ring .s1 = [] ∧ config.link.part ≠ .streaming ∧
    (frozen .warm none).cp.sub ≠ .running ∧ (sending none [] none).cc.still ≠ none := by decide

theorem test_still_flow_premises :
    (still .sending).state = .sending ∧ (still .paused).state = .paused ∧ (still .paused).total = some 6 ∧
    (still .capturing).state ≠ .ending ∧ (still .sending).source = none := by decide

/-- The first group of a 360 line still, in STREAMING, would end exactly at this tick deadline. -/
theorem test_still_group_fits_premises :
    let s : State := { sending none [0, 1] none with
      link := { config.link with part := .streaming }, cp := { config.cp with deadline := some 1033 } }
    s.link.part = .streaming ∧ ahead 1033 s.cru.time = true ∧ s.op.queue = 0 :: [1] ∧ s.op.group = none ∧
    s.op.video = none ∧ 64 = min 64 (360 - 64 * 0) ∧ (64 * 640 + 1249) / 1250 ≤ (1033 : Time).since s.cru.time ∧
    (s.groupBegin.op.group.map GroupTx.number) = some 0 := by decide

theorem test_still_groups_premises :
    (sending none [0, 1] none).op.queue = 0 :: [1] ∧ (sending none [0, 1] none).op.video = none ∧
    (still .sending).height = some 360 ∧ (40 = min 64 (360 - 64 * 5)) ∧
    ahead 900 running.cru.time = false ∧ running.cp.deadline = some 900 ∧
    ahead 1033 config.cru.time = true ∧ (64 * (still .sending).width.getD 0 + 1249) / 1250 = (1033 : Time).since config.cru.time ∧
    (still .sending).total ≠ some (4 + 1) ∧ (still .ending).state = .ending ∧
    (sending (some ⟨5, [], [], ⟨0, 1000⟩⟩) [] none).op.group = some ⟨5, [], [], ⟨0, 1000⟩⟩ ∧
    (still .sending).total = some (5 + 1) ∧
    (sending none [] (some ⟨0, 1000⟩)).cc.still.bind Still.pause = some ⟨0, 1000⟩ := by decide

/-- A queue with one urgent and one routine entry. -/
def queued : NoticeQueue :=
  ⟨[⟨.ready, none, .urgent, 1, 0, .ready .hard State.reset.cru.straps 0⟩,
    ⟨.testDone, none, .routine, 255, 0, .testDone (Four.fill .pass) 0 0⟩], 0x2000, 0, true, none⟩

theorem test_notice_posted_premises :
    queued.entries = [⟨.ready, none, .urgent, 1, 0, .ready .hard State.reset.cru.straps 0⟩] ++
      ⟨.testDone, none, .routine, 255, 0, .testDone (Four.fill .pass) 0 0⟩ :: [] ∧
    (NoticeQueue.mk [] 0x2000 0 false none).masked.has .testDone = true ∧ NoticeKind.fixedUrgent .testDone = false ∧
    queued.masked.has .stillDone = false ∧ NoticeKind.fixedUrgent .ready = true ∧
    ({ config with nq := { queued with pulse := some ⟨0, 1000⟩ } } : State).nq.pulse = some ⟨0, 1000⟩ := by decide

theorem test_notice_requests_premises :
    ({ config with nq := queued } : State).nq.entries.length = 2 ∧ config.nq.entries = [] ∧
    ((0x0001 : KindSet) ||| 0x2000) &&& 0xC000 = 0 ∧ ((0x2000 : KindSet) &&& 0x2000).getLsbD 13 = true := by decide

/-- A frame statement's premise, met by a command of each shape. -/
theorem test_frames_premises :
    (∃ t, exec (.nop 1) config = .next t) ∧ (∃ t, exec (.noticeTake 1) config = .next t) ∧
    (∃ t, exec (.frameEnd .s1) (filling1 .warm .receiving 360 0) = .next t) ∧
    (∃ t, exec .stillGroupBegin config = .next t) ∧ (∃ t, exec .composeComplete config = .next t) ∧
    (∃ t, exec .tick running = .next t) := ⟨⟨_, rfl⟩, ⟨_, rfl⟩, ⟨_, rfl⟩, ⟨_, rfl⟩, ⟨_, rfl⟩, ⟨_, rfl⟩⟩

/-! The laws hold in states other than reset, from which a step is taken -/

theorem test_step_config : ∃ t, step config = .next t := ⟨_, rfl⟩

theorem test_step_running : ∃ t, step running = .next t := ⟨_, rfl⟩

theorem test_source_laws_premises : SourceLaw running ∧ IdleLaw running := by
  refine ⟨?_, ?_⟩
  · intro i; cases i <;> constructor <;> decide
  · intro i; cases i <;> rfl

theorem test_picture_law_premises : PictureLaw running := by
  constructor
  · intro i; cases i <;> decide
  · intro h; exact absurd rfl h
  · intro _ _; exact ⟨.s1, rfl, by intro i h; cases i <;> first | rfl | exact absurd rfl h⟩
  · intro r h; cases h
  · intro r h; cases h
  · intro r h; cases h
  · intro r h; cases h
  · intro i; cases i <;> (intro x h; cases h)
  · intro h; cases h
  · intro l h; cases h; decide

/-- The picture of a blend. -/
theorem test_picture_law_blend : PictureLaw (streaming .parked .outgoing .incoming .parked (some (up .blending 8 3))) := by
  constructor
  · intro i; cases i <;> decide
  · intro h; exact absurd rfl h
  · intro _ h; exact absurd ⟨_, rfl, rfl⟩ h
  · intro r h _; cases h
    exact ⟨rfl, by decide, by decide, rfl, rfl, by intro i; cases i <;> decide⟩
  · intro r h _ k; cases h; exact absurd rfl k
  · intro r h k; cases h; cases k
  · intro r h k; cases h; cases k
  · intro i; cases i <;> (intro x h; cases h)
  · intro h; cases h
  · intro l h; cases h; decide

/-- The picture after a completion that found its taker in FAULT. -/
theorem test_picture_law_spoiled : PictureLaw (spoiledBy .s2 .warm .fault .primary) := by
  constructor
  · intro i; cases i <;> decide
  · intro h; exact absurd rfl h
  · intro _ _; exact ⟨.s2, rfl, by intro i h; cases i <;> first | rfl | exact absurd rfl h⟩
  · intro r h; cases h
  · intro r h; cases h
  · intro r h; cases h
  · intro r h; cases h
  · intro i x h y k
    cases i <;> simp only [spoiledBy] at h <;> (try cases h)
    · cases k; exact ⟨by decide, by decide, .inr ⟨rfl, rfl, rfl, rfl⟩⟩
    · rename_i h; cases h
  · intro h; cases h
  · intro l h; cases h; decide

theorem test_first_law_premises : FirstLaw running := by
  constructor <;> intro _
  · intro i j; cases i <;> cases j <;> decide
  · refine ⟨⟨?_, ?_⟩, ?_⟩
    · rintro ⟨i, h⟩; cases i <;> cases h
    · rintro ⟨r, h, _⟩; cases h
    · intro i j; cases i <;> cases j <;> decide
  · refine ⟨⟨?_, ?_⟩, ?_⟩
    · rintro ⟨i, h⟩; cases i <;> cases h
    · rintro ⟨r, h, _⟩; cases h
    · intro i j; cases i <;> cases j <;> decide
  · rintro ⟨r, h, _⟩; cases h

theorem test_cal_law_premises :
    CalLaw (running.setCal .s1 (((Vector.replicate 12 none).set 2 (some ⟨200, -1000, 300⟩)).set 7 (some ⟨600, -1400, 340⟩))) := by
  intro i; cases i <;> exact ⟨by decide, by decide⟩

theorem test_ring_law_premises : RingLaw running := by
  refine ⟨?_, ?_⟩
  · intro i; cases i <;> constructor <;> first | decide | (unfold FrameRec.HasMeta; decide)
  · intro i; cases i <;> rfl

theorem test_record_law_premises : RecordLaw matching := by
  refine ⟨⟨by decide, by decide, by decide, by decide, by decide, by decide⟩, ?_, ?_⟩
  · intro r h; cases h; constructor <;> (try unfold GainLawful) <;> decide
  · intro i; cases i <;> (intro x h; cases h)

theorem test_output_law_premises : OutputLaw running := by
  constructor <;> first | decide | (intro h; exact absurd rfl h)

theorem test_zoom_law_premises : ZoomLaw running := by
  constructor
  · intro i; cases i <;> decide
  · intro l h; cases h; decide
  · intro l h; cases h; decide
  · intro l h; cases h; decide
  · intro l h; cases h; decide
  · rintro i (h | h | ⟨r, h, _⟩ | ⟨j, x, h, _⟩ | h) <;> cases i <;> exact ⟨ladder, rfl, by decide⟩

theorem test_link_law_premises : LinkLaw waiting := by
  constructor <;> decide

theorem test_notice_law_premises : NoticeLaw { config with nq := { queued with masked := 0 } } := by
  refine ⟨by decide, ?_, by decide⟩
  intro e h
  simp only [queued, List.mem_cons, List.not_mem_nil, or_false] at h
  rcases h with rfl | rfl <;> constructor <;> decide

theorem test_reset_law_premises : ResetLaw running ∧ AttnLaw running := by
  refine ⟨⟨by decide, by decide, ?_⟩, rfl, rfl⟩
  intro h; cases h

end Sys2Proof.Tests
end

section
/-! SUPPORT. What a step can make of the calibration lists, and the law that keeps them strictly ascending (R46, R47, R52 to
R55). -/

namespace Sys2Proof.Machine

/-! The order check (R54) -/

/-- The check passes exactly what keeps the focus codes ascending, that of the nearest point before included. -/
theorem firstOffender_eq_none_iff (l : List (Option CalPoint)) (pos : Nat) (before : Option Nat) :
    firstOffender l pos before = none ↔
      (before.toList ++ (l.filterMap id).map CalPoint.focus).Pairwise (· < ·) := by
  induction l generalizing pos before with
  | nil => cases before <;> simp [firstOffender]
  | cons x rest ih =>
    rcases x with _ | p
    · simp [firstOffender, ih]
    · rcases before with _ | f
      · simp [firstOffender, ih]
      · by_cases hle : p.focus ≤ f
        · simp only [firstOffender, hle, if_true, reduceCtorEq, false_iff]
          intro hp
          simp at hp
          omega
        · have hlt : f < p.focus := by omega
          simp only [firstOffender, hle, if_false, ih]
          simp only [Option.toList_some, List.filterMap_cons_some (rfl : id (some p) = some p), List.map_cons,
            List.singleton_append, List.pairwise_cons, List.mem_cons, forall_eq_or_imp]
          exact ⟨fun h => ⟨⟨hlt, fun a ha => hlt.trans (h.1 a ha)⟩, h⟩, And.right⟩

/-- The order check passes exactly the lists with strictly ascending focus codes. -/
theorem orderCheck_eq_none_iff (l : CalList) :
    orderCheck l = none ↔ (l.points.map CalPoint.focus).Pairwise (· < ·) :=
  firstOffender_eq_none_iff l.toList 0 none

/-! The points of a list after a run (R53) -/

theorem mem_points_iff {l : CalList} {p : CalPoint} : p ∈ l.points ↔ some p ∈ l := by
  simp [CalList.points]

/-- A point of a list with one position replaced is the new one or one of the old ones. -/
theorem mem_points_set {l : CalList} {k : Nat} {x : Option CalPoint} {hk : k < 12} {p : CalPoint}
    (h : p ∈ CalList.points (l.set k x hk)) : x = some p ∨ p ∈ l.points := by
  rw [mem_points_iff] at *
  rcases Vector.mem_or_eq_of_mem_set h with h | h
  · exact .inr h
  · exact .inl h.symm

/-- A point after the write pass was in the list before or was written by a record of the run. -/
theorem mem_points_writePass {up : Bool} {records : List PointRec} {pos : Nat} {l : CalList} {p : CalPoint}
    (h : p ∈ (writePass up records pos l).list.points) : p ∈ l.points ∨ ∃ r ∈ records, PointRec.point r = some p := by
  induction records generalizing pos l with
  | nil => exact .inl h
  | cons r rest ih =>
    have here (k : Nat) (hk : k < 12) (hp : p ∈ CalList.points (l.set k (PointRec.point r) hk)) :
        p ∈ l.points ∨ ∃ x ∈ r :: rest, PointRec.point x = some p :=
      (mem_points_set hp).symm.imp_right fun hr => ⟨r, List.mem_cons_self, hr⟩
    have later (k : Nat) (hk : k < 12) (next : Nat)
        (hp : p ∈ (writePass up rest next (l.set k (PointRec.point r) hk)).list.points) :
        p ∈ l.points ∨ ∃ x ∈ r :: rest, PointRec.point x = some p := by
      rcases ih hp with hl | ⟨x, hx, hxp⟩
      · exact here k hk hl
      · exact .inr ⟨x, List.mem_cons_of_mem r hx, hxp⟩
    unfold writePass at h
    split at h
    next hpos =>
      cases up with
      | true => exact later pos hpos _ h
      | false =>
        cases pos with
        | zero => exact here 0 hpos h
        | succ below => exact later _ hpos _ h
    next => exact .inl h

/-- A record that passes check 5 of R52 writes a point with a focus code of at most 1023, or none. -/
theorem point_focus_le {r : PointRec} {p : CalPoint} (hr : PointRec.bad r = false)
    (h : PointRec.point r = some p) : p.focus ≤ 1023 := by
  simp only [PointRec.bad, decide_eq_false_iff_not] at hr
  unfold PointRec.point at h
  split at h
  · cases h
  next hne =>
    cases h
    simp only [ne_eq, hne, not_false_eq_true, and_true] at hr
    exact Nat.le_of_not_lt hr

/-- A run leaves the list as it was, or leaves what its write pass made where that passes the order check. -/
theorem runOutcome_list (l : CalList) (start : Nat) (up : Bool) (records : List PointRec) :
    (runOutcome l start up records).list =
      if orderCheck (writePass up records start l).list = none then (writePass up records start l).list else l := by
  unfold runOutcome
  cases h : orderCheck (writePass up records start l).list <;> simp [h]

/-- A run of records that pass check 5 of R52 keeps a list ascending. -/
theorem runOutcome_ascending {l : CalList} (hl : l.Ascending) (start : Nat) (up : Bool) {records : List PointRec}
    (hr : ∀ r ∈ records, PointRec.bad r = false) : (runOutcome l start up records).list.Ascending := by
  rw [runOutcome_list]
  split
  next hpass =>
    refine ⟨(orderCheck_eq_none_iff _).mp hpass, fun p hp => ?_⟩
    rcases mem_points_writePass hp with hold | ⟨r, hmem, hpoint⟩
    · exact hl.2 p hold
    · exact point_focus_le (hr r hmem) hpoint
  next => exact hl

/-! What a step can make of the calibration lists -/

/-- The changes of the calibration lists: none, all cleared, or one list replaced by the outcome of a run whose records
pass check 5 of R52. -/
inductive CalChange (before after : Four CalList) : Prop
  | kept (h : after = before)
  | cleared (h : after = State.reset.gu.cal)
  | run (i : Src) (start : Nat) (up : Bool) (records : List PointRec) (hr : ∀ r ∈ records, PointRec.bad r = false)
      (h : after = before.set i (runOutcome (before.get i) start up records).list)

theorem reset_cal_ascending (i : Src) : (State.reset.gu.cal.get i).Ascending := by
  cases i <;> exact ⟨by decide, by decide⟩

/-- Every change keeps the law of the calibration lists. -/
theorem CalChange.calLaw {s t : State} (h : CalChange s.gu.cal t.gu.cal) (hs : CalLaw s) : CalLaw t := by
  intro j
  cases h with
  | kept h => rw [h]; exact hs j
  | cleared h => rw [h]; exact reset_cal_ascending j
  | run i start up records hr h =>
    rw [h, get_set]
    split
    · exact runOutcome_ascending (hs i) start up hr
    · exact hs j

theorem calRunOn_calChange (i : Src) (start dir count : Byte) (points : List PointRec) (queryOnly : Bool) (s : State) :
    CalChange s.gu.cal (s.calRunOn i start dir count points queryOnly).state.gu.cal := by
  unfold State.calRunOn
  split
  · exact .kept rfl
  split
  · exact .kept rfl
  split
  · exact .kept rfl
  split
  · exact .kept rfl
  next hgood =>
    cases queryOnly with
    | true => exact .kept rfl
    | false => exact .run i _ _ points (by simpa [firstBadPoint] using hgood) rfl

theorem calRun_calChange (src start dir count : Byte) (points : List PointRec) (queryOnly : Bool) (s : State) :
    CalChange s.gu.cal (s.calRun src start dir count points queryOnly).state.gu.cal := by
  unfold State.calRun
  split
  · exact .kept rfl
  · exact calRunOn_calChange ..

/-- CAL_RUN is the one request whose owner changes a calibration list. -/
theorem serve_calChange (q : Request) (queryOnly : Bool) (s : State) :
    CalChange s.gu.cal (s.serve q queryOnly).state.gu.cal := by
  cases q
  case calRun => exact calRun_calChange ..
  all_goals
    apply CalChange.kept
    unfold State.serve
    dsimp only
    (repeat' split) <;> simp

theorem answer_calChange (q : Request) (queryOnly : Bool) (s : State) :
    CalChange s.gu.cal (s.answer q queryOnly).state.gu.cal := by
  unfold State.answer
  split_ifs
  · exact .kept rfl
  · exact .kept rfl
  · exact .kept rfl
  · exact serve_calChange q queryOnly s

theorem takeRaw_calChange (raw : RawRequest) (s : State) : CalChange s.gu.cal (s.takeRaw raw).gu.cal := by
  unfold State.takeRaw
  split
  · exact .kept rfl
  · exact answer_calChange ..

theorem takeFrame_calChange (bytes : List Byte) (s : State) : CalChange s.gu.cal (s.takeFrame bytes).gu.cal := by
  unfold State.takeFrame
  split
  · exact .kept rfl
  · exact takeRaw_calChange ..

/-- The end of a transaction changes the calibration lists by its request alone: a link reset keeps them (R179). -/
theorem endTransaction_calChange {action : State → State} (ha : ∀ s, CalChange s.gu.cal (action s).gu.cal) (n : Nat)
    (s : State) : CalChange s.gu.cal (s.endTransaction n action).gu.cal := by
  unfold State.endTransaction
  split
  · exact .kept rfl
  · split_ifs
    · exact .kept (by simp)
    · exact .kept rfl
    · exact ha (s.closeTransaction _ n)
    · exact .kept rfl

theorem wholeTransaction_calChange {action : State → State} (ha : ∀ s, CalChange s.gu.cal (action s).gu.cal) (n : Nat)
    (s : State) : CalChange s.gu.cal (s.beginTransaction.endTransaction n action).gu.cal := by
  have h := endTransaction_calChange ha n s.beginTransaction
  simpa using h

theorem hostRequest_calChange (tag : Byte) (queryOnly : Bool) (q : Request) (s : State) :
    CalChange s.gu.cal (s.hostRequest tag queryOnly q).gu.cal :=
  wholeTransaction_calChange (action := State.takeRequest tag queryOnly q) (answer_calChange q queryOnly) _ s

/-- Whatever a command does, it changes the calibration lists in one of these ways. -/
theorem exec_calChange {c : Instr} {s t : State} (h : exec c s = .next t) : CalChange s.gu.cal t.gu.cal := by
  cases c
  case hardReset => cases h; exact .cleared rfl
  case transactionEnd bytes => cases h; exact endTransaction_calChange (takeFrame_calChange bytes) _ s
  case frameError bytes => cases h; exact wholeTransaction_calChange (takeFrame_calChange bytes) _ s
  case unknown code tag modifier payload =>
    cases h; exact wholeTransaction_calChange (takeRaw_calChange ⟨code, tag, modifier, payload⟩) _ s
  case nop | ident | linkTest | resetPart | suspend | resume | sourceDefine | sourcePowerWake | sourcePowerPark |
      sourceQuery | calRun | calRunQueryOnly | calRead | ladderSet | ladderSetQueryOnly | outputSet | outputSetQueryOnly |
      outputStart | outputStop | zoomSet | zoomQuery | pinSourceOn | pinSourceOff | stillTakeSource | stillTakeFused |
      stillFlowPause | stillFlowResume | stillFlowAbort | noticeTake | noticeSetup =>
    cases h; exact hostRequest_calChange ..
  case matchWindowExpiry =>
    cases h
    refine .kept ?_
    split <;> simp
  all_goals cases h; exact .kept (by simp)

theorem idle_calChange {s t : State} (h : idle s = .next t) : CalChange s.gu.cal t.gu.cal := by
  unfold idle at h
  split at h
  · cases h
    exact .kept (by simp)
  · exact exec_calChange h

/-- One step, of a command or of the part by itself, changes the calibration lists in one of these ways. -/
theorem step_calChange {s t : State} (h : step s = .next t) : CalChange s.gu.cal t.gu.cal := by
  unfold step at h
  split at h
  · exact idle_calChange h
  next rest _ => exact exec_calChange (s := s.setPendingQueue rest) h

/-- A list of 12 positions has at most 12 points (R46). -/
theorem points_length_le (l : CalList) : l.points.length ≤ 12 := by
  simpa [CalList.points] using List.length_filterMap_le id l.toList

/-- Settles O54: a step changes the lists only as `CalChange` says, and each such change keeps them ascending. -/
theorem calLawKept : Obligations.CalLawKept := by
  unfold Obligations.CalLawKept
  refine ⟨fun s t hs h => (step_calChange h).calLaw hs, fun l start up points hnot => ?_, fun l hl => ?_⟩
  · rw [runOutcome_list, if_neg]
    rwa [orderCheck_eq_none_iff]
  · exact ⟨hl.1.imp Nat.ne_of_lt, points_length_le l⟩

end Sys2Proof.Machine
end

section
/-! SUPPORT. The geometry unit's arithmetic: rounding, the lookup, the crop window and the resample (R49, R50, R58 to R67). -/

namespace Sys2Proof.Machine

/-! Rounding to the nearest integer (00_scope, Arithmetic) -/

/-- The rounding of a value that is not negative: the half added, then the whole quotient. -/
theorem roundDiv_natCast (n d : Nat) : roundDiv n d = ((2 * n + d) / (2 * d) : Nat) := by
  simp [roundDiv]

theorem roundDiv_zero (d : Nat) : roundDiv 0 d = 0 := by
  have hquot : (2 * 0 + d) / (2 * d) = 0 := by
    rw [Nat.div_eq_zero_iff]
    omega
  exact (roundDiv_natCast 0 d).trans (congrArg Nat.cast hquot)

/-- Rounding is odd: the mirror image of a value rounds to the mirror image. -/
theorem roundDiv_neg (a : Int) (d : Nat) : roundDiv (-a) d = -roundDiv a d := by
  rcases lt_trichotomy a 0 with ha | rfl | ha
  · rw [roundDiv, roundDiv, if_pos (by omega), if_neg (by omega), neg_neg]
  · rw [neg_zero, roundDiv_zero, neg_zero]
  · rw [roundDiv, roundDiv, if_neg (by omega), if_pos (by omega), neg_neg]

/-- `r` is the integer nearest to `n / d`, away from zero where two are equally near. -/
structure IsNearest (n d r : Int) : Prop where
  above : 2 * (r * d - n) ≤ d
  below : 2 * (n - r * d) ≤ d
  tieUp : 2 * (r * d - n) = d → 0 < n
  tieDown : 2 * (n - r * d) = d → n < 0

theorem IsNearest.neg {n d r : Int} (h : IsNearest n d r) : IsNearest (-n) d (-r) := by
  obtain ⟨above, below, tieUp, tieDown⟩ := h
  have hm : -r * d = -(r * d) := neg_mul ..
  constructor <;> rw [hm] <;> omega

theorem roundDiv_natCast_isNearest (n : Nat) {d : Nat} (hd : 0 < d) : IsNearest n d (roundDiv n d) := by
  have hdiv := congrArg (Nat.cast (R := Int)) (Nat.div_add_mod (2 * n + d) (2 * d))
  have hmod := Nat.mod_lt (2 * n + d) (show 0 < 2 * d by omega)
  have hzero : n = 0 → (2 * n + d) % (2 * d) = d := by
    rintro rfl
    rw [Nat.mod_eq_of_lt] <;> omega
  rw [roundDiv_natCast]
  generalize (2 * n + d) / (2 * d) = q at *
  generalize (2 * n + d) % (2 * d) = m at *
  have hq : 2 * ((q : Int) * d) + m = 2 * n + d := by
    push_cast at hdiv
    linarith
  constructor <;> generalize (q : Int) * d = p at * <;> omega

theorem roundDiv_isNearest (a : Int) {d : Nat} (hd : 0 < d) : IsNearest a d (roundDiv a d) := by
  obtain ⟨n, rfl | rfl⟩ := a.eq_nat_or_neg
  · exact roundDiv_natCast_isNearest n hd
  · rw [roundDiv_neg]
    exact (roundDiv_natCast_isNearest n hd).neg

/-- The nearest integer to a fraction between two integers lies between them. -/
theorem IsNearest.mem_Icc {n d r lo hi : Int} (h : IsNearest n d r) (hd : 0 < d) (hlo : lo * d ≤ n) (hhi : n ≤ hi * d) :
    lo ≤ r ∧ r ≤ hi := by
  obtain ⟨above, below, -, -⟩ := h
  constructor
  · by_contra hlt
    have : (r + 1) * d ≤ lo * d := by gcongr; omega
    linarith
  · by_contra hlt
    have : (hi + 1) * d ≤ r * d := by gcongr; omega
    linarith

/-! The interpolation between two points (R50) -/

theorem interpolate_neg (fa fb f : Nat) (oa ob : Int) : interpolate fa fb f (-oa) (-ob) = -interpolate fa fb f oa ob := by
  rw [interpolate, interpolate, ← roundDiv_neg]
  ring_nf

theorem interpolate_isNearest {fa fb : Nat} (hab : fa < fb) (f : Nat) (oa ob : Int) :
    IsNearest (oa * (fb - fa) + (ob - oa) * (f - fa)) (fb - fa) (interpolate fa fb f oa ob) := by
  have h := roundDiv_isNearest (oa * ((fb : Int) - fa) + (ob - oa) * ((f : Int) - fa)) (Nat.sub_pos_of_lt hab)
  rwa [Nat.cast_sub hab.le] at h

/-- An interpolated offset lies in every interval in which the offsets of its two points lie. -/
theorem interpolate_mem_Icc {fa fb f : Nat} (haf : fa ≤ f) (hfb : f < fb) {oa ob lo hi : Int}
    (ha : lo ≤ oa ∧ oa ≤ hi) (hb : lo ≤ ob ∧ ob ≤ hi) :
    lo ≤ interpolate fa fb f oa ob ∧ interpolate fa fb f oa ob ≤ hi := by
  have hu : (0 : Int) ≤ f - fa := by omega
  have hv : (0 : Int) ≤ fb - f := by omega
  refine (interpolate_isNearest (by omega) f oa ob).mem_Icc (by omega) ?_ ?_
  · linarith [mul_le_mul_of_nonneg_right ha.1 hv, mul_le_mul_of_nonneg_right hb.1 hu]
  · linarith [mul_le_mul_of_nonneg_right ha.2 hv, mul_le_mul_of_nonneg_right hb.2 hu]

/-! The lookup (R49) -/

/-- Points whose focus codes ascend strictly. -/
def AscendingPoints (points : List CalPoint) : Prop := (points.map CalPoint.focus).Pairwise (· < ·)

theorem ascendingPoints_cons {a : CalPoint} {points : List CalPoint} :
    AscendingPoints (a :: points) ↔ (∀ p ∈ points, a.focus < p.focus) ∧ AscendingPoints points := by
  simp [AscendingPoints]

/-- A focus code above a point and the point after it is looked up from the latter on. -/
theorem lookupPoints_cons_cons {a b : CalPoint} (hab : a.focus < b.focus) {f : Nat} (hf : b.focus ≤ f)
    (rest : List CalPoint) : lookupPoints (a :: b :: rest) f = lookupPoints (b :: rest) f := by
  rcases hf.eq_or_lt with rfl | hlt
  · simp [lookupPoints, lookupFrom, Nat.not_le.mpr hab]
  · simp [lookupPoints, lookupFrom, show ¬ f ≤ a.focus by omega, show ¬ f ≤ b.focus by omega,
      show ¬ f < b.focus by omega, show f ≠ b.focus by omega]

/-- The points before one at or below the focus code do not matter. -/
theorem lookupPoints_append {pre post : List CalPoint} {p : CalPoint} (h : AscendingPoints (pre ++ p :: post)) {f : Nat}
    (hf : p.focus ≤ f) : lookupPoints (pre ++ p :: post) f = lookupPoints (p :: post) f := by
  induction pre with
  | nil => rfl
  | cons a rest ih =>
    obtain ⟨hlt, htail⟩ := ascendingPoints_cons.mp h
    have hp : a.focus < p.focus := hlt p (by simp)
    rw [← ih htail]
    cases rest with
    | nil => exact lookupPoints_cons_cons hp hf post
    | cons b more =>
      have hb : b.focus ≤ p.focus := ((ascendingPoints_cons.mp htail).1 p (by simp)).le
      exact lookupPoints_cons_cons (hlt b (by simp)) (hb.trans hf) _

/-- At or below the first point, its offsets are given. -/
theorem lookupPoints_of_le_first (p : CalPoint) (post : List CalPoint) {f : Nat} (hf : f ≤ p.focus) :
    lookupPoints (p :: post) f = ⟨p.ox, p.oy⟩ := by
  simp [lookupPoints, hf]

/-- At or above the last point, its offsets are given. -/
theorem lookupPoints_of_last_le {pre : List CalPoint} {p : CalPoint} (h : AscendingPoints (pre ++ [p])) {f : Nat}
    (hf : p.focus ≤ f) : lookupPoints (pre ++ [p]) f = ⟨p.ox, p.oy⟩ := by
  rw [lookupPoints_append h hf]
  simp [lookupPoints, lookupFrom]

/-- Strictly between two consecutive points, the offsets are interpolated between theirs. -/
theorem lookupPoints_between {pre post : List CalPoint} {a b : CalPoint} (h : AscendingPoints (pre ++ a :: b :: post))
    {f : Nat} (ha : a.focus < f) (hb : f < b.focus) :
    lookupPoints (pre ++ a :: b :: post) f =
      ⟨interpolate a.focus b.focus f a.ox b.ox, interpolate a.focus b.focus f a.oy b.oy⟩ := by
  rw [lookupPoints_append h ha.le]
  simp [lookupPoints, lookupFrom, Nat.not_le.mpr ha, hb]

/-- Mirror images in sign of the points after one give the mirror image of the lookup. -/
theorem lookupFrom_mirror (a : CalPoint) (f : Nat) (rest : List CalPoint) :
    lookupFrom { a with ox := -a.ox, oy := -a.oy } f (rest.map fun p => { p with ox := -p.ox, oy := -p.oy }) =
      ⟨-(lookupFrom a f rest).ox, -(lookupFrom a f rest).oy⟩ := by
  induction rest generalizing a with
  | nil => rfl
  | cons b rest ih =>
    simp only [List.map_cons, lookupFrom, interpolate_neg, ih]
    split_ifs <;> rfl

/-- Mirror images in sign give mirror images (R50). -/
theorem lookupPoints_mirror (points : List CalPoint) (f : Nat) :
    lookupPoints (points.map fun p => { p with ox := -p.ox, oy := -p.oy }) f =
      ⟨-(lookupPoints points f).ox, -(lookupPoints points f).oy⟩ := by
  cases points with
  | nil => rfl
  | cons a rest =>
    simp only [List.map_cons, lookupPoints, lookupFrom_mirror]
    split_ifs <;> rfl

/-- Offsets that a signed field of two bytes holds (R46). -/
def Offsets.InRange (o : Offsets) : Prop := -32768 ≤ o.ox ∧ o.ox ≤ 32767 ∧ -32768 ≤ o.oy ∧ o.oy ≤ 32767

/-- The offsets of a point. -/
def CalPoint.offsets (p : CalPoint) : Offsets := ⟨p.ox, p.oy⟩

theorem lookupFrom_inRange {a : CalPoint} {f : Nat} (haf : a.focus ≤ f) {rest : List CalPoint}
    (ha : a.offsets.InRange) (hrest : ∀ p ∈ rest, p.offsets.InRange) : (lookupFrom a f rest).InRange := by
  induction rest generalizing a with
  | nil => exact ha
  | cons b rest ih =>
    obtain ⟨hb, hmore⟩ := List.forall_mem_cons.mp hrest
    unfold lookupFrom
    split_ifs with hlt heq
    · obtain ⟨hax, hax', hay, hay'⟩ := ha
      obtain ⟨hbx, hbx', hby, hby'⟩ := hb
      have hx := interpolate_mem_Icc haf hlt ⟨hax, hax'⟩ ⟨hbx, hbx'⟩
      have hy := interpolate_mem_Icc haf hlt ⟨hay, hay'⟩ ⟨hby, hby'⟩
      exact ⟨hx.1, hx.2, hy.1, hy.2⟩
    · exact hb
    · exact ih (Nat.le_of_not_lt hlt) hb hmore

/-- The offsets given are in range as those of the points are (R49). -/
theorem lookupPoints_inRange {points : List CalPoint} (h : ∀ p ∈ points, p.offsets.InRange) (f : Nat) :
    (lookupPoints points f).InRange := by
  cases points with
  | nil => simp [lookupPoints, Offsets.InRange]
  | cons a rest =>
    obtain ⟨ha, hrest⟩ := List.forall_mem_cons.mp h
    simp only [lookupPoints]
    split_ifs with hle
    · exact ha
    · exact lookupFrom_inRange (Nat.le_of_not_le hle) ha hrest

/-- Settles O27, from the lookup's rows and from what the interpolation rounds. -/
theorem lookupInterpolates : Obligations.LookupInterpolates := by
  unfold Obligations.LookupInterpolates
  refine ⟨fun _ _ _ => rfl, fun _ => rfl, ?rows, ?between, ?mirror⟩
  case rows =>
    rintro pre post p f h (⟨rfl, hf⟩ | ⟨rfl, hf⟩ | rfl)
    · exact lookupPoints_of_le_first p post hf
    · exact lookupPoints_of_last_le h hf
    · rw [lookupPoints_append h le_rfl, lookupPoints_of_le_first p post le_rfl]
  case between =>
    intro pre post a b f h ha hb nearest o
    have hnear := interpolate_isNearest (ha.trans hb) f
    simp only [nearest, o, lookupPoints_between h ha hb]
    obtain ⟨xAbove, xBelow, xUp, xDown⟩ := hnear a.ox b.ox
    obtain ⟨yAbove, yBelow, yUp, yDown⟩ := hnear a.oy b.oy
    exact ⟨⟨xAbove, xBelow, xUp, xDown⟩, yAbove, yBelow, yUp, yDown⟩
  case mirror =>
    intro points f _
    exact ⟨lookupPoints_mirror points f, fun h => lookupPoints_inRange h f⟩

/-! The crop window (R58 to R62) -/

theorem evenDown_le (n : Nat) : evenDown n ≤ n := Nat.sub_le ..

theorem evenDown_mod_two (n : Nat) : evenDown n % 2 = 0 := by
  unfold evenDown
  omega

/-- One axis of a window: it is even, lies within the frame's size and is no longer than it (R62). -/
structure AxisInFrame (start len size : Nat) : Prop where
  fits : start + len ≤ size
  startEven : start % 2 = 0
  lenEven : len % 2 = 0

theorem clampStart_axisInFrame {size len : Nat} (hlen : len ≤ size) (heven : len % 2 = 0) (start : Int) :
    AxisInFrame (clampStart size len start) len size where
  fits := by
    have h : clampStart size len start ≤ size - len := (evenDown_le _).trans (min_le_right ..)
    omega
  startEven := evenDown_mod_two _
  lenEven := heven

theorem cropWidth_le (w b z : Nat) : cropWidth w b z ≤ w := (evenDown_le _).trans (min_le_right ..)

theorem cropHeight_le {cw w : Nat} (h : cw ≤ w) : cropHeight cw ≤ heightOf w :=
  (evenDown_le _).trans (Nat.div_le_div_right (Nat.mul_le_mul_right 9 h))

theorem cropWindow_xAxis (w b z : Nat) (o : Offsets) :
    AxisInFrame (cropWindow w b z o).rect.x0 (cropWindow w b z o).rect.cw w :=
  clampStart_axisInFrame (cropWidth_le w b z) (evenDown_mod_two _) _

theorem cropWindow_yAxis (w b z : Nat) (o : Offsets) :
    AxisInFrame (cropWindow w b z o).rect.y0 (cropWindow w b z o).rect.ch (heightOf w) :=
  clampStart_axisInFrame (cropHeight_le (cropWidth_le w b z)) (evenDown_mod_two _) _

/-- Only the lines of the window are summed (R36). -/
theorem lt_of_windowSum_ne_zero {win : Rect} {y : Nat} {line : List Pixel} (h : windowSum win y line ≠ ⟨0, 0, 0⟩) :
    y < win.y0 + win.ch := by
  unfold windowSum at h
  split_ifs at h with hin
  · exact hin.2
  · exact absurd rfl h

/-! Resampling (R65 to R67) -/

/-- The mapped position is R65's value clamped to the window (R66). -/
theorem mapPosition_eq (start size n x : Nat) :
    mapPosition start size n x =
      min (max (((start * 256 + (2 * x + 1) * size * 128 / n : Nat) : Int) - 128).toNat (start * 256))
        ((start + size - 1) * 256) := rfl

/-- A position read through a window has its index in the window (R66). -/
theorem mapPosition_index_mem {size : Nat} (hsize : 0 < size) (start n x : Nat) :
    start ≤ mapPosition start size n x / 256 ∧ mapPosition start size n x / 256 ≤ start + size - 1 := by
  rw [mapPosition_eq]
  omega

/-- The fraction is 0 on the window's last index (R66). -/
theorem mapPosition_fraction_of_last {start size n x : Nat}
    (h : mapPosition start size n x / 256 = start + size - 1) : mapPosition start size n x % 256 = 0 := by
  rw [mapPosition_eq] at *
  omega

/-- Both pixels that a position reads along one axis lie within the frame. -/
theorem AxisInFrame.reads_lt {start len size : Nat} (h : AxisInFrame start len size) (hlen : 0 < len) (n x : Nat) :
    mapPosition start len n x / 256 < size ∧ min (mapPosition start len n x / 256 + 1) (start + len - 1) < size := by
  have hfits := h.fits
  have hmem := mapPosition_index_mem hlen start n x
  omega

/-- Settles O28, axis by axis. -/
theorem cropWindowInFrame : Obligations.CropWindowInFrame := by
  intro w b z o c
  have hx : AxisInFrame c.x0 c.cw w := cropWindow_xAxis w b z o
  have hy : AxisInFrame c.y0 c.ch (w * 9 / 16) := cropWindow_yAxis w b z o
  refine ⟨by have := hx.fits; omega, by have := hy.fits; omega, hx.fits, hy.fits, hx.startEven, hy.startEven,
    hx.lenEven, hy.lenEven, fun y line h => (lt_of_windowSum_ne_zero h).trans_le hy.fits,
    fun n x _ => ⟨fun h => hx.reads_lt h n x, fun h => hy.reads_lt h n x⟩⟩

theorem component_eq_of_none {frame : Content} {x y : Nat} (h : (frame[y]?.bind fun l => l[x]?) = none)
    (pick : Pixel → BitVec 10) : component frame pick x y = (pick ⟨0, 0, 0⟩).toNat := by
  unfold component
  cases hl : frame[y]? <;> simp_all [Pixel.black]

theorem component_eq_of_some {frame : Content} {x y : Nat} {p : Pixel} (h : (frame[y]?.bind fun l => l[x]?) = some p)
    (pick : Pixel → BitVec 10) : component frame pick x y = (pick p).toNat := by
  unfold component
  cases hl : frame[y]? <;> simp_all

theorem component_le (frame : Content) (pick : Pixel → BitVec 10) (x y : Nat) : component frame pick x y ≤ 1023 :=
  Nat.le_of_lt_succ (pick _).isLt

/-- The four weights of the bilinear value add to 65536, so the value is at most the greatest neighbour (R67). -/
theorem bilinear_le {p00 p10 p01 p11 fx fy m : Nat} (hfx : fx ≤ 256) (hfy : fy ≤ 256) (h00 : p00 ≤ m) (h10 : p10 ≤ m)
    (h01 : p01 ≤ m) (h11 : p11 ≤ m) : bilinear p00 p10 p01 p11 fx fy ≤ m := by
  obtain ⟨gx, hgx⟩ := Nat.exists_eq_add_of_le hfx
  obtain ⟨gy, hgy⟩ := Nat.exists_eq_add_of_le hfy
  have hx : 256 - fx = gx := by omega
  have hy : 256 - fy = gy := by omega
  have hsum : p00 * gx * gy + p10 * fx * gy + p01 * gx * fy + p11 * fx * fy ≤ m * 65536 :=
    calc p00 * gx * gy + p10 * fx * gy + p01 * gx * fy + p11 * fx * fy
        ≤ m * gx * gy + m * fx * gy + m * gx * fy + m * fx * fy := by gcongr
      _ = m * ((fx + gx) * (fy + gy)) := by ring
      _ = m * 65536 := by rw [← hgx, ← hgy]
  unfold bilinear
  rw [hx, hy]
  omega

theorem resample_le (frame : Content) (pick : Pixel → BitVec 10) (win : Rect) (wo ho x y : Nat) :
    resample frame pick win wo ho x y ≤ 1023 :=
  bilinear_le (Nat.mod_lt _ (by decide)).le (Nat.mod_lt _ (by decide)).le (component_le ..) (component_le ..)
    (component_le ..) (component_le ..)

/-- Settles O30, from the clamp of a mapped position and the bilinear value of the four neighbours. -/
theorem resampleMapping : Obligations.ResampleMapping := by
  refine ⟨?position, ?value⟩
  case position =>
    intro start size n x hsize _ _ p q
    have hq : q = min (max p.toNat (start * 256)) ((start + size - 1) * 256) := mapPosition_eq start size n x
    obtain ⟨hfirst, hlast⟩ := mapPosition_index_mem hsize start n x
    refine ⟨by omega, by omega, by omega, hfirst, hlast, mapPosition_fraction_of_last⟩
  case value =>
    intro frame pick win wo ho x y fx fy ix iy jx jy value
    have hvalue (column line : Nat) : value column line = component frame pick column line := by
      simp only [value]
      split
      next h => exact (component_eq_of_none h pick).symm
      next h => exact (component_eq_of_some h pick).symm
    have hjx : jx = min (ix + 1) (win.x0 + win.cw - 1) := (min_def_lt ..).symm.trans (min_comm ..)
    have hjy : jy = min (iy + 1) (win.y0 + win.ch - 1) := (min_def_lt ..).symm.trans (min_comm ..)
    refine ⟨?_, resample_le ..⟩
    rw [hvalue, hvalue, hvalue, hvalue, hjx, hjy]
    rfl

end Sys2Proof.Machine
end

section
/-! SUPPORT. The compositor's gain and blend: the rounding of the combination, its bounds, and the value of a compose (R126,
R127). -/

namespace Sys2Proof.Machine

/-! The combination of two gained values (R127) -/

/-- The combination is the nearest value to the weighted sum over 256, halves upward: 128 is the half. -/
theorem blended_isRounded (a b w : Nat) :
    256 * blended a b w ≤ a * (256 - w) + b * w + 128 ∧ a * (256 - w) + b * w + 128 < 256 * blended a b w + 256 :=
  ⟨Nat.mul_div_le .., Nat.lt_mul_div_succ _ (by decide)⟩

theorem blended_mono {a a' b b' : Nat} (ha : a ≤ a') (hb : b ≤ b') (w : Nat) : blended a b w ≤ blended a' b' w := by
  unfold blended
  gcongr

/-- The two weights add to 256, so two equal values combine to themselves. -/
theorem blended_self {w : Nat} (hw : w ≤ 256) (m : Nat) : blended m m w = m := by
  have hsum : m * (256 - w) + m * w = m * 256 := by rw [← Nat.mul_add, Nat.sub_add_cancel hw]
  rw [blended, hsum]
  omega

theorem min_le_blended {w : Nat} (hw : w ≤ 256) (a b : Nat) : min a b ≤ blended a b w :=
  calc min a b = blended (min a b) (min a b) w := (blended_self hw _).symm
    _ ≤ blended a b w := blended_mono (min_le_left a b) (min_le_right a b) w

theorem blended_le_max {w : Nat} (hw : w ≤ 256) (a b : Nat) : blended a b w ≤ max a b :=
  calc blended a b w ≤ blended (max a b) (max a b) w := blended_mono (le_max_left a b) (le_max_right a b) w
    _ = max a b := blended_self hw _

@[simp] theorem blended_full (a b : Nat) : blended a b 256 = b := by
  unfold blended
  omega

/-- A step of 256 in the outgoing value moves the combination by the outgoing weight. -/
theorem blended_add_left (a b w : Nat) : blended (a + 256) b w = blended a b w + (256 - w) := by
  have hsum : (a + 256) * (256 - w) + b * w + 128 = a * (256 - w) + b * w + 128 + 256 * (256 - w) := by ring
  rw [blended, hsum, Nat.add_mul_div_left _ _ (by decide), blended]

/-- A step of 256 in the incoming value moves the combination by the incoming weight. -/
theorem blended_add_right (a b w : Nat) : blended a (b + 256) w = blended a b w + w := by
  have hsum : a * (256 - w) + (b + 256) * w + 128 = a * (256 - w) + b * w + 128 + 256 * w := by ring
  rw [blended, hsum, Nat.add_mul_div_left _ _ (by decide), blended]

/-! The gained value (R126) -/

theorem gained_eq (v g : Nat) :
    gained v g = if 1023 < (v * g + 512) / 1024 then 1023 else (v * g + 512) / 1024 := by
  rw [gained, min_comm, min_def_lt]

theorem gained_unity {v : Nat} (hv : v ≤ 1023) : gained v 1024 = v := by
  unfold gained
  omega

/-! The output component of a compose (R127) -/

theorem State.outValue_of_one {s : State} {k : Compose} {p : Part} (h : k.parts = [p]) (pick : Pixel → BitVec 10)
    (gain : Gains → Nat) (x y : Nat) : s.outValue k pick gain x y = s.partValue k.wo p pick gain x y := by
  simp [State.outValue, h]

theorem State.outValue_of_two {s : State} {k : Compose} {p q : Part} (h : k.parts = [p, q]) (pick : Pixel → BitVec 10)
    (gain : Gains → Nat) (x y : Nat) : s.outValue k pick gain x y =
      blended (s.partValue k.wo p pick gain x y) (s.partValue k.wo q pick gain x y) q.weight := by
  simp [State.outValue, h]

/-- Settles O35: the combination is monotone in both values and keeps equal ones, so it stands between them; its steps
in either value are that value's weight. -/
theorem blendedBetween : Obligations.BlendedBetween := by
  refine ⟨?between, ?bothHavePart, blended_full, gained_eq, fun _ => gained_unity,
    fun _ _ _ pick gain x y h => State.outValue_of_one h pick gain x y,
    fun _ _ _ _ pick gain x y h => State.outValue_of_two h pick gain x y⟩
  case between =>
    intro a b w ha hb hw
    obtain ⟨hle, hlt⟩ := blended_isRounded a b w
    have hmax := blended_le_max hw a b
    exact ⟨rfl, hle, hlt, min_le_blended hw a b, hmax, hmax.trans (max_le ha hb)⟩
  case bothHavePart =>
    intro a b w hpos hlt
    rw [blended_add_left, blended_add_right]
    omega

end Sys2Proof.Machine
end

section
/-! SUPPORT. What one step can make of the machine, said once: the link's exchange with the host, and at most one event. -/

namespace Sys2Proof.Machine

/-! The link's exchange -/

/-- `t` is `s` but for what the link exchanges with the host, below the part state, and for the commands that wait. -/
def Exchange (s t : State) : Prop :=
  ∃ phase current slot txn sdo pending,
    t = { s with link := ⟨s.link.part, phase, current, slot, txn, sdo⟩, pending := pending }

theorem Exchange.refl (s : State) : Exchange s s := ⟨_, _, _, _, _, _, rfl⟩

theorem Exchange.trans {s t u : State} (h : Exchange s t) (k : Exchange t u) : Exchange s u := by
  obtain ⟨_, _, _, _, _, _, rfl⟩ := h
  obtain ⟨_, _, _, _, _, _, rfl⟩ := k
  exact ⟨_, _, _, _, _, _, rfl⟩

theorem exchange_setPendingQueue (queue : List Instr) (s : State) : Exchange s (s.setPendingQueue queue) :=
  ⟨_, _, _, _, _, _, rfl⟩

theorem exchange_setTxn (x : Option Txn) (s : State) : Exchange s (s.setTxn x) := ⟨_, _, _, _, _, _, rfl⟩

theorem exchange_decideTxn (s : State) : Exchange s s.decideTxn := by
  unfold State.decideTxn
  split
  · exact exchange_setTxn _ s
  · exact exchange_setTxn _ s
  · split
    · exact ⟨_, _, _, _, _, _, rfl⟩
    · exact exchange_setTxn _ s

theorem exchange_beginTransaction (s : State) : Exchange s s.beginTransaction := by
  unfold State.beginTransaction
  split_ifs
  · exact .refl s
  · exact exchange_setTxn _ s
  · exact exchange_decideTxn s

theorem exchange_undoTransaction (x : Txn) (s : State) : Exchange s (s.undoTransaction x) := by
  unfold State.undoTransaction
  split
  · exact exchange_setTxn none s
  · exact exchange_setTxn none s
  · exact ⟨_, _, _, _, _, _, rfl⟩

theorem exchange_closeTransaction (x : Txn) (n : Nat) (s : State) : Exchange s (s.closeTransaction x n) :=
  ⟨_, _, _, _, _, _, rfl⟩

theorem exchange_execute (a : Answer) (request : Option RawRequest) (code tag : Byte) :
    Exchange a.state (a.execute request code tag) := ⟨_, _, _, _, _, _, rfl⟩

theorem exchange_formReply (s : State) : Exchange s s.formReply := by
  unfold State.formReply
  split
  · exact ⟨_, _, _, _, _, _, rfl⟩
  · exact .refl s

/-! The events -/

/-- What can happen to the machine in one step besides the link's exchange: a request is served by its owner, or one of
the part's own events comes. -/
inductive Event : State → State → Prop
  | served {s : State} {q : Request} (queryOnly : Bool) (hp : s.link.part.passes q = true)
      (he : q.encodingGood = true) (hl : q.lengthAgrees = true) : Event s (s.serve q queryOnly).state
  | hardReset (s : State) : Event s s.hardReset
  | linkReset (s : State) : Event s s.linkReset
  | release (x : Straps) (s : State) : Event s (s.release x)
  | reachLock (s : State) : Event s s.reachLock
  | endLinkReset (s : State) : Event s s.endLinkReset
  | endPulse (s : State) : Event s s.endPulse
  | frameStart (i : Src) (s : State) : Event s (s.frameStart i)
  | takeLine (i : Src) (pixels : List Pixel) (s : State) : Event s (s.takeLine i pixels)
  | frameEnd (i : Src) (s : State) : Event s (s.frameEnd i)
  | settleExpiry (i : Src) (s : State) : Event s (s.settleExpiry i)
  | syncExpiry (i : Src) (s : State) : Event s (s.syncExpiry i)
  | frameTimeout (i : Src) (s : State) : Event s (s.frameTimeout i)
  | idleExpiry (i : Src) (s : State) : Event s (s.idleExpiry i)
  | takeReport (i : Src) (s : State) : Event s (s.takeReport i)
  | tick (s : State) : Event s s.tick
  | composeComplete (s : State) : Event s s.composeComplete
  | groupBegin (s : State) : Event s s.groupBegin
  | groupEnd (s : State) : Event s s.groupEnd
  | pauseTimeout (s : State) : Event s s.pauseTimeout
  | videoEnd (s : State) : Event s s.videoEnd
  | passMicrosecond (s : State) : Event s s.passMicrosecond

/-- One step in these terms: an exchange, at most one event, and an exchange. -/
def Passage (s t : State) : Prop := ∃ u v, Exchange s u ∧ (v = u ∨ Event u v) ∧ Exchange v t

theorem Exchange.passage {s t : State} (h : Exchange s t) : Passage s t := ⟨s, s, .refl s, .inl rfl, h⟩

theorem Event.passage {s t : State} (h : Event s t) : Passage s t := ⟨s, t, .refl s, .inr h, .refl t⟩

theorem Passage.after {s t u : State} (h : Exchange s t) (k : Passage t u) : Passage s u := by
  obtain ⟨v, w, hv, hw, hu⟩ := k
  exact ⟨v, w, h.trans hv, hw, hu⟩

/-- A request that is answered is refused or is served by its owner. -/
theorem answer_cases (q : Request) (queryOnly : Bool) (s : State) :
    (∃ result, s.answer q queryOnly = s.refuse result []) ∨
      s.answer q queryOnly = s.serve q queryOnly ∧ s.link.part.passes q = true ∧ q.encodingGood = true ∧
        q.lengthAgrees = true := by
  unfold State.answer
  split_ifs with hl hp he
  · exact .inl ⟨_, rfl⟩
  · exact .inl ⟨_, rfl⟩
  · exact .inl ⟨_, rfl⟩
  · exact .inr ⟨rfl, by simpa using hp, by simpa using he, by simpa using hl⟩

/-- What taking a request or a frame makes of the machine: the reply of a refusal, or of the owner, is being formed. -/
inductive Taken (s : State) : State → Prop
  | refused (result : Result) (payload : List Byte) (request : Option RawRequest) (code tag : Byte) :
      Taken s ((s.refuse result payload).execute request code tag)
  | served (q : Request) (queryOnly : Bool) (hp : s.link.part.passes q = true) (he : q.encodingGood = true)
      (hl : q.lengthAgrees = true) (request : Option RawRequest) (code tag : Byte) : Taken s ((s.serve q queryOnly).execute request code tag)

theorem taken_answer (q : Request) (queryOnly : Bool) (s : State) (request : Option RawRequest) (code tag : Byte) :
    Taken s ((s.answer q queryOnly).execute request code tag) := by
  rcases answer_cases q queryOnly s with ⟨result, h⟩ | ⟨h, hp, he, hl⟩ <;> rw [h]
  · exact .refused ..
  · exact .served q queryOnly hp he hl ..

theorem taken_takeRequest (tag : Byte) (queryOnly : Bool) (q : Request) (s : State) :
    Taken s (s.takeRequest tag queryOnly q) := taken_answer ..

theorem taken_takeRaw (raw : RawRequest) (s : State) : Taken s (s.takeRaw raw) := by
  unfold State.takeRaw
  split
  · exact .refused ..
  · exact taken_answer ..

theorem taken_takeFrame (bytes : List Byte) (s : State) : Taken s (s.takeFrame bytes) := by
  unfold State.takeFrame
  split
  · exact .refused ..
  · exact taken_takeRaw ..

theorem Taken.passage {s t : State} (h : Taken s t) : Passage s t := by
  cases h with
  | refused result payload => exact (exchange_execute (s.refuse result payload) ..).passage
  | served q queryOnly hp he hl =>
    exact ⟨s, _, .refl s, .inr (.served queryOnly hp he hl), exchange_execute ..⟩

/-- What a command makes of the machine: an event comes, a transaction begins or ends, or a reply is formed. -/
inductive Doing (s : State) : State → Prop
  | nothing : Doing s s
  | event {t : State} (h : Event s t) : Doing s t
  | begins : Doing s s.beginTransaction
  | ends (n : Nat) {action : State → State} (ha : ∀ u, Taken u (action u)) : Doing s (s.endTransaction n action)
  | whole (n : Nat) {action : State → State} (ha : ∀ u, Taken u (action u)) :
      Doing s (s.beginTransaction.endTransaction n action)
  | forms : Doing s s.formReply

theorem passage_endTransaction {action : State → State} (ha : ∀ s, Taken s (action s)) (n : Nat) (s : State) :
    Passage s (s.endTransaction n action) := by
  unfold State.endTransaction
  split
  · exact (Exchange.refl s).passage
  next x _ =>
    split_ifs
    · exact (exchange_undoTransaction x s).passage
    · exact .after (exchange_closeTransaction x n s) (Event.linkReset _).passage
    · exact .after (exchange_closeTransaction x n s) (ha _).passage
    · exact (exchange_closeTransaction x n s).passage

theorem Doing.passage {s t : State} (h : Doing s t) : Passage s t := by
  cases h with
  | nothing => exact (Exchange.refl s).passage
  | event h => exact h.passage
  | begins => exact (exchange_beginTransaction s).passage
  | ends n ha => exact passage_endTransaction ha n s
  | whole n ha => exact .after (exchange_beginTransaction s) (passage_endTransaction ha n _)
  | forms => exact (exchange_formReply s).passage

/-- A tick that MATCH_WINDOW_EXPIRY names is a tick (log 10). -/
theorem doing_matchWindowExpiry (s : State) : Doing s (if s.windowDue = true then s.tick else s) := by
  split_ifs
  · exact .event (.tick s)
  · exact .nothing

theorem exec_doing {c : Instr} {s t : State} (h : exec c s = .next t) : Doing s t := by
  cases c <;> cases h
  case transactionStart => exact .begins
  case transactionEnd bytes => exact .ends _ (taken_takeFrame bytes)
  case frameError bytes => exact .whole _ (taken_takeFrame bytes)
  case unknown code tag modifier payload => exact .whole _ (taken_takeRaw _)
  case replyFormed => exact .forms
  case hardReset => exact .event (.hardReset s)
  case resetRelease => exact .event (.release _ s)
  case clockLock => exact .event (.reachLock s)
  case linkResetEnd => exact .event (.endLinkReset s)
  case attnPulseEnd => exact .event (.endPulse s)
  case frameStart i => exact .event (.frameStart i s)
  case metadataLine i pixels => exact .event (.takeLine i pixels s)
  case imageLine i pixels => exact .event (.takeLine i pixels s)
  case frameEnd i => exact .event (.frameEnd i s)
  case settleExpiry i => exact .event (.settleExpiry i s)
  case syncExpiry i => exact .event (.syncExpiry i s)
  case frameTimeout i => exact .event (.frameTimeout i s)
  case idleExpiry i => exact .event (.idleExpiry i s)
  case faultReport i => exact .event (.takeReport i s)
  case tick => exact .event (.tick s)
  case matchWindowExpiry => exact doing_matchWindowExpiry s
  case composeComplete => exact .event (.composeComplete s)
  case stillGroupBegin => exact .event (.groupBegin s)
  case stillGroupEnd => exact .event (.groupEnd s)
  case pauseTimeout => exact .event (.pauseTimeout s)
  case videoTransmissionEnd => exact .event (.videoEnd s)
  all_goals exact .whole _ fun _ => taken_takeRequest ..

theorem idle_doing {s t : State} (h : idle s = .next t) : Doing s t := by
  unfold idle at h
  split at h
  · cases h
    exact .event (.passMicrosecond s)
  · exact exec_doing h

/-- One step, of a command or of the part by itself, but for the queue of the commands that wait. -/
theorem step_doing {s t : State} (h : step s = .next t) : ∃ queue, Doing (s.setPendingQueue queue) t := by
  unfold step at h
  split at h
  · exact ⟨s.pending, idle_doing h⟩
  next rest _ => exact ⟨rest, exec_doing h⟩

theorem step_passage {s t : State} (h : step s = .next t) : Passage s t := by
  obtain ⟨queue, hd⟩ := step_doing h
  exact .after (exchange_setPendingQueue queue s) hd.passage

/-! Laws -/

/-- What holds after every event from the states of `pre` holds after every step from them, where neither property
speaks of the exchange. -/
theorem step_establishes {pre law : State → Prop} (hpre : ∀ {s t}, Exchange s t → pre s → pre t)
    (hlaw : ∀ {s t}, Exchange s t → law s → law t) (hle : ∀ {s}, pre s → law s)
    (event : ∀ {s t}, Event s t → pre s → law t) {s t : State} (hs : pre s) (h : step s = .next t) : law t := by
  obtain ⟨u, v, hu, hv, ht⟩ := step_passage h
  have pu := hpre hu hs
  rcases hv with rfl | hv
  · exact hlaw ht (hle pu)
  · exact hlaw ht (event hv pu)

/-- A law that speaks of no exchange and that every event keeps is kept by every step. -/
theorem kept_of_event {law : State → Prop} (hlaw : ∀ {s t}, Exchange s t → law s → law t)
    (event : ∀ {s t}, Event s t → law s → law t) : Kept law :=
  fun _ _ hs h => step_establishes hlaw hlaw id event hs h

end Sys2Proof.Machine
end

section
/-! SUPPORT. What an event can make of the source records, of the notice queue and of the transition record: a chain of
moves, each of which keeps the law of its part. -/

namespace Sys2Proof.Machine

/-! One source record -/

/-- The moves of one source record (R5 to R12, R15, R37); its description stands. -/
inductive SourceMove (x : Source) : Source → Prop
  | wake (purpose : Purpose) (t : Timer) (hs : x.state = .parked) (hd : x.defined = true) :
      SourceMove x { x with state := .waking, purpose := purpose, lastReady := none, enable := true, settle := some t }
  | park (hs : x.state ≠ .parked) (hr : x.state.isRole = false) : SourceMove x x.parkedRec
  | fault (cause : FaultCause) (hs : x.state.keepsFrames = true) (hp : x.state = .syncing → x.purpose = .normal) :
      SourceMove x (x.faultRec cause)
  | role (role : SrcState) (hs : x.state.usable = true) (hr : role.usable = true) :
      SourceMove x { x with state := role, idle := none }
  | idle (o : Option Timer) (ho : o.isSome = true → x.state = .warm) : SourceMove x { x with idle := o }
  | sync (t : Timer) (hs : x.state = .waking) :
      SourceMove x { x with state := .syncing, settle := none, sync := some t }
  | warm (hs : x.state = .syncing) (hp : x.purpose = .normal) (hl : x.lastReady.isSome = true) :
      SourceMove x { x with state := .warm, sync := none, frame := x.lastReady.map x.frameTimer }
  | ready (now : Time) : SourceMove x (x.readyAt now)

/-- A move keeps the description. -/
theorem SourceMove.keeps {x y : Source} (h : SourceMove x y) :
    y.defined = x.defined ∧ y.base = x.base ∧ y.width = x.width ∧ y.period = x.period ∧ y.stretch = x.stretch ∧
    y.settleMs = x.settleMs ∧ y.syncTens = x.syncTens ∧ y.idleTwenties = x.idleTwenties := by
  cases h <;> exact ⟨rfl, rfl, rfl, rfl, rfl, rfl, rfl, rfl⟩

theorem powered_of_usable {x : SrcState} (h : x.usable = true) : x.powered = true := by cases x <;> first | rfl | cases h

theorem keepsFrames_of_usable {x : SrcState} (h : x.usable = true) : x.keepsFrames = true := by
  cases x <;> first | rfl | cases h

theorem usable_of_isRole {x : SrcState} (h : x.isRole = true) : x.usable = true := by cases x <;> first | rfl | cases h

/-- Every move keeps the law of a source record. -/
theorem SourceMove.lawful {x y : Source} (h : SourceMove x y) (hx : x.Lawful) : y.Lawful := by
  obtain ⟨henable, hsettle, hsync, hframe, hidle, hcause, hpurpose, hundefined⟩ := hx
  cases h with
  | wake purpose t hs hd =>
    constructor <;> simp_all [SrcState.powered, SrcState.usable]
  | park hs hr => constructor <;> simp [Source.parkedRec, SrcState.powered, SrcState.usable]
  | fault cause hs hp =>
    constructor <;> simp [Source.faultRec, SrcState.powered, SrcState.usable]
    · intro ht
      rcases hpurpose ht with h | h
      · rw [h] at hs; cases hs
      · rw [hp h] at ht; cases ht
    · cases hd : x.defined
      · rw [hundefined hd] at hs; cases hs
      · rfl
  | role role hs hr =>
    have hstate : x.state ≠ .waking ∧ x.state ≠ .syncing ∧ x.state ≠ .fault ∧ x.state ≠ .parked := by
      cases h : x.state <;> simp_all [SrcState.usable]
    have hrole : role ≠ .waking ∧ role ≠ .syncing ∧ role ≠ .fault := by
      cases role <;> simp_all [SrcState.usable]
    constructor <;> simp_all [powered_of_usable]
  | idle o ho => constructor <;> simp_all
  | sync t hs => constructor <;> simp_all [SrcState.powered, SrcState.usable]
  | warm hs hp hl => constructor <;> simp_all [SrcState.powered, SrcState.usable]
  | ready now =>
    constructor <;> simp_all [Source.readyAt]
    split_ifs <;> simp_all

theorem reset_source_lawful : Source.reset.Lawful := by constructor <;> decide

/-! Chains of moves -/

/-- `u` is `t` but for parts of which no chain speaks. -/
def Unmoved (t u : State) : Prop :=
  u.cru.straps = t.cru.straps ∧ u.nq = t.nq ∧ u.sources = t.sources ∧ u.zc.record = t.zc.record ∧
    u.zc.reports = t.zc.reports ∧ u.cp.settings = t.cp.settings

/-- The record of every spoiled change in a list of reports is within its ranges. -/
def SpoiledLawful (l : List Report) : Prop := ∀ x ∈ l, ∀ y, x.spoiled = some y → y.record.Lawful

/-- What an event makes of the sources, the notices, the transition record and the pending reports, move by move: a
notice carries a source exactly where its kind is one kept per source, and records come from lawful ones. -/
inductive Chain (s : State) : State → Prop
  | refl : Chain s s
  | source {t : State} (h : Chain s t) (i : Src) {x : Source} (hx : SourceMove (t.source i) x) : Chain s (t.setSource i x)
  | post {t : State} (h : Chain s t) (source : Option Src) (p : Payload) (hp : source.isSome = p.kind.perSource) :
      Chain s (t.post source p)
  | record {t : State} (h : Chain s t) (r : Option Transition) (hr : RecordLaw s → ∀ x, r = some x → x.Lawful) :
      Chain s (t.setRecord r)
  | reports {t : State} (h : Chain s t) (i : Src) (l : List Report)
      (hl : RecordLaw s → SpoiledLawful (t.zc.reports.get i) → SpoiledLawful l) : Chain s (t.setReports i l)
  | other {t u : State} (h : Chain s t) (hu : Unmoved t u) : Chain s u

variable {s t : State}

theorem Chain.straps (h : Chain s t) : t.cru.straps = s.cru.straps := by
  induction h with
  | refl => rfl
  | other _ hu ih => exact hu.1.trans ih
  | source _ _ _ ih => exact ih
  | post _ _ _ _ ih => exact ih
  | record _ _ _ ih => exact ih
  | reports _ _ _ _ ih => exact ih

theorem Chain.settings (h : Chain s t) : t.cp.settings = s.cp.settings := by
  induction h with
  | refl => rfl
  | other _ hu ih =>
    obtain ⟨_, _, _, _, _, hset⟩ := hu
    exact hset.trans ih
  | source _ _ _ ih => exact ih
  | post _ _ _ _ ih => exact ih
  | record _ _ _ ih => exact ih
  | reports _ _ _ _ ih => exact ih

/-- Along a chain each source record goes through moves. -/
theorem Chain.moves (h : Chain s t) (i : Src) : Relation.ReflTransGen SourceMove (s.source i) (t.source i) := by
  induction h with
  | refl => exact .refl
  | other _ hu ih =>
    obtain ⟨_, _, hsrc, _⟩ := hu
    rw [source_congr _ _ hsrc i]
    exact ih
  | source _ j hx ih =>
    rw [source_setSource]
    split_ifs with hij
    · subst hij; exact ih.tail hx
    · exact ih
  | post _ _ _ _ ih => exact ih
  | record _ _ _ ih => exact ih
  | reports _ _ _ _ ih => exact ih

/-- Along a chain the descriptions stand. -/
theorem Chain.described (h : Chain s t) (i : Src) :
    (t.source i).defined = (s.source i).defined ∧ (t.source i).base = (s.source i).base ∧
    (t.source i).width = (s.source i).width ∧ (t.source i).period = (s.source i).period ∧
    (t.source i).stretch = (s.source i).stretch ∧ (t.source i).settleMs = (s.source i).settleMs ∧
    (t.source i).syncTens = (s.source i).syncTens ∧ (t.source i).idleTwenties = (s.source i).idleTwenties := by
  generalize t.source i = y, s.source i = x, h.moves i = hm
  induction hm with
  | refl => simp
  | tail _ hxy ih => simpa [ih] using hxy.keeps

theorem Chain.zcap (h : Chain s t) (i : Src) : (t.source i).zcap = (s.source i).zcap := by
  obtain ⟨_, hb, _, _, hst, _⟩ := h.described i
  simp [Source.zcap, hb, hst]

theorem Chain.sourceLaw (h : Chain s t) (hs : SourceLaw s) : SourceLaw t := by
  intro i
  generalize t.source i = y, h.moves i = hm
  induction hm with
  | refl => exact hs i
  | tail _ hxy ih => exact hxy.lawful ih

theorem Chain.recordLaw (h : Chain s t) (hs : RecordLaw s) : RecordLaw t := by
  induction h with
  | refl => exact hs
  | other _ hu ih =>
    obtain ⟨_, _, _, hrec, hrep, hset⟩ := hu
    exact ⟨hset ▸ ih.settings, by rw [hrec]; exact ih.record, by rw [hrep]; exact ih.spoiled⟩
  | source _ _ _ ih => exact ⟨ih.settings, ih.record, ih.spoiled⟩
  | post _ _ _ _ ih => exact ⟨ih.settings, ih.record, ih.spoiled⟩
  | record _ r hr ih => exact ⟨ih.settings, hr hs, ih.spoiled⟩
  | reports _ i l hl ih =>
    refine ⟨ih.settings, ih.record, fun j => ?_⟩
    rw [reports_setReports]
    split_ifs
    · exact hl hs (ih.spoiled i)
    · exact ih.spoiled j

end Sys2Proof.Machine
end

section
/-! SUPPORT. The operations of the model as chains of moves, in the order in which the model defines them. -/

namespace Sys2Proof.Machine

variable {s t : State}

/-! The shared operations -/

theorem Chain.waitTimer (h : Chain s t) (x : Timer) : Chain s (t.waitTimer x) := .other h (by simp [Unmoved])

theorem Chain.waitDeadline (h : Chain s t) (d : Time) : Chain s (t.waitDeadline d) := .other h (by simp [Unmoved])

theorem Chain.setReceiver (h : Chain s t) (i : Src) (x : Receiver) : Chain s (t.setReceiver i x) :=
  .other h (by simp [Unmoved])

theorem Chain.setRing (h : Chain s t) (i : Src) (x : List FrameRec) : Chain s (t.setRing i x) :=
  .other h (by simp [Unmoved])

theorem Chain.releaseHolds (h : Chain s t) (x : Holder) (i : Src) : Chain s (t.releaseHolds x i) :=
  .other h (by simp [Unmoved])

theorem Chain.purge (h : Chain s t) (i : Src) : Chain s (t.purge i) := .other h (by simp [Unmoved])

/-- A running idle timer is that of a WARM source. -/
theorem warm_of_idleRuns {i : Src} (h : s.idleRuns i = true) : (s.source i).state = .warm := by
  simp only [State.idleRuns, Bool.and_eq_true, decide_eq_true_eq] at h
  exact h.1.1.1

theorem Chain.restartIdle (h : Chain s t) (i : Src) : Chain s (t.restartIdle i) :=
  .source h i (.idle _ (by
    split_ifs with hr
    · exact fun _ => warm_of_idleRuns hr
    · simp))

theorem Chain.stopIdle (h : Chain s t) (i : Src) : Chain s (t.stopIdle i) := .source h i (.idle none (by simp))

theorem Chain.postState (h : Chain s t) (i : Src) (purpose : Purpose) (new prev : SrcState) :
    Chain s (t.postState i purpose new prev) := by
  unfold State.postState
  split
  · exact .post h _ _ rfl
  · exact h

theorem Chain.wake (h : Chain s t) (purpose : Purpose) (i : Src) : Chain s (t.wake purpose i) := by
  unfold State.wake
  split_ifs with hc
  · exact .postState (.source h i (.wake purpose _ hc.1 hc.2)) ..
  · exact h

theorem Chain.park (h : Chain s t) (i : Src) : Chain s (t.park i) := by
  unfold State.park
  split_ifs with hc
  · exact h
  · obtain ⟨hs, hr⟩ := not_or.mp hc
    exact .postState (.purge (.source h i (.park hs (by simpa using hr))) i) ..

theorem SpoiledLawful.append_plain {l : List Report} (h : SpoiledLawful l) (role : SrcState) :
    SpoiledLawful (l ++ [⟨role, none⟩]) := by
  intro x hx y hy
  rcases List.mem_append.mp hx with hx | hx
  · exact h x hx y hy
  · rw [List.mem_singleton.mp hx] at hy; cases hy

theorem SpoiledLawful.settled {l : List Report} (h : SpoiledLawful l) : SpoiledLawful (l.map Report.settled) := by
  intro x hx y hy
  obtain ⟨z, hz, rfl⟩ := List.mem_map.mp hx
  exact h z hz y hy

theorem SpoiledLawful.shift {l : List Report} (h : SpoiledLawful l) (role : SrcState) :
    SpoiledLawful (shiftReports role l) := by
  induction l with
  | nil => exact h
  | cons x rest ih =>
    have hx := h x List.mem_cons_self
    cases rest with
    | nil => simpa [shiftReports, SpoiledLawful] using hx
    | cons y rest =>
      have hrest := ih fun z hz => h z (List.mem_cons_of_mem x hz)
      simp only [shiftReports, SpoiledLawful, List.mem_cons, forall_eq_or_imp]
      exact ⟨hx, hrest⟩

theorem SpoiledLawful.spoil {l : List Report} (h : SpoiledLawful l) {x : Spoiled} (hx : x.record.Lawful) :
    SpoiledLawful (spoilReports x l) := by
  induction l with
  | nil => exact h
  | cons y rest ih =>
    cases rest with
    | nil => simpa [spoilReports, SpoiledLawful] using hx
    | cons z rest =>
      have hrest := ih fun w hw => h w (List.mem_cons_of_mem y hw)
      simp only [spoilReports, SpoiledLawful, List.mem_cons, forall_eq_or_imp]
      exact ⟨h y List.mem_cons_self, hrest⟩

theorem Chain.faultSource (h : Chain s t) (cause : FaultCause) {i : Src} (hs : (t.source i).state.keepsFrames = true)
    (hp : (t.source i).state = .syncing → (t.source i).purpose = .normal) : Chain s (t.faultSource cause i) :=
  .reports (.post (.purge (.source h i (.fault cause hs hp)) i) _ _ rfl) i _ fun _ hl => hl.append_plain _

theorem Chain.settleReports (h : Chain s t) (i : Src) : Chain s (t.settleReports i) :=
  .reports h i _ fun _ hl => hl.settled

theorem Chain.shiftReport (h : Chain s t) (i : Src) (role : SrcState) : Chain s (t.shiftReport i role) :=
  .reports h i _ fun _ hl => hl.shift role

theorem Chain.spoil (h : Chain s t) (i : Src) {x : Spoiled} (hx : RecordLaw s → x.record.Lawful) :
    Chain s (t.spoil i x) := .reports h i _ fun hs hl => hl.spoil (hx hs)

theorem Chain.takeRole (h : Chain s t) {i : Src} {role : SrcState} (hs : (t.source i).state.usable = true)
    (hr : role.usable = true) : Chain s (t.takeRole i role) := by
  unfold State.takeRole
  split_ifs
  · exact h
  · exact .postState (.restartIdle (.source h i (.role role hs hr)) i) ..

theorem Chain.setRole (h : Chain s t) (i : Src) {role : SrcState} (hr : role.usable = true) :
    Chain s (t.setRole i role) := by
  unfold State.setRole
  split_ifs with hs
  · exact .takeRole (.settleReports h i) hs hr
  · exact .shiftReport h i role

theorem Chain.enterWarm (h : Chain s t) {i : Src} (hs : (t.source i).state = .syncing)
    (hp : (t.source i).purpose = .normal) (hl : (t.source i).lastReady.isSome = true) : Chain s (t.enterWarm i) :=
  .postState (.restartIdle (.source h i (.warm hs hp hl)) i) ..

theorem Chain.removeRecord (h : Chain s t) : Chain s t.removeRecord := by
  unfold State.removeRecord
  split
  · exact h
  · exact .restartIdle (.record h none (by simp)) _

theorem Chain.createRecord (h : Chain s t) {r : Transition} (hr : RecordLaw s → r.Lawful) : Chain s (t.createRecord r) :=
  .stopIdle (.record (.removeRecord h) (some r) (by rintro hs _ ⟨⟩; exact hr hs)) _

theorem Chain.dropPending (h : Chain s t) : Chain s t.dropPending := by
  unfold State.dropPending
  split
  · exact h
  · exact .restartIdle (.other h (by simp [Unmoved])) _

theorem Chain.settleTest (h : Chain s t) (x : TestRecord) : Chain s (t.settleTest x) := by
  unfold State.settleTest
  split_ifs
  · exact .other h ⟨rfl, rfl, rfl, rfl, rfl, rfl⟩
  · exact .post (t := { t with cru := { t.cru with test := none } })
      (.other h ⟨rfl, rfl, rfl, rfl, rfl, rfl⟩) none (.testDone ..) rfl

theorem Chain.testEnd (h : Chain s t) (i : Src) (code : TestCode) : Chain s (t.testEnd i code) := by
  unfold State.testEnd
  split
  · exact .park h i
  · exact .settleTest (.park h i) _

/-! Frame intake -/

theorem Chain.postReceiver (h : Chain s t) (i : Src) {p : Payload} (hp : p.kind.perSource = true) :
    Chain s (t.postReceiver i p) := by
  unfold State.postReceiver
  split
  · exact .post h _ _ hp.symm
  · exact h

theorem Chain.eighthBadFrame (h : Chain s t) (i : Src) : Chain s (t.eighthBadFrame i) := by
  unfold State.eighthBadFrame
  split_ifs with hs
  · split
    next hp => exact .faultSource h .link hs fun _ => hp
    next => exact .testEnd h i .badFrames
  · exact h

theorem Chain.badFrame (h : Chain s t) (i : Src) (cause : BadCause) (lines : Nat) (counter : Option Half) :
    Chain s (t.badFrame i cause lines counter) := by
  have hp := Chain.postReceiver (h.setReceiver i { t.receiver i with run := (t.receiver i).run + 1 }) i
    (p := .linkFault cause lines ((t.receiver i).run + 1) counter) rfl
  unfold State.badFrame
  dsimp only
  split_ifs
  · exact .eighthBadFrame hp i
  · exact hp

theorem Chain.setIntake (h : Chain s t) (i : Src) (x : Intake) : Chain s (t.setIntake i x) := h.setReceiver ..

theorem Chain.cutOff (h : Chain s t) (i : Src) : Chain s (t.cutOff i) := by
  unfold State.cutOff
  split
  · exact h
  · exact h
  · exact .badFrame (h.setRing ..) ..
  · exact .badFrame (h.setRing ..) ..

theorem Chain.appendFrame (h : Chain s t) (i : Src) : Chain s (t.appendFrame i) := .other h (by simp [Unmoved])

theorem Chain.openFrame (h : Chain s t) (i : Src) : Chain s (t.openFrame i) := .other h (by simp [Unmoved])

theorem Chain.frameStart (h : Chain s t) (i : Src) : Chain s (t.frameStart i) := by
  unfold State.frameStart
  split_ifs
  · exact h
  · exact .openFrame (.cutOff h i) i

theorem Chain.frameLoss (h : Chain s t) (i : Src) (c : Half) : Chain s (t.frameLoss i c) := by
  unfold State.frameLoss
  split
  · exact h
  · split_ifs
    · exact h
    · exact .postReceiver h i rfl

theorem Chain.acceptMeta (h : Chain s t) (i : Src) (m : MetaFields) : Chain s (t.acceptMeta i m) :=
  .setReceiver (.setRing (.frameLoss h i m.counter) ..) ..

theorem Chain.takeMeta (h : Chain s t) (i : Src) (pixels : List Pixel) : Chain s (t.takeMeta i pixels) := by
  unfold State.takeMeta
  split
  · exact .acceptMeta h ..
  · exact .badFrame (.setIntake (.setRing h ..) ..) ..

theorem Chain.takeImage (h : Chain s t) (i : Src) (pixels : List Pixel) : Chain s (t.takeImage i pixels) :=
  .other h (by simp [Unmoved])

theorem Chain.takeLine (h : Chain s t) (i : Src) (pixels : List Pixel) : Chain s (t.takeLine i pixels) := by
  unfold State.takeLine
  split
  · exact h
  · exact h
  · exact .takeMeta h ..
  · exact .takeImage h ..

theorem Chain.firstReady (h : Chain s t) {i : Src} (hl : (t.source i).lastReady.isSome = true) :
    Chain s (t.firstReady i) := by
  unfold State.firstReady
  split_ifs with hs
  · split
    next hp => exact .enterWarm h hs hp hl
    next => exact .testEnd h i .pass
  · exact h

theorem Chain.goodFrame (h : Chain s t) (i : Src) : Chain s (t.goodFrame i) :=
  .firstReady (.setReceiver (.source (.setRing h ..) i (.ready _)) ..) (by simp [Source.readyAt])

theorem Chain.lineCountFault (h : Chain s t) (i : Src) : Chain s (t.lineCountFault i) :=
  .badFrame (.setIntake (.setRing h ..) ..) ..

theorem Chain.frameEnd (h : Chain s t) (i : Src) : Chain s (t.frameEnd i) := by
  unfold State.frameEnd
  split
  · exact h
  · exact .setIntake h ..
  · exact .lineCountFault h i
  · split_ifs
    · exact .goodFrame h i
    · exact .lineCountFault h i

/-! The source controller -/

theorem Chain.settleExpiry (h : Chain s t) (i : Src) : Chain s (t.settleExpiry i) := by
  unfold State.settleExpiry
  split
  · exact h
  · split_ifs with hs
    · refine .postState (.source (.waitTimer h _) i (.sync _ ?_)) ..
      rw [source_congr t _ (by simp)]
      exact hs
    · exact h

theorem Chain.syncFailed (h : Chain s t) {i : Src} (hs : (t.source i).state = .syncing) : Chain s (t.syncFailed i) := by
  unfold State.syncFailed
  split
  next hp => exact .faultSource h .noSync (by rw [hs]; rfl) fun _ => hp
  next => exact .testEnd h i .noSync

theorem source_waitTimer (x : Timer) (i : Src) (s : State) : (s.waitTimer x).source i = s.source i :=
  source_congr _ _ (by simp) i

theorem Chain.syncExpiry (h : Chain s t) (i : Src) : Chain s (t.syncExpiry i) := by
  unfold State.syncExpiry
  split
  · exact h
  · split_ifs with hs
    · exact .syncFailed (.waitTimer h _) (by rwa [source_waitTimer])
    · exact h

theorem Chain.frameTimeout (h : Chain s t) (i : Src) : Chain s (t.frameTimeout i) := by
  unfold State.frameTimeout
  split
  · exact h
  · split_ifs with hs
    · refine .faultSource (.waitTimer h _) .frameTimeout ?_ ?_ <;> rw [source_waitTimer]
      · exact keepsFrames_of_usable hs
      · intro hsync; rw [hsync] at hs; cases hs
    · exact h

theorem Chain.idleExpiry (h : Chain s t) (i : Src) : Chain s (t.idleExpiry i) := by
  unfold State.idleExpiry
  split
  · exact h
  · split_ifs
    · exact .park (.waitTimer h _) i
    · exact h

/-! The zoom step -/

theorem Chain.setHeld (h : Chain s t) (b : Bounds) : Chain s (t.setHeld b) := by
  unfold State.setHeld
  dsimp only
  split_ifs
  · exact h
  · refine .post (.other h ?_) _ _ ?_
    · exact ⟨rfl, rfl, rfl, rfl, rfl, rfl⟩
    · rfl

theorem Chain.moveZoom (h : Chain s t) (b : Bounds) : Chain s (t.moveZoom b) :=
  .setHeld (.other h (u := { t with zc := { t.zc with
    bounds := some b, shown := zoomMove t.zc.shown t.zc.rate (Machine.clamp t.zc.target b.lo b.hi) } })
    ⟨rfl, rfl, rfl, rfl, rfl, rfl⟩) b

theorem Chain.zoomStages (h : Chain s t) : Chain s t.zoomStages := by
  unfold State.zoomStages
  split
  · exact .other h ⟨rfl, rfl, rfl, rfl, rfl, rfl⟩
  · exact .moveZoom h _

theorem Chain.wakeUpper (h : Chain s t) (l : Ladder) (k : Nat) : Chain s (t.wakeUpper l k) := by
  unfold State.wakeUpper
  split
  · exact h
  · split_ifs
    · exact .wake h ..
    · exact h

theorem Chain.wakeLower (h : Chain s t) (l : Ladder) (k : Nat) : Chain s (t.wakeLower l k) := by
  unfold State.wakeLower
  split
  · split_ifs
    · split
      · exact h
      · exact .wake h ..
    · exact h
  · exact h

theorem Chain.wakePoints (h : Chain s t) : Chain s t.wakePoints := by
  unfold State.wakePoints
  split_ifs
  · split
    · exact h
    · exact .wakeLower (.wakeUpper h ..) ..
  · exact h

/-! Hand-off -/

theorem Chain.postDone (h : Chain s t) (r : Transition) (mode : HandMode) (time : Time) :
    Chain s (t.postDone r mode time) := .post h _ _ rfl

theorem Chain.postAborted (h : Chain s t) (r : Transition) (cause : AbortCause) (time : Time) :
    Chain s (t.postAborted r cause time) := .post h _ _ rfl

theorem Chain.postLimited (h : Chain s t) (r : Transition) (cause : LimitCause) : Chain s (t.postLimited r cause) :=
  .post h _ _ rfl

theorem Chain.postFrozen (h : Chain s t) (faulted : Src) (target : Option Src) : Chain s (t.postFrozen faulted target) :=
  .post h _ _ rfl

theorem Chain.setSub (h : Chain s t) (x : OutSub) : Chain s (t.setSub x) := .other h ⟨rfl, rfl, rfl, rfl, rfl, rfl⟩

theorem Chain.setShown (h : Chain s t) (z : Nat) : Chain s (t.setShown z) := .other h ⟨rfl, rfl, rfl, rfl, rfl, rfl⟩

theorem Chain.passRoles (h : Chain s t) (r : Transition) : Chain s (t.passRoles r) := .setRole (.setRole h _ rfl) _ rfl

theorem Chain.passPicture (h : Chain s t) {r : Transition} (hr : RecordLaw s → r.Lawful) (change : SpoiledChange)
    (mode : HandMode) : Chain s (t.passPicture r change mode) := by
  have hp := Chain.passRoles h.removeRecord r
  unfold State.passPicture
  dsimp only
  split_ifs
  · exact .spoil hp _ hr
  · exact .spoil hp _ hr
  · exact .postDone hp ..

theorem Chain.startBlend (h : Chain s t) {r : Transition}
    (hr : RecordLaw s → Transition.Lawful { r with phase := .blending, index := 1 }) : Chain s (t.startBlend r) :=
  .record (.setRole (.setRole h _ rfl) _ rfl) _ (by rintro hs _ ⟨⟩; exact hr hs)

theorem Chain.advanceBlend (h : Chain s t) {r : Transition}
    (hr : RecordLaw s → Transition.Lawful { r with index := r.index + 1 }) : Chain s (t.advanceBlend r) :=
  .record h _ (by rintro hs _ ⟨⟩; exact hr hs)

/-- A record that enters MATCHING is one of a settings N of at least 1. -/
theorem Transition.Lawful.enterMatching {r : Transition} (h : r.Lawful) (hn : r.n ≠ 0) (hk : r.kind ≠ .rescue) :
    Transition.Lawful { r with phase := .matching, ticks := 0, run := 0 } where
  n := h.n
  index := h.index
  gains := h.gains
  run := Nat.zero_le _
  ticks := Nat.zero_le _
  rescue := fun k => absurd k hk
  matching := fun _ => Nat.one_le_iff_ne_zero.mpr hn
  blending := fun k => by cases k

theorem Chain.armedWork (h : Chain s t) {r : Transition} (hr : RecordLaw s → r.Lawful) (hk : r.kind ≠ .rescue) :
    Chain s (t.armedWork r) := by
  unfold State.armedWork
  split
  · exact .wake h ..
  · split_ifs with hn
    · exact .passPicture h hr ..
    · exact .record h _ (by rintro hs _ ⟨⟩; exact (hr hs).enterMatching hn hk)
  all_goals exact h

theorem clamp_mem {v a b : Nat} (h : a ≤ b) : a ≤ clamp v a b ∧ clamp v a b ≤ b := by
  unfold clamp
  split_ifs <;> omega

theorem rawRatio_lawful (o n : Nat) : GainLawful (rawRatio o n) := by
  unfold rawRatio
  split_ifs
  · exact ⟨by decide, by decide⟩
  · exact clamp_mem (by decide)

/-- A gain that moves toward a lawful ratio stays lawful (R121). -/
theorem gainMove_lawful {gain raw : Nat} (hg : GainLawful gain) (hr : GainLawful raw) : GainLawful (gainMove gain raw) := by
  unfold GainLawful gainMove towards at *
  split_ifs <;> omega

theorem Transition.Lawful.matchUpdate {r : Transition} (h : r.Lawful) (o n : Triple) (startO startN : Time)
    (tolerance : Nat) : (r.matchUpdate o n startO startN tolerance).Lawful where
  n := h.n
  index := h.index
  gains := ⟨gainMove_lawful h.gains.1 (rawRatio_lawful ..), gainMove_lawful h.gains.2.1 (rawRatio_lawful ..),
    gainMove_lawful h.gains.2.2 (rawRatio_lawful ..)⟩
  run := by
    simp only [Transition.matchUpdate]
    split_ifs <;> omega
  ticks := h.ticks
  rescue := h.rescue
  matching := h.matching
  blending := h.blending

theorem Chain.matchUpdate (h : Chain s t) {r : Transition} (hr : RecordLaw s → r.Lawful) : Chain s (t.matchUpdate r) := by
  unfold State.matchUpdate
  split
  · split_ifs
    · exact .record h _ (by rintro hs _ ⟨⟩; exact hr hs)
    · exact .postLimited (.record h _ (by rintro hs _ ⟨⟩; exact (hr hs).matchUpdate ..)) ..
    · exact .record h _ (by rintro hs _ ⟨⟩; exact (hr hs).matchUpdate ..)
  · exact .record h _ (by rintro hs _ ⟨⟩; exact hr hs)

/-- A blend begins from a record with N of at least 1. -/
theorem Transition.Lawful.beginBlend {r : Transition} (h : r.Lawful) (hn : 1 ≤ r.n) (hk : r.kind ≠ .rescue) :
    Transition.Lawful { r with phase := .blending, index := 1 } where
  n := h.n
  index := hn
  gains := h.gains
  run := h.run
  ticks := h.ticks
  rescue := fun k => absurd k hk
  matching := fun k => by cases k
  blending := fun _ => le_rfl

theorem Transition.Lawful.limit {r : Transition} (h : r.Lawful) : Transition.Lawful { r with limited := true } :=
  ⟨h.n, h.index, h.gains, h.run, h.ticks, h.rescue, h.matching, h.blending⟩

theorem Chain.decideMatch (h : Chain s t) {r : Transition} (hr : RecordLaw s → r.Lawful) (hp : r.phase = .matching)
    (hk : r.kind ≠ .rescue) : Chain s (t.decideMatch r) := by
  unfold State.decideMatch
  split_ifs
  · exact .startBlend h fun hs => (hr hs).beginBlend ((hr hs).matching hp) hk
  · exact .startBlend (.postLimited h ..) fun hs => (hr hs).limit.beginBlend ((hr hs).matching hp) hk
  · exact h

/-- What MATCHING work leaves as the record before its decision: the record with its match ticks, or an update of it. -/
theorem record_matchUpdate (r : Transition) (s : State) :
    ∃ u, (s.matchUpdate r).zc.record = some u ∧ (u = r ∨ ∃ o n startO startN,
      u = r.matchUpdate o n startO startN s.cp.settings.tolerance) := by
  unfold State.matchUpdate
  split
  · split_ifs
    · exact ⟨_, rfl, .inl rfl⟩
    · exact ⟨_, rfl, .inr ⟨_, _, _, _, rfl⟩⟩
    · exact ⟨_, rfl, .inr ⟨_, _, _, _, rfl⟩⟩
  · exact ⟨_, rfl, .inl rfl⟩

theorem Transition.Lawful.tick {r : Transition} (h : r.Lawful) :
    Transition.Lawful { r with ticks := min (r.ticks + 1) 255 } :=
  ⟨h.n, h.index, h.gains, h.run, min_le_right .., h.rescue, h.matching, h.blending⟩

theorem Chain.matchingWork (h : Chain s t) {r : Transition} (hr : RecordLaw s → r.Lawful) (hp : r.phase = .matching)
    (hk : r.kind ≠ .rescue) : Chain s (t.matchingWork r) := by
  have hu := h.matchUpdate fun hs => (hr hs).tick
  obtain ⟨u, heq, hfrom⟩ := record_matchUpdate { r with ticks := min (r.ticks + 1) 255 } t
  unfold State.matchingWork
  simp only [heq]
  rcases hfrom with rfl | ⟨o, n, startO, startN, rfl⟩
  · exact .decideMatch hu (fun hs => (hr hs).tick) hp hk
  · exact .decideMatch hu (fun hs => (hr hs).tick.matchUpdate ..) hp hk

/-! Rescue -/

theorem Chain.rescueTo (h : Chain s t) {r : Transition} (hr : RecordLaw s → r.Lawful) : Chain s (t.rescueTo r) := by
  unfold State.rescueTo
  split_ifs
  · exact .spoil h _ hr
  · exact .postDone (.setShown (.setRole (.setSub (.dropPending h) _) _ rfl) _) ..

theorem Chain.giveUp (h : Chain s t) (faulted : Src) : Chain s (t.giveUp faulted) :=
  .postFrozen (.setSub (.dropPending h) _) ..

theorem Chain.freezeFor (h : Chain s t) (faulted target : Src) : Chain s (t.freezeFor faulted target) := by
  unfold State.freezeFor
  split_ifs
  · exact .dropPending h
  · exact .postFrozen (.setSub h _) ..

theorem unit_gain_lawful : GainLawful 1024 := ⟨by decide, by decide⟩

theorem fresh_lawful (kind : RecKind) (giver taker : Src) {n : Nat} (hn : n ≤ 32) :
    (Transition.fresh kind giver taker n).Lawful where
  n := hn
  index := Nat.zero_le _
  gains := ⟨unit_gain_lawful, unit_gain_lawful, unit_gain_lawful⟩
  run := Nat.zero_le _
  ticks := Nat.zero_le _
  rescue := fun _ => rfl
  matching := fun k => by cases k
  blending := fun k => by cases k

theorem Chain.fresh_lawful (h : Chain s t) (kind : RecKind) (giver taker : Src) (hs : RecordLaw s) :
    (Transition.fresh kind giver taker t.cp.settings.n).Lawful :=
  Machine.fresh_lawful kind giver taker (by rw [h.settings]; exact hs.settings.n)

theorem Chain.rescue (h : Chain s t) (p : Src) : Chain s (t.rescue p) := by
  unfold State.rescue
  split
  · exact .rescueTo h fun _ => Machine.fresh_lawful _ _ _ (Nat.zero_le _)
  · split
    · exact .freezeFor (.wake (.createRecord h (h.fresh_lawful _ _ _)) ..) ..
    · exact .giveUp h p

theorem Transition.Lawful.toward {r : Transition} (h : r.Lawful) (p : Src) (b : Bool) :
    Transition.Lawful { r with taker := p, retargeted := b } :=
  ⟨h.n, h.index, h.gains, h.run, h.ticks, h.rescue, h.matching, h.blending⟩

theorem Chain.retarget (h : Chain s t) {r : Transition} (hr : RecordLaw s → r.Lawful) (p : Src) :
    Chain s (t.retarget r p) := by
  have hw := Chain.wake (h.createRecord fun hs => (hr hs).toward p true) .normal p
  unfold State.retarget
  dsimp only
  split_ifs
  · exact .postFrozen hw ..
  · exact hw

theorem Chain.rescueFailed (h : Chain s t) (r : Transition) : Chain s (t.rescueFailed r) :=
  .giveUp (.postAborted (.removeRecord h) ..) _

theorem Chain.tryOther (h : Chain s t) {r : Transition} (hr : RecordLaw s → r.Lawful) : Chain s (t.tryOther r) := by
  unfold State.tryOther
  split_ifs
  · exact .rescueFailed h r
  · split
    · exact .rescueFailed h r
    next p _ =>
      split
      · exact .rescueTo (.removeRecord h) fun hs => (hr hs).toward p r.retargeted
      · exact .retarget h hr p
      · exact .retarget h hr p
      · exact .retarget h hr p
      all_goals exact .rescueFailed h r

/-! Stage 4 and the fault reports -/

theorem Transition.Lawful.advance {r : Transition} (h : r.Lawful) (hp : r.phase = .blending) (hk : r.kind ≠ .rescue)
    (hi : r.index < r.n) : Transition.Lawful { r with index := r.index + 1 } where
  n := h.n
  index := hi
  gains := h.gains
  run := h.run
  ticks := h.ticks
  rescue := fun k => absurd k hk
  matching := fun k => by rw [hp] at k; cases k
  blending := fun _ => Nat.le_add_left ..

/-- Stage 4 on a record: it is that of a rescue, in BLENDING, or before it. -/
theorem recordWork_eq (r : Transition) (s : State) :
    s.recordWork r =
      if r.kind = .rescue then s.rescueWork r
      else if r.phase = .blending then (if r.index < r.n then s.advanceBlend r else s.completeBlend r)
      else if s.disarms r = true then s.removeRecord
      else if r.phase = .matching then s.matchingWork r
      else s.armedWork r := by
  unfold State.recordWork
  cases r.kind <;> cases r.phase <;> rfl

theorem Chain.recordWork (h : Chain s t) {r : Transition} (hr : RecordLaw s → r.Lawful) : Chain s (t.recordWork r) := by
  rw [recordWork_eq]
  split_ifs with hk hb hi _ hm
  · unfold State.rescueWork
    split_ifs
    · exact .rescueTo (.removeRecord h) hr
    · exact h
  · exact .advanceBlend h fun hs => (hr hs).advance hb hk hi
  · exact .passPicture h hr ..
  · exact .removeRecord h
  · exact .matchingWork h hr hm hk
  · exact .armedWork h hr hk

/-- A record that a trigger creates is UP or DOWN, with N from the settings (R91). -/
theorem trigger_eq_some {r : Transition} (h : s.trigger = some r) :
    ∃ l k p t, s.primaryRung = some (l, k, p) ∧
      (r = .fresh .up p t s.cp.settings.n ∧ s.upTarget l k = some t ∨
        r = .fresh .down p t s.cp.settings.n ∧ s.downTarget l k = some t) := by
  unfold State.trigger at h
  split at h
  · cases h
  next l k p hp =>
    split at h
    next q hup => cases h; exact ⟨l, k, p, q, hp, .inl ⟨rfl, hup⟩⟩
    next q _ hdown => cases h; exact ⟨l, k, p, q, hp, .inr ⟨rfl, hdown⟩⟩
    next => cases h

theorem Chain.handoffWork (h : Chain s t) (hr : RecordLaw s → ∀ r, t.zc.record = some r → r.Lawful) :
    Chain s t.handoffWork := by
  unfold State.handoffWork
  split
  next r heq => exact .recordWork h fun hs => hr hs r heq
  next =>
    split_ifs
    · split
      · exact h
      next r htr =>
        obtain ⟨l, k, p, q, _, ⟨rfl, _⟩ | ⟨rfl, _⟩⟩ := trigger_eq_some htr
        · exact .armedWork (.createRecord h (h.fresh_lawful _ _ _)) (h.fresh_lawful _ _ _) (by rintro ⟨⟩)
        · exact .armedWork (.createRecord h (h.fresh_lawful _ _ _)) (h.fresh_lawful _ _ _) (by rintro ⟨⟩)
    · exact h

theorem Chain.zoomStep (h : Chain s t) (hr : RecordLaw s → ∀ r, t.zc.record = some r → r.Lawful) :
    Chain s t.zoomStep :=
  .handoffWork (.wakePoints (.zoomStages h)) (by simpa using hr)

theorem Chain.primaryFault (h : Chain s t) (p : Src) : Chain s (t.primaryFault p) := by
  unfold State.primaryFault
  split
  · exact .rescue h p
  · exact .rescue (.postAborted (.removeRecord h) ..) p

/-- A report met by a standing record: the record is that of a rescue, in BLENDING, or before it. -/
theorem reportOnRecord_eq (i : Src) (role : SrcState) (r : Transition) (s : State) :
    s.reportOnRecord i role r =
      if r.kind = .rescue then (if r.taker = i ∧ (s.source i).state = .fault then s.tryOther r else s)
      else if r.phase = .blending then
        if r.taker = i ∧ role = .incoming then s.incomingFault r
        else if r.giver = i ∧ role = .outgoing then s.outgoingFault r
        else s
      else if r.taker = i ∧ (s.source i).state = .fault then s.targetFault r
      else if role = .primary then s.primaryFault i
      else s := by
  unfold State.reportOnRecord
  cases r.kind <;> cases r.phase <;> rfl

theorem Chain.reportOnRecord (h : Chain s t) (i : Src) (role : SrcState) {r : Transition} (hr : RecordLaw s → r.Lawful) :
    Chain s (t.reportOnRecord i role r) := by
  rw [reportOnRecord_eq]
  split_ifs
  · exact .tryOther h hr
  · exact h
  · exact .postAborted (.setRole (.removeRecord h) _ rfl) ..
  · exact .postDone (.setRole (.removeRecord h) _ rfl) ..
  · exact h
  · exact .postAborted (.removeRecord h) ..
  · exact .primaryFault h i
  · exact h

theorem Chain.handleFault (h : Chain s t) (i : Src) (role : SrcState)
    (hr : RecordLaw s → ∀ r, t.zc.record = some r → r.Lawful) : Chain s (t.handleFault i role) := by
  unfold State.handleFault
  split
  next r heq => exact .reportOnRecord h i role fun hs => hr hs r heq
  next =>
    unfold State.reportAlone
    split_ifs
    · exact .primaryFault h i
    · exact .rescue h i
    · exact h

theorem Chain.takeBack (h : Chain s t) (x : Spoiled) (cause : AbortCause) : Chain s (t.takeBack x cause) := by
  have hb := Chain.postAborted (h.setRole x.record.giver (role := .primary) rfl) x.record cause x.time
  unfold State.takeBack
  dsimp only
  split_ifs
  · exact .rescue hb _
  · exact hb

theorem Chain.handleReport (h : Chain s t) (i : Src) {x : Report}
    (hx : RecordLaw s → ∀ y, x.spoiled = some y → y.record.Lawful)
    (hr : RecordLaw s → ∀ r, t.zc.record = some r → r.Lawful) : Chain s (t.handleReport i x) := by
  unfold State.handleReport
  split
  · exact .handleFault h i _ hr
  next y hy =>
    split_ifs
    · unfold State.settleTaker
      split
      · exact .tryOther h fun hs => hx hs y hy
      · exact .takeBack h ..
      · exact .takeBack h ..
    · exact .handleFault (.postDone h ..) i _ hr

theorem chain_takeReport (i : Src) (s : State) : Chain s (s.takeReport i) := by
  unfold State.takeReport
  split
  · exact .refl
  next x rest heq =>
    have hmem : ∀ y ∈ x :: rest, y ∈ s.zc.reports.get i := by rw [heq]; exact fun _ => id
    have hset : Chain s (s.setReports i rest) :=
      .reports .refl i rest fun hs _ z hz => hs.spoiled i z (hmem z (List.mem_cons_of_mem x hz))
    split_ifs
    · exact .handleReport hset i (fun hs => hs.spoiled i x (hmem x List.mem_cons_self)) fun hs => hs.record
    · exact hset

end Sys2Proof.Machine
end

section
/-! SUPPORT. The output, the stills, the clock and the requests as chains of moves, and what is left of the events besides. -/

namespace Sys2Proof.Machine

variable {s t : State}

/-! Stills -/

theorem Chain.abortStill (h : Chain s t) (x : Still) (cause : StillCause) : Chain s (t.abortStill x cause) := by
  have hp : Chain s ((t.setQueue []).post none
      (.stillAborted x.id x.kind x.source cause x.state x.begun t.cru.time)) :=
    .post (.other h (by simp [Unmoved])) _ _ rfl
  unfold State.abortStill
  dsimp only
  split_ifs
  · exact .other hp (by simp [Unmoved])
  · exact .other hp (by simp [Unmoved])

theorem Chain.afterGroup (h : Chain s t) (number : Nat) : Chain s (t.afterGroup number) := by
  unfold State.afterGroup
  split
  · exact h
  · split_ifs
    · exact .other h (by simp [Unmoved])
    · exact .post (.other h (by simp [Unmoved])) _ _ rfl
    · exact h

theorem chain_groupEnd (s : State) : Chain s s.groupEnd := by
  unfold State.groupEnd
  split
  · exact .refl
  next g _ => exact .afterGroup (.other (.waitTimer .refl g.timer) (by simp [Unmoved])) _

theorem chain_pauseTimeout (s : State) : Chain s s.pauseTimeout := by
  unfold State.pauseTimeout
  split
  · exact .refl
  · split
    · exact .refl
    · exact .abortStill (.waitTimer .refl _) ..

theorem chain_flowAbort (s : State) : Chain s s.flowAbort.state := by
  unfold State.flowAbort
  split
  · exact .refl
  · split
    · exact .abortStill .refl ..
    · exact .abortStill .refl ..
    · exact .abortStill .refl ..
    · exact .refl

/-! The tick -/

theorem Chain.videoSend (h : Chain s t) : Chain s t.videoSend := .other h (by simp [Unmoved])

theorem Chain.overrun (h : Chain s t) : Chain s t.overrun := by
  unfold State.overrun
  split_ifs
  · exact .post (.other h (by simp [Unmoved])) _ _ rfl
  · exact h

theorem Chain.promotePending (h : Chain s t) : Chain s t.promotePending := by
  unfold State.promotePending
  split
  · split_ifs
    · exact .setRole (.setSub (.other h (by simp [Unmoved])) _) _ rfl
    · exact h
  · exact h

theorem Chain.countRepeat (h : Chain s t) (cause : RepeatCause) (sources : List Src) :
    Chain s (t.countRepeat cause sources) := .post (.other h (by simp [Unmoved])) _ _ rfl

theorem Chain.reportRepeat (h : Chain s t) (left again : List Src) : Chain s (t.reportRepeat left again) := by
  unfold State.reportRepeat
  split
  · exact h
  · exact .countRepeat h ..
  · exact .countRepeat h ..

theorem settings_setPicture (c : Compositor) (b : Buf) (p : Option Picture) :
    (c.setPicture b p).settings = c.settings := by cases b <;> rfl

theorem Chain.beginCompose (h : Chain s t) (l : List Chosen) : Chain s (t.beginCompose l) := by
  refine .other h ⟨by simp, by simp, by simp, by simp, by simp, ?_⟩
  simp only [State.beginCompose, State.openCompose, settings_setPicture, settleHolds_keeps]

theorem Chain.composeBegin (h : Chain s t) : Chain s t.composeBegin := by
  unfold State.composeBegin
  split
  · exact .reportRepeat h ..
  · exact .beginCompose (.reportRepeat h ..) _

theorem Chain.tickWork (h : Chain s t) (hr : RecordLaw s → ∀ r, t.zc.record = some r → r.Lawful) :
    Chain s t.tickWork := by
  unfold State.tickWork
  dsimp only
  split_ifs
  · exact .overrun (.videoSend h)
  · exact .composeBegin (.zoomStep (.promotePending (.videoSend h)) (by simpa using hr))

theorem chain_tick (s : State) : Chain s s.tick := by
  unfold State.tick
  split
  next d _ _ =>
    refine .tickWork (.other (.waitDeadline .refl d) (by simp [Unmoved])) fun hs r hr => hs.record r ?_
    simpa using hr
  · exact .refl

theorem chain_composeComplete (s : State) : Chain s s.composeComplete := by
  unfold State.composeComplete
  split
  · exact .refl
  · split_ifs
    · refine .other .refl ⟨by simp, by simp, by simp, by simp, by simp, ?_⟩
      simp only [State.completeLive, captureFused_keeps, settings_setPicture]
    · exact .other .refl (by simp [Unmoved])

/-! Output start and stop -/

theorem Chain.awaitPrimary (h : Chain s t) (p : Src) : Chain s (t.awaitPrimary p) :=
  .stopIdle (.other h (by simp [Unmoved])) p

theorem Chain.placePrimary (h : Chain s t) (p : Src) : Chain s (t.placePrimary p) := by
  unfold State.placePrimary
  split
  · exact .setRole (.setSub h _) _ rfl
  · exact .wake (.awaitPrimary h p) ..
  · exact .awaitPrimary h p
  · exact .awaitPrimary h p
  all_goals exact h

theorem chain_outputStart (s : State) : Chain s s.outputStart.state := by
  unfold State.outputStart
  split_ifs
  · exact .refl
  · exact .refl
  · split
    · exact .refl
    · split_ifs
      · exact .refl
      · exact .placePrimary (.other .refl (by simp [Unmoved])) _

theorem spoiledLawful_ended (l : List Report) : SpoiledLawful (l.map fun _ => Report.ended) := by
  intro x hx y hy
  obtain ⟨z, _, rfl⟩ := List.mem_map.mp hx
  cases hy

theorem Chain.endRole (h : Chain s t) (i : Src) : Chain s (t.endRole i) := by
  unfold State.endRole
  refine .reports ?_ i _ fun _ _ => spoiledLawful_ended _
  split_ifs with hr
  · exact .takeRole h (usable_of_isRole hr) rfl
  · exact h

theorem Chain.clearHeld (h : Chain s t) : Chain s t.clearHeld := by
  unfold State.clearHeld
  split_ifs
  · exact .post (.other h (by simp [Unmoved])) _ _ rfl
  · exact h

theorem Chain.abortCapture (h : Chain s t) : Chain s t.abortCapture := by
  unfold State.abortCapture
  split
  · exact h
  · split_ifs
    · exact .abortStill h ..
    · exact h

theorem Chain.endRoles (h : Chain s t) : Chain s t.endRoles := .endRole (.endRole (.endRole (.endRole h _) _) _) _

theorem Chain.releaseAll (h : Chain s t) : Chain s t.releaseAll :=
  .releaseHolds (.releaseHolds (.releaseHolds (.releaseHolds h _ _) _ _) _ _) _ _

theorem Chain.discardCompose (h : Chain s t) : Chain s t.discardCompose := .other h (by simp [Unmoved, State.discardCompose])

theorem Chain.endOutput (h : Chain s t) : Chain s t.endOutput := .other h (by simp [Unmoved, State.endOutput])

theorem chain_outputStop (s : State) : Chain s s.outputStop.state := by
  unfold State.outputStop
  split_ifs
  · exact .endOutput (.abortCapture (.discardCompose (.releaseAll (.clearHeld (.endRoles
      (.dropPending (.removeRecord .refl)))))))
  · exact .refl

/-! The other requests -/

theorem Chain.parkAll (h : Chain s t) : Chain s t.parkAll := .park (.park (.park (.park h _) _) _) _

theorem chain_suspend (s : State) : Chain s s.suspend.state := by
  unfold State.suspend
  split_ifs
  · exact .refl
  · exact .refl
  · exact .other (.parkAll .refl) (by simp [Unmoved, State.suspendPart])

theorem Chain.beginTest (h : Chain s t) (i : Src) : Chain s (t.beginTest i) := by
  unfold State.beginTest
  split
  · exact .wake h ..
  all_goals exact h

theorem chain_linkTest (s : State) : Chain s s.linkTest.state := by
  unfold State.linkTest
  split_ifs
  · exact .refl
  · exact .settleTest (.beginTest (.beginTest (.beginTest (.beginTest .refl _) _) _) _) _

theorem chain_powerWake (src : Byte) (s : State) : Chain s (s.powerWake src).state := by
  unfold State.powerWake
  split
  · exact .refl
  · split_ifs
    · exact .refl
    · exact .refl
    · unfold State.wakeKnown
      split
      · exact .refl
      · exact .wake .refl ..
      all_goals exact .refl

theorem chain_powerPark (src : Byte) (s : State) : Chain s (s.powerPark src).state := by
  unfold State.powerPark State.parkKnown State.freeAndPark
  split
  · exact .refl
  · split_ifs
    · exact .refl
    · exact .refl
    · exact .refl
    · exact .refl
    · exact .refl
    · exact .refl
    · exact .park (.removeRecord .refl) _
    · exact .park .refl _

theorem Chain.setPinned (h : Chain s t) (on : Bool) : Chain s (t.setPinned on) :=
  .other h (by simp [Unmoved])

theorem chain_pinOn (s : State) : Chain s s.pinOn.state := by
  unfold State.pinOn State.pinRunning
  split
  · split
    · exact .setPinned .refl true
    · split
      · exact .setPinned .refl true
      · refine .setPinned ?_ true
        split
        · exact .refl
        · exact .removeRecord .refl
  · exact .refl

/-! The events -/

/-- The events that are no chain: a description or the settings are replaced, the queue is read or set up, the pulse of
the line ends, the straps are sampled, or the part is reset. -/
inductive Unchained (s : State) : State → Prop
  | define (i : Src) (d : Description) (hs : (s.source i).state = .parked) (hl : s.onLadder i = false)
      (hh : s.stillHolds i = false) (hd : d.badField = none) :
      Unchained s ((s.setSource i ((s.source i).describe d)).setWindow i none)
  | settings (x : Settings) (hx : x.badField = none) (hp : s.link.part = .config) :
      Unchained s { s with cp := { s.cp with settings := x } }
  | noticeTake : Unchained s { s with nq := s.nq.takeHead s.cru.straps.attnMode }
  | noticeSetup (mask unmask urgent routine : KindSet) :
      Unchained s { s with nq := s.nq.setup mask unmask urgent routine }
  | endPulse : Unchained s s.endPulse
  | release (x : Straps) : Unchained s (s.release x)
  | hardReset : Unchained s s.hardReset
  | linkReset : Unchained s s.linkReset

theorem sourceDefine_chained (src : Byte) (d : Description) (s : State) :
    Chain s (s.sourceDefine src d).state ∨ Unchained s (s.sourceDefine src d).state := by
  unfold State.sourceDefine State.define
  split
  · exact .inl .refl
  · split_ifs with hs hl hh
    · exact .inl .refl
    · exact .inl .refl
    · exact .inl .refl
    · split
      · exact .inl .refl
      next hd => exact .inr (.define _ d (not_not.mp hs) (by simpa using hl) (by simpa using hh) hd)

theorem outputSet_chained (x : Settings) (queryOnly : Bool) (s : State) (hp : s.link.part = .config) :
    Chain s (s.outputSet x queryOnly).state ∨ Unchained s (s.outputSet x queryOnly).state := by
  unfold State.outputSet
  split
  · exact .inl .refl
  next hx =>
    cases queryOnly with
    | true => exact .inl .refl
    | false => exact .inr (.settings x hx hp)

theorem noticeSetup_chained (mask unmask urgent routine : KindSet) (s : State) :
    Chain s (s.noticeSetup mask unmask urgent routine).state ∨
      Unchained s (s.noticeSetup mask unmask urgent routine).state := by
  unfold State.noticeSetup
  split
  · exact .inl .refl
  · exact .inr (.noticeSetup ..)

/-- What the owner of a request makes of the machine. -/
theorem serve_chained {q : Request} (queryOnly : Bool) (hp : s.link.part.passes q = true) :
    Chain s (s.serve q queryOnly).state ∨ Unchained s (s.serve q queryOnly).state := by
  cases q
  case sourceDefine => exact sourceDefine_chained ..
  case outputSet => exact outputSet_chained _ _ s (by simpa [PartState.passes] using hp)
  case noticeTake => exact .inr .noticeTake
  case noticeSetup => exact noticeSetup_chained ..
  case linkTest => exact .inl (chain_linkTest s)
  case suspend => exact .inl (chain_suspend s)
  case outputStart => exact .inl (chain_outputStart s)
  case outputStop => exact .inl (chain_outputStop s)
  case sourcePower src action =>
    unfold State.serve
    dsimp only
    split_ifs
    · exact .inl (chain_powerWake src s)
    · exact .inl (chain_powerPark src s)
  case pinSource =>
    unfold State.serve
    dsimp only
    split_ifs
    · exact .inl (chain_pinOn s)
    · exact .inl (.setPinned .refl false)
  case stillFlow =>
    unfold State.serve
    dsimp only
    split_ifs
    · exact .inl (.other .refl (by simp [Unmoved]))
    · exact .inl (.other .refl (by simp [Unmoved]))
    · exact .inl (chain_flowAbort s)
  case stillTake =>
    unfold State.serve
    dsimp only
    split_ifs
    · exact .inl (.other .refl (by simp [Unmoved]))
    · exact .inl (.other .refl (by simp [Unmoved]))
  all_goals
    refine .inl (.other .refl ?_)
    unfold State.serve Unmoved
    simp

theorem Chain.postReady (h : Chain s t) (kind : ResetKind) : Chain s (t.postReady kind) :=
  .other (.post h none (.ready kind t.cru.straps t.cru.time) rfl) (by simp [Unmoved, State.postReady])

theorem chain_reachLock (s : State) : Chain s s.reachLock := by
  unfold State.reachLock
  split_ifs
  · exact .postReady (.other .refl (by simp [Unmoved])) _
  · exact .refl

theorem chain_endLinkReset (s : State) : Chain s s.endLinkReset := by
  unfold State.endLinkReset
  split_ifs
  · exact .postReady (.other .refl (by simp [Unmoved])) _
  · exact .refl

/-- Every event is a chain of moves or one of the events that replace more. -/
theorem Event.chained (h : Event s t) : Chain s t ∨ Unchained s t := by
  cases h with
  | served queryOnly hp => exact serve_chained queryOnly hp
  | hardReset => exact .inr .hardReset
  | linkReset => exact .inr .linkReset
  | release x => exact .inr (.release x)
  | reachLock => exact .inl (chain_reachLock s)
  | endLinkReset => exact .inl (chain_endLinkReset s)
  | endPulse => exact .inr .endPulse
  | frameStart i => exact .inl (.frameStart .refl i)
  | takeLine i pixels => exact .inl (.takeLine .refl i pixels)
  | frameEnd i => exact .inl (.frameEnd .refl i)
  | settleExpiry i => exact .inl (.settleExpiry .refl i)
  | syncExpiry i => exact .inl (.syncExpiry .refl i)
  | frameTimeout i => exact .inl (.frameTimeout .refl i)
  | idleExpiry i => exact .inl (.idleExpiry .refl i)
  | takeReport i => exact .inl (chain_takeReport i s)
  | tick => exact .inl (chain_tick s)
  | composeComplete => exact .inl (chain_composeComplete s)
  | groupBegin => exact .inl (.other .refl (by simp [Unmoved]))
  | groupEnd => exact .inl (chain_groupEnd s)
  | pauseTimeout => exact .inl (chain_pauseTimeout s)
  | videoEnd => exact .inl (.other .refl (by simp [Unmoved]))
  | passMicrosecond => exact .inl (.other .refl (by simp [Unmoved]))

end Sys2Proof.Machine
end

section
/-! THEOREM. The laws of the source records (R1, R4 to R7) and of the transition record (R87, R99, R121, R131). -/

namespace Sys2Proof.Machine

variable {s t : State}

/-! The source records -/

theorem sourceLaw_exchange (h : Exchange s t) (hs : SourceLaw s) : SourceLaw t := by
  obtain ⟨_, _, _, _, _, _, rfl⟩ := h
  exact hs

theorem sourceLaw_of_reset (h : t.sources = Four.fill Source.reset) : SourceLaw t := by
  intro i
  rw [show t.source i = Source.reset by rw [State.source, h, get_fill]]
  exact reset_source_lawful

theorem sourceLaw_of_same (hs : SourceLaw s) (h : t.sources = s.sources) : SourceLaw t := by
  intro i
  rw [source_congr _ _ h i]
  exact hs i

/-- A description replaces that of a PARKED source, so nothing depends on it yet. -/
theorem describe_lawful {x : Source} (h : x.Lawful) (hp : x.state = .parked) (d : Description) :
    (x.describe d).Lawful where
  enable := h.enable
  settle := h.settle
  sync := h.sync
  frame := h.frame
  idle := h.idle
  cause := h.cause
  purpose := h.purpose
  undefined := fun _ => hp

theorem Unchained.sourceLaw (h : Unchained s t) (hs : SourceLaw s) : SourceLaw t := by
  cases h with
  | define i d hp =>
    intro j
    rw [source_setWindow, source_setSource]
    split_ifs with hj
    · exact describe_lawful (hs i) hp d
    · exact hs j
  | endPulse => exact sourceLaw_of_same hs (by simp)
  | release x => exact sourceLaw_of_same hs (by simp)
  | hardReset => exact sourceLaw_of_reset rfl
  | linkReset => exact sourceLaw_of_reset rfl
  | settings | noticeTake | noticeSetup => exact hs

theorem Event.sourceLaw (h : Event s t) (hs : SourceLaw s) : SourceLaw t :=
  h.chained.elim (·.sourceLaw hs) (·.sourceLaw hs)

theorem kept_sourceLaw : Kept SourceLaw := kept_of_event sourceLaw_exchange Event.sourceLaw

/-! The settings and the transition record -/

theorem recordLaw_exchange (h : Exchange s t) (hs : RecordLaw s) : RecordLaw t := by
  obtain ⟨_, _, _, _, _, _, rfl⟩ := h
  exact ⟨hs.settings, hs.record, hs.spoiled⟩

/-- Settings that pass the checks of OUTPUT_SET are in range (R131). -/
theorem settings_lawful_of_badField {x : Settings} (h : x.badField = none) : x.Lawful := by
  unfold Settings.badField at h
  split_ifs at h
  constructor <;> omega

theorem reset_settings_lawful : Compositor.reset.settings.Lawful := by constructor <;> decide

theorem recordLaw_of_reset (hzc : t.zc = ZoomCtl.reset) (hcp : t.cp = Compositor.reset) : RecordLaw t where
  settings := by rw [hcp]; exact reset_settings_lawful
  record := by rw [hzc]; rintro _ ⟨⟩
  spoiled := by
    intro i x hx
    rw [hzc, ZoomCtl.reset, get_fill] at hx
    cases hx

theorem recordLaw_of_same (hs : RecordLaw s) (hset : t.cp.settings = s.cp.settings) (hrec : t.zc.record = s.zc.record)
    (hrep : t.zc.reports = s.zc.reports) : RecordLaw t :=
  ⟨hset ▸ hs.settings, by rw [hrec]; exact hs.record, by rw [hrep]; exact hs.spoiled⟩

theorem Unchained.recordLaw (h : Unchained s t) (hs : RecordLaw s) : RecordLaw t := by
  cases h with
  | settings x hx => exact ⟨settings_lawful_of_badField hx, hs.record, hs.spoiled⟩
  | hardReset => exact recordLaw_of_reset rfl rfl
  | linkReset => exact recordLaw_of_reset rfl rfl
  | define | noticeTake | noticeSetup | endPulse | release => exact recordLaw_of_same hs (by simp) (by simp) (by simp)

theorem Event.recordLaw (h : Event s t) (hs : RecordLaw s) : RecordLaw t :=
  h.chained.elim (·.recordLaw hs) (·.recordLaw hs)

/-- The incoming weight at a lawful index is 1 to 255 (R99). -/
theorem weight_mem {r : Transition} (h : r.Lawful) (hp : r.phase = .blending) : 1 ≤ r.weight ∧ r.weight ≤ 255 := by
  have hi := h.blending hp
  have hle := h.index
  have hn := h.n
  unfold Transition.weight
  constructor
  · exact (Nat.one_le_div_iff (Nat.succ_pos _)).mpr (by omega)
  · exact Nat.lt_succ_iff.mp ((Nat.div_lt_iff_lt_mul (Nat.succ_pos _)).mpr (by omega))

/-- Settles O55: an event replaces the settings by checked ones, or is a chain of moves each of which keeps the ranges. -/
theorem recordLawKept : Obligations.RecordLawKept :=
  ⟨kept_of_event recordLaw_exchange Event.recordLaw, fun _ r hs hr => weight_mem (hs.record r hr)⟩

end Sys2Proof.Machine
end

section
/-! THEOREM. The law of the notice queue (R182 to R184), and the attention line under the queue's operations (R186, R187). -/

namespace Sys2Proof.Machine

variable {s t : State}

/-! The operations of the queue -/

theorem named_iff {e : Notice} {k : NoticeKind} {source : Option Src} :
    e.named k source = true ↔ e.name = (k, source) := by
  simp [Notice.named, Notice.name]

theorem any_named_iff {l : List Notice} {k : NoticeKind} {source : Option Src} :
    l.any (fun e => e.named k source) = true ↔ (k, source) ∈ l.map Notice.name := by
  simp only [List.any_eq_true, List.mem_map, named_iff]

/-- An entry after an occurrence of a name: coalesced if it has the name, otherwise as it was (R183). -/
def Notice.met (source : Option Src) (p : Payload) (e : Notice) : Notice :=
  if e.named p.kind source then e.coalesce p else e

/-- The three cases of R183. -/
theorem post_cases (q : NoticeQueue) (mode : AttnMode) (now : Time) (source : Option Src) (p : Payload) :
    (p.kind, source) ∈ q.entries.map Notice.name ∧
        q.post mode now source p = { q with entries := q.entries.map (Notice.met source p) } ∨
      q.post mode now source p = q ∨
      (p.kind, source) ∉ q.entries.map Notice.name ∧
        q.post mode now source p = q.create mode now ⟨p.kind, source, q.classOf p.kind, 1, now, p⟩ := by
  unfold NoticeQueue.post
  split_ifs with hn hm
  · exact .inl ⟨any_named_iff.mp hn, rfl⟩
  · exact .inr (.inl rfl)
  · exact .inr (.inr ⟨fun h => hn (any_named_iff.mpr h), rfl⟩)

theorem met_keeps (source : Option Src) (p : Payload) (e : Notice) :
    (e.met source p).name = e.name ∧ (e.met source p).isUrgent = e.isUrgent := by
  unfold Notice.met
  split_ifs <;> exact ⟨rfl, rfl⟩

theorem met_lawful {e : Notice} (h : e.Lawful) (source : Option Src) (p : Payload) : (e.met source p).Lawful := by
  unfold Notice.met
  split_ifs with hn
  · have hname : e.kind = p.kind ∧ e.source = source := by simpa [Notice.named] using hn
    exact ⟨hname.1.symm, h.source, by
      simp only [Notice.coalesce, Config.maxCount]
      omega, h.fixed⟩
  · exact h

theorem insertNotice_perm (e : Notice) (l : List Notice) : (insertNotice e l).Perm (e :: l) := by
  unfold insertNotice
  split_ifs
  · have hmiddle := List.perm_middle (a := e) (l₁ := l.takeWhile Notice.isUrgent) (l₂ := l.dropWhile Notice.isUrgent)
    rwa [List.takeWhile_append_dropWhile] at hmiddle
  · exact List.perm_append_singleton e l

/-- Urgent entries come first (R184). -/
def UrgentFirst (l : List Notice) : Prop := l.Pairwise fun a b => b.isUrgent = true → a.isUrgent = true

theorem UrgentFirst.insert {l : List Notice} (h : UrgentFirst l) (e : Notice) : UrgentFirst (insertNotice e l) := by
  unfold insertNotice UrgentFirst at *
  split_ifs with he
  · rw [← List.takeWhile_append_dropWhile (p := Notice.isUrgent) (l := l), List.pairwise_append] at h
    obtain ⟨htake, hdrop, hbetween⟩ := h
    rw [List.pairwise_append, List.pairwise_cons]
    refine ⟨htake, ⟨fun _ _ _ => he, hdrop⟩, fun a ha b hb => ?_⟩
    rcases List.mem_cons.mp hb with rfl | hb
    · exact fun _ => List.mem_takeWhile_imp ha
    · exact hbetween a ha b hb
  · rw [List.pairwise_append]
    refine ⟨h, List.pairwise_singleton .., fun a _ b hb hu => ?_⟩
    rw [List.mem_singleton.mp hb] at hu
    exact absurd hu he

theorem UrgentFirst.met {l : List Notice} (h : UrgentFirst l) (source : Option Src) (p : Payload) :
    UrgentFirst (l.map (Notice.met source p)) := by
  unfold UrgentFirst at *
  simpa only [List.pairwise_map, (met_keeps source p _).2] using h

theorem classOf_fixed {k : NoticeKind} (h : k.fixedUrgent = true) (q : NoticeQueue) : q.classOf k = .urgent := by
  simp [NoticeQueue.classOf, h]

/-! The law of the queue -/

/-- An occurrence keeps the law, where it carries a source exactly if its kind is one kept per source. -/
theorem noticeLaw_post (hs : NoticeLaw s) {source : Option Src} {p : Payload} (hp : source.isSome = p.kind.perSource) :
    NoticeLaw (s.post source p) := by
  obtain ⟨hnames, hentries, horder⟩ := hs
  rcases post_cases s.nq s.cru.straps.attnMode s.cru.time source p with ⟨_, heq⟩ | heq | ⟨hnew, heq⟩ <;>
    rw [← nq_post source p s] at heq
  · have hmap : (s.nq.entries.map (Notice.met source p)).map Notice.name = s.nq.entries.map Notice.name := by
      simp only [List.map_map, Function.comp_def, (met_keeps source p _).1]
    refine ⟨by rw [heq]; exact hmap ▸ hnames, ?_, by rw [heq]; exact UrgentFirst.met horder source p⟩
    rw [heq]
    intro e he
    obtain ⟨x, hx, rfl⟩ := List.mem_map.mp he
    exact met_lawful (hentries x hx) source p
  · exact ⟨by rw [heq]; exact hnames, by rw [heq]; exact hentries, by rw [heq]; exact horder⟩
  · have hperm := insertNotice_perm ⟨p.kind, source, s.nq.classOf p.kind, 1, s.cru.time, p⟩ s.nq.entries
    refine ⟨?_, ?_, by rw [heq]; exact UrgentFirst.insert horder _⟩ <;> rw [heq]
    · exact ((hperm.map Notice.name).nodup_iff).mpr (List.nodup_cons.mpr ⟨hnew, hnames⟩)
    · intro e he
      rcases List.mem_cons.mp (hperm.mem_iff.mp he) with rfl | he
      · exact ⟨rfl, hp, ⟨le_rfl, by simp⟩, fun hf => classOf_fixed hf _⟩
      · exact hentries e he

theorem noticeLaw_of_same (hs : NoticeLaw s) (h : t.nq.entries = s.nq.entries) : NoticeLaw t :=
  ⟨h ▸ hs.names, h ▸ hs.entries, h ▸ hs.order⟩

theorem noticeLaw_of_reset (h : t.nq = NoticeQueue.reset) : NoticeLaw t :=
  ⟨by simp [h, NoticeQueue.reset], by simp [h, NoticeQueue.reset], by simp [h, NoticeQueue.reset]⟩

theorem noticeLaw_exchange (h : Exchange s t) (hs : NoticeLaw s) : NoticeLaw t := by
  obtain ⟨_, _, _, _, _, _, rfl⟩ := h
  exact noticeLaw_of_same hs rfl

theorem Chain.noticeLaw (h : Chain s t) (hs : NoticeLaw s) : NoticeLaw t := by
  induction h with
  | refl => exact hs
  | post _ _ _ hp ih => exact noticeLaw_post ih hp
  | other _ hu ih =>
    obtain ⟨_, hnq, _⟩ := hu
    exact noticeLaw_of_same ih (by rw [hnq])
  | source _ _ _ ih => exact noticeLaw_of_same ih rfl
  | record _ _ _ ih => exact noticeLaw_of_same ih rfl
  | reports _ _ _ _ ih => exact noticeLaw_of_same ih rfl

/-- NOTICE_TAKE leaves the entries behind the head. -/
theorem takeHead_entries (q : NoticeQueue) (mode : AttnMode) : (q.takeHead mode).entries = q.entries.tail := by
  unfold NoticeQueue.takeHead
  split
  next h => rw [h]; rfl
  next h => rw [h]; rfl

theorem noticeLaw_takeHead (hs : NoticeLaw s) (mode : AttnMode) : NoticeLaw { s with nq := s.nq.takeHead mode } := by
  have hsub : (s.nq.takeHead mode).entries.Sublist s.nq.entries := by
    rw [takeHead_entries]; exact List.tail_sublist _
  exact ⟨hs.names.sublist (hsub.map _), fun e he => hs.entries e (hsub.subset he), hs.order.sublist hsub⟩

theorem endPulse_entries (s : State) : s.endPulse.nq.entries = s.nq.entries := by
  unfold State.endPulse
  split <;> simp

theorem Unchained.noticeLaw (h : Unchained s t) (hs : NoticeLaw s) : NoticeLaw t := by
  cases h with
  | noticeTake => exact noticeLaw_takeHead hs _
  | noticeSetup => exact noticeLaw_of_same hs rfl
  | endPulse => exact noticeLaw_of_same hs (endPulse_entries s)
  | hardReset => exact noticeLaw_of_reset rfl
  | linkReset => exact noticeLaw_of_reset rfl
  | define | settings | release => exact noticeLaw_of_same hs (by simp)

theorem Event.noticeLaw (h : Event s t) (hs : NoticeLaw s) : NoticeLaw t :=
  h.chained.elim (·.noticeLaw hs) (·.noticeLaw hs)

/-- The names an entry can have: ten kinds by themselves, and four kinds for each of the sources (R182). -/
def noticeNames : List (NoticeKind × Option Src) :=
  ([.ready, .handoffDone, .handoffAborted, .zoomHeld, .matchLimited, .outputRepeat, .outputFrozen, .stillDone,
      .stillAborted, .testDone].map fun k => (k, none)) ++
    ([.sourceState, .sourceFault, .linkFault, .frameLoss].flatMap fun k => [(k, some .s0), (k, some .s1), (k, some .s2), (k, some .s3)])

theorem mem_noticeNames {k : NoticeKind} {source : Option Src} (h : source.isSome = k.perSource) :
    (k, source) ∈ noticeNames := by
  cases source with
  | none => cases k <;> simp_all [noticeNames, NoticeKind.perSource]
  | some i => cases i <;> cases k <;> simp_all [noticeNames, NoticeKind.perSource]

theorem notices_length_le (hs : NoticeLaw s) : s.nq.entries.length ≤ 26 := by
  have hsub : s.nq.entries.map Notice.name ⊆ noticeNames := by
    intro n hn
    obtain ⟨e, he, rfl⟩ := List.mem_map.mp hn
    exact mem_noticeNames (hs.entries e he).source
  simpa [noticeNames] using (List.subperm_of_subset hs.names hsub).length_le

/-- Settles O59: the occurrences of a chain keep the law one by one; distinct names are at most the 26 possible ones. -/
theorem noticeLawKept : Obligations.NoticeLawKept :=
  ⟨kept_of_event noticeLaw_exchange Event.noticeLaw, fun _ hs => notices_length_le hs⟩

/-! The attention line -/

/-- What the attention line is by its mode (R186, R187). -/
def AttnRight (mode : AttnMode) (q : NoticeQueue) : Prop :=
  match mode with
  | .level => q.pulse = none ∧ q.attn = !q.entries.isEmpty
  | .pulse => q.attn = q.pulse.isSome

theorem attnLaw_iff (s : State) : AttnLaw s ↔ AttnRight s.cru.straps.attnMode s.nq := Iff.rfl

theorem attnRight_reset (mode : AttnMode) : AttnRight mode NoticeQueue.reset := by cases mode <;> simp [AttnRight, NoticeQueue.reset]

theorem AttnRight.post {mode : AttnMode} {q : NoticeQueue} (h : AttnRight mode q) (now : Time) (source : Option Src)
    (p : Payload) : AttnRight mode (q.post mode now source p) := by
  have hnonempty (e : Notice) : (insertNotice e q.entries).isEmpty = false := by
    rw [List.isEmpty_eq_false_iff]
    exact fun h0 => by simpa [h0] using (insertNotice_perm e q.entries).length_eq
  rcases post_cases q mode now source p with ⟨_, heq⟩ | heq | ⟨_, heq⟩ <;> rw [heq]
  · cases mode <;> simpa [AttnRight] using h
  · exact h
  · cases mode <;> simp_all [AttnRight, NoticeQueue.create]

theorem AttnRight.takeHead {mode : AttnMode} {q : NoticeQueue} (h : AttnRight mode q) : AttnRight mode (q.takeHead mode) := by
  unfold NoticeQueue.takeHead
  cases mode <;> split <;> simp_all [AttnRight]

theorem attnLaw_of_same (hs : AttnLaw s) (hm : t.cru.straps.attnMode = s.cru.straps.attnMode) (hq : t.nq = s.nq) :
    AttnLaw t := by
  rw [attnLaw_iff, hm, hq]
  exact hs

theorem attnLaw_of_reset (h : t.nq = NoticeQueue.reset) : AttnLaw t := by
  rw [attnLaw_iff, h]
  exact attnRight_reset _

theorem Chain.attnLaw (h : Chain s t) (hs : AttnLaw s) : AttnLaw t := by
  induction h with
  | refl => exact hs
  | post _ _ _ _ ih => exact AttnRight.post ih ..
  | other _ hu ih =>
    obtain ⟨hst, hnq, _⟩ := hu
    exact attnLaw_of_same ih (by rw [hst]) hnq
  | source _ _ _ ih => exact ih
  | record _ _ _ ih => exact ih
  | reports _ _ _ _ ih => exact ih

theorem attnLaw_endPulse (hs : AttnLaw s) : AttnLaw s.endPulse := by
  unfold State.endPulse
  split
  · exact hs
  next t ht =>
    rw [attnLaw_iff] at *
    cases hm : s.cru.straps.attnMode <;> simp_all [AttnRight]

/-- The pin's release samples the straps, with the queue still at its reset values (R192). -/
theorem attnLaw_release (hr : s.cru.resetHeld = true → s.nq = NoticeQueue.reset) (hs : AttnLaw s) (x : Straps) :
    AttnLaw (s.release x) := by
  unfold State.release
  split_ifs with hheld
  · exact attnLaw_of_reset (hr hheld)
  · exact hs

theorem Event.attnLaw (h : Event s t) (hr : s.cru.resetHeld = true → s.nq = NoticeQueue.reset) (hs : AttnLaw s) :
    AttnLaw t := by
  rcases h.chained with h | h
  · exact h.attnLaw hs
  · cases h with
    | noticeTake => exact AttnRight.takeHead hs
    | endPulse => exact attnLaw_endPulse hs
    | release x => exact attnLaw_release hr hs x
    | hardReset => exact attnLaw_of_reset rfl
    | linkReset => exact attnLaw_of_reset rfl
    | noticeSetup => exact hs
    | define | settings => exact attnLaw_of_same hs rfl rfl

end Sys2Proof.Machine
end

section
/-! THEOREM. The law of the control link (R166, R167, R174), and the part at rest in RESET (R190, R192). -/

namespace Sys2Proof.Machine

variable {s t : State}

/-! The link under its own operations -/

theorem linkLaw_of_same (hs : LinkLaw s) (hphase : t.link.phase = s.link.phase) (hcurrent : t.link.current = s.link.current)
    (hslot : t.link.slot = s.link.slot) (htxn : t.link.txn = s.link.txn) : LinkLaw t := by
  constructor <;> rw [hphase] <;> simp only [hcurrent, hslot, htxn]
  · exact hs.executing
  · exact hs.slot
  · exact hs.ready
  · exact hs.delivering
  · exact hs.taking

/-- A transaction that delivers nothing and is not to take a request, or takes one in IDLE, keeps the law, where none
ran before. -/
theorem linkLaw_setTxn_silent (hs : LinkLaw s) (hn : s.link.txn = none) {x : Txn} (hx : x.delivers = false)
    (ht : x.take = true → s.link.phase = .idle) : LinkLaw (s.setTxn (some x)) where
  executing := hs.executing
  slot := hs.slot
  ready := fun h => (hs.ready h).imp_right fun ⟨y, hy, _⟩ => by rw [hn] at hy; cases hy
  delivering := by rintro _ ⟨⟩ h; rw [hx] at h; cases h
  taking := by rintro _ ⟨⟩ h; exact .inr (ht h)

theorem linkLaw_deliver (hs : LinkLaw s) {r : Reply} (hr : s.link.slot = some r) : LinkLaw (s.deliver r) where
  executing := hs.executing
  slot := by rintro ⟨⟩
  ready := fun _ => .inr ⟨_, rfl, rfl⟩
  delivering := by
    rintro _ ⟨⟩ _
    refine ⟨hs.slot (by rw [hr]; rfl), rfl, ?_⟩
    cases r.isResetPart <;> simp
  taking := by rintro _ ⟨⟩ _; exact .inl rfl

theorem linkLaw_decideTxn (hs : LinkLaw s) (hn : s.link.txn = none) : LinkLaw s.decideTxn := by
  unfold State.decideTxn
  split
  next hp => exact linkLaw_setTxn_silent hs hn rfl fun _ => hp
  · exact linkLaw_setTxn_silent hs hn rfl (by rintro ⟨⟩)
  next hp =>
    split
    next r hr => exact linkLaw_deliver hs hr
    next hr =>
      rcases hs.ready hp with h | ⟨x, hx, _⟩
      · rw [hr] at h; cases h
      · rw [hn] at hx; cases hx

theorem linkLaw_beginTransaction (hs : LinkLaw s) : LinkLaw s.beginTransaction := by
  unfold State.beginTransaction
  split_ifs with hheld hp
  · exact hs
  all_goals have hn : s.link.txn = none := by simpa using (not_or.mp hheld).2
  · exact linkLaw_setTxn_silent hs hn rfl (by rintro ⟨⟩)
  · exact linkLaw_decideTxn hs hn

/-- What the reply slot is when a transaction that delivers nothing is over. -/
theorem slot_of_silent (hs : LinkLaw s) {x : Txn} (hx : s.link.txn = some x) (hd : x.delivers = false)
    (hp : s.link.phase = .replyReady) : s.link.slot.isSome = true := by
  rcases hs.ready hp with h | ⟨y, hy, hyd⟩
  · exact h
  · rw [hx] at hy; cases hy; rw [hd] at hyd; cases hyd

/-- With no transaction the law holds where a waiting reply is in the slot. -/
theorem linkLaw_of_quiet (he : t.link.phase = .executing ↔ t.link.current.isSome = true) (hn : t.link.txn = none)
    (hslot : t.link.slot.isSome = true ↔ t.link.phase = .replyReady) : LinkLaw t where
  executing := he
  slot := hslot.mp
  ready := fun h => .inl (hslot.mpr h)
  delivering := by intro x hx; rw [hn] at hx; cases hx
  taking := by intro x hx; rw [hn] at hx; cases hx

theorem linkLaw_end_silent (hs : LinkLaw s) {x : Txn} (hx : s.link.txn = some x) (hd : x.delivers = false)
    (he : t.link.phase = s.link.phase ∧ t.link.current = s.link.current ∧ t.link.slot = s.link.slot)
    (hn : t.link.txn = none) : LinkLaw t := by
  obtain ⟨hphase, hcurrent, hslot⟩ := he
  refine linkLaw_of_quiet (by rw [hphase, hcurrent]; exact hs.executing) hn ?_
  rw [hphase, hslot]
  exact ⟨hs.slot, slot_of_silent hs hx hd⟩

theorem linkLaw_undoTransaction (hs : LinkLaw s) {x : Txn} (hx : s.link.txn = some x) : LinkLaw (s.undoTransaction x) := by
  unfold State.undoTransaction
  split
  next ho => exact linkLaw_end_silent hs hx (by simp [Txn.delivers, ho]) ⟨rfl, rfl, rfl⟩ rfl
  next ho => exact linkLaw_end_silent hs hx (by simp [Txn.delivers, ho]) ⟨rfl, rfl, rfl⟩ rfl
  next r ho =>
    obtain ⟨hp, _⟩ := hs.delivering x hx (by simp [Txn.delivers, ho])
    exact linkLaw_of_quiet hs.executing rfl (iff_of_true rfl hp)

/-- A link whose phase is EXECUTING with its request, an empty slot and no transaction is lawful. -/
theorem linkLaw_of_executing (hp : t.link.phase = .executing) (hc : t.link.current.isSome = true)
    (hs : t.link.slot = none) (hn : t.link.txn = none) : LinkLaw t :=
  linkLaw_of_quiet (iff_of_true hp hc) hn (by rw [hs, hp]; simp)

theorem Taken.linkLaw (h : Taken s t) (hs : s.link.slot = none) (hn : s.link.txn = none) : LinkLaw t := by
  cases h with
  | refused => exact linkLaw_of_executing rfl rfl hs hn
  | served q queryOnly => exact linkLaw_of_executing rfl rfl (by simpa [Answer.execute] using hs) (by simpa [Answer.execute] using hn)

theorem linkLaw_of_reset (hl : t.link = { Link.reset with sdo := t.link.sdo }) : LinkLaw t :=
  linkLaw_of_quiet (by rw [hl]; simp [Link.reset]) (by rw [hl]; rfl) (by rw [hl]; simp [Link.reset])

theorem linkLaw_endTransaction (hs : LinkLaw s) (n : Nat) {action : State → State} (ha : ∀ u, Taken u (action u)) :
    LinkLaw (s.endTransaction n action) := by
  unfold State.endTransaction
  split
  · exact hs
  next x hx =>
    split_ifs with h0 hr ht
    · exact linkLaw_undoTransaction hs hx
    · exact linkLaw_of_reset rfl
    · have hslot : s.link.slot = none := by
        rcases hs.taking x hx ht with hd | hp
        · exact (hs.delivering x hx hd).2.1
        · cases hslot : s.link.slot with
          | none => rfl
          | some r => rw [hs.slot (by rw [hslot]; rfl)] at hp; cases hp
      exact (ha _).linkLaw hslot rfl
    · refine linkLaw_end_silent hs hx ?_ ⟨rfl, rfl, rfl⟩ rfl
      cases hd : x.delivers with
      | false => rfl
      | true =>
        obtain ⟨_, _, h⟩ := hs.delivering x hx hd
        exact absurd h (not_or.mpr ⟨ht, hr⟩)

theorem linkLaw_formReply (hs : LinkLaw s) : LinkLaw s.formReply := by
  unfold State.formReply
  split
  next hp _ =>
    refine ⟨by simp, fun _ => rfl, fun _ => .inl rfl, fun x hx hd => ?_, fun x hx ht => ?_⟩
    · rw [(hs.delivering x hx hd).1] at hp; cases hp
    · refine (hs.taking x hx ht).imp_right fun h => ?_
      rw [h] at hp; cases hp
  · exact hs

theorem Event.linkLaw (h : Event s t) (hs : LinkLaw s) : LinkLaw t := by
  cases h with
  | hardReset | linkReset => exact linkLaw_of_reset rfl
  | _ => exact linkLaw_of_same hs (by simp) (by simp) (by simp) (by simp)

/-- Settles O58: the phase, the slot and the transaction move together at each operation of the link, and no other event
touches them but a reset. -/
theorem linkLawKept : Obligations.LinkLawKept := by
  intro s t hs h
  obtain ⟨queue, hd⟩ := step_doing h
  have hq : LinkLaw (s.setPendingQueue queue) := linkLaw_of_same hs rfl rfl rfl rfl
  cases hd with
  | nothing => exact hq
  | event h => exact h.linkLaw hq
  | begins => exact linkLaw_beginTransaction hq
  | ends n ha => exact linkLaw_endTransaction hq n ha
  | whole n ha => exact linkLaw_endTransaction (linkLaw_beginTransaction hq) n ha
  | forms => exact linkLaw_formReply hq

/-! The part at rest -/

theorem passes_reset (q : Request) : PartState.reset.passes q = false := by cases q <;> simp [PartState.passes]

theorem AtRest.source (h : AtRest s) (i : Src) : s.source i = Source.reset := by
  rw [State.source, h.sources, get_fill]

theorem AtRest.ring (h : AtRest s) (i : Src) : s.ring i = [] := by
  rw [State.ring, h.rings, get_fill]

/-- A receiver at rest has no frame in progress that has a record. -/
theorem AtRest.intake (h : AtRest s) (i : Src) :
    (s.receiver i).intake = .between ∨ (s.receiver i).intake = .discarding := by
  have hf := (h.receivers i).1
  cases hx : (s.receiver i).intake <;> simp_all [Intake.filling]

theorem atRest_of_same (h : AtRest s) (hl : t.link.phase = s.link.phase ∧ t.link.current = s.link.current ∧
      t.link.slot = s.link.slot) (htxn : ∀ x, t.link.txn = some x → x = ⟨.empty, false, false⟩)
    (hreset : t.cru.resetHeld = true → s.cru.resetHeld = true) (htest : t.cru.test = s.cru.test) (hnq : t.nq = s.nq)
    (hsrc : t.sources = s.sources) (hrec : t.receivers = s.receivers) (hfs : t.fs = s.fs) (hgu : t.gu = s.gu)
    (hzc : t.zc = s.zc) (hcp : t.cp = s.cp) (hop : t.op = s.op) (hcc : t.cc = s.cc) : AtRest t where
  link := by rw [hl.1, hl.2.1, hl.2.2]; exact h.link
  txn := htxn
  nq := hnq.trans h.nq
  sources := hsrc.trans h.sources
  receivers := fun i => by
    rw [receiver_congr _ _ hrec]
    exact ⟨(h.receivers i).1, fun hr => (h.receivers i).2 (hreset hr)⟩
  rings := by rw [hfs]; exact h.rings
  windows := by rw [hgu]; exact h.windows
  zc := hzc.trans h.zc
  cp := hcp.trans h.cp
  op := hop.trans h.op
  cc := hcc.trans h.cc
  test := htest.trans h.test

/-- A receiver that lets frames pass by with the pin released keeps the rest. -/
theorem atRest_setIntake (h : AtRest s) (hr : s.cru.resetHeld = false) (i : Src) {x : Intake} (hx : x.filling = false) :
    AtRest (s.setIntake i x) where
  link := h.link
  txn := h.txn
  nq := h.nq
  sources := h.sources
  receivers := fun j => by
    refine ⟨?_, fun hheld => by simp [hr] at hheld⟩
    rw [State.setIntake, receiver_setReceiver]
    split_ifs
    · exact hx
    · exact (h.receivers j).1
  rings := h.rings
  windows := h.windows
  zc := h.zc
  cp := h.cp
  op := h.op
  cc := h.cc
  test := h.test

theorem atRest_frameStart (h : AtRest s) (i : Src) : AtRest (s.frameStart i) := by
  unfold State.frameStart
  split_ifs with hr
  · exact h
  · have hcut : s.cutOff i = s := by
      unfold State.cutOff
      rcases h.intake i with hx | hx <;> rw [hx]
    rw [hcut, State.openFrame, h.source i]
    exact atRest_setIntake h (by simpa using hr) i rfl

theorem atRest_takeLine (h : AtRest s) (i : Src) (pixels : List Pixel) : s.takeLine i pixels = s := by
  unfold State.takeLine
  rcases h.intake i with hx | hx <;> rw [hx]

theorem atRest_frameEnd (h : AtRest s) (i : Src) : AtRest (s.frameEnd i) := by
  unfold State.frameEnd
  rcases h.intake i with hx | hx <;> rw [hx]
  · exact h
  · refine atRest_setIntake h ?_ i rfl
    cases hr : s.cru.resetHeld with
    | false => rfl
    | true => rw [(h.receivers i).2 hr] at hx; cases hx

/-- The state after either reset is at rest. -/
theorem atRest_hardReset (s : State) : AtRest s.hardReset where
  link := ⟨rfl, rfl, rfl⟩
  txn := by rintro _ ⟨⟩
  nq := rfl
  sources := rfl
  receivers := fun i => by
    have hr : s.hardReset.receiver i = Receiver.reset := get_fill ..
    rw [hr]
    exact ⟨rfl, fun _ => rfl⟩
  rings := rfl
  windows := rfl
  zc := rfl
  cp := rfl
  op := rfl
  cc := rfl
  test := rfl

theorem atRest_linkReset (s : State) : AtRest s.linkReset where
  link := ⟨rfl, rfl, rfl⟩
  txn := by rintro _ ⟨⟩
  nq := rfl
  sources := rfl
  receivers := fun i => by
    have hr : s.linkReset.receiver i = Receiver.reset := get_fill ..
    rw [hr]
    exact ⟨rfl, fun _ => rfl⟩
  rings := rfl
  windows := rfl
  zc := rfl
  cp := rfl
  op := rfl
  cc := rfl
  test := rfl

theorem atRest_release (h : AtRest s) (x : Straps) : AtRest (s.release x) := by
  unfold State.release
  split_ifs
  · exact atRest_of_same h ⟨rfl, rfl, rfl⟩ h.txn (by rintro ⟨⟩) rfl rfl rfl rfl rfl rfl rfl rfl rfl rfl
  · exact h

theorem atRest_passMicrosecond (h : AtRest s) : AtRest s.passMicrosecond :=
  atRest_of_same h (by simp) (by simpa using h.txn) (by simp) (by simp) (by simp) (by simp) (by simp) (by simp) (by simp) (by simp) (by simp)
    (by simp) (by simp)

/-- At rest no timer runs, nothing is composed or sent, and no report waits: an event leaves the part at rest, or it
leaves RESET. -/
theorem Event.atRest (h : Event s t) (hp : s.link.part = .reset) (hs : AtRest s) : t.link.part = .reset → AtRest t := by
  have hsrc := hs.source
  cases h with
  | served _ hpass => rw [hp, passes_reset] at hpass; cases hpass
  | hardReset => exact fun _ => atRest_hardReset s
  | linkReset => exact fun _ => atRest_linkReset s
  | release x => exact fun _ => atRest_release hs x
  | reachLock =>
    unfold State.reachLock
    split_ifs
    · rintro ⟨⟩
    · exact fun _ => hs
  | endLinkReset =>
    unfold State.endLinkReset
    split_ifs
    · rintro ⟨⟩
    · exact fun _ => hs
  | frameStart i => exact fun _ => atRest_frameStart hs i
  | takeLine i pixels => rw [atRest_takeLine hs]; exact fun _ => hs
  | frameEnd i => exact fun _ => atRest_frameEnd hs i
  | passMicrosecond => exact fun _ => atRest_passMicrosecond hs
  | endPulse =>
    have hnone : s.endPulse = s := by simp [State.endPulse, hs.nq, NoticeQueue.reset]
    rw [hnone]; exact fun _ => hs
  | settleExpiry i => simpa [State.settleExpiry, hsrc i, Source.reset] using fun _ => hs
  | syncExpiry i => simpa [State.syncExpiry, hsrc i, Source.reset] using fun _ => hs
  | frameTimeout i => simpa [State.frameTimeout, hsrc i, Source.reset] using fun _ => hs
  | idleExpiry i => simpa [State.idleExpiry, hsrc i, Source.reset] using fun _ => hs
  | takeReport i => simpa [State.takeReport, hs.zc, ZoomCtl.reset, get_fill] using fun _ => hs
  | tick =>
    have hnone : s.tick = s := by simp [State.tick, hp]
    rw [hnone]; exact fun _ => hs
  | composeComplete => simpa [State.composeComplete, hs.cp, Compositor.reset] using fun _ => hs
  | groupBegin => simpa [State.groupBegin, State.readyGroup, hs.op] using fun _ => hs
  | groupEnd => simpa [State.groupEnd, hs.op] using fun _ => hs
  | pauseTimeout => simpa [State.pauseTimeout, hs.cc] using fun _ => hs
  | videoEnd => simpa [State.videoEnd, hs.op] using fun _ => hs

/-! The law of RESET -/

theorem reachLock_cases (s : State) : s.reachLock = s ∨
    s.cru.resetHeld = false ∧ s.reachLock.cru.resetHeld = false ∧ s.reachLock.cru.lock = .locked ∧
      s.reachLock.link.part = .config := by
  unfold State.reachLock
  split_ifs with h
  · exact .inr ⟨h.1, by simpa using h.1, by simp, by simp [State.postReady]⟩
  · exact .inl rfl

/-- No owner takes the part to RESET. -/
theorem serve_part (q : Request) (queryOnly : Bool) (s : State) :
    (s.serve q queryOnly).state.link.part = s.link.part ∨ (s.serve q queryOnly).state.link.part ≠ .reset := by
  cases q
  case outputStart =>
    show s.outputStart.state.link.part = s.link.part ∨ s.outputStart.state.link.part ≠ .reset
    unfold State.outputStart
    (repeat' split) <;> simp [State.beginOutput]
  case outputStop =>
    show s.outputStop.state.link.part = s.link.part ∨ s.outputStop.state.link.part ≠ .reset
    unfold State.outputStop
    split <;> simp [State.stopOutput, State.endOutput]
  case suspend =>
    show s.suspend.state.link.part = s.link.part ∨ s.suspend.state.link.part ≠ .reset
    unfold State.suspend
    (repeat' split) <;> simp [State.suspendPart]
  case resume => exact .inr (by simp [State.serve, State.resume])
  all_goals
    left
    unfold State.serve
    dsimp only
    (repeat' split) <;> simp

/-- What no event but the pin's makes of the pin, the search for lock, and RESET. -/
structure StaysReset (s t : State) : Prop where
  held : t.cru.resetHeld = true → s.cru.resetHeld = true
  lock : t.cru.lock = s.cru.lock ∨ s.cru.resetHeld = false ∧ t.cru.lock = .locked
  part : t.cru.lock = .locking → s.link.part = .reset → t.link.part = .reset

theorem staysReset_of_same (hheld : t.cru.resetHeld = s.cru.resetHeld) (hlock : t.cru.lock = s.cru.lock)
    (hpart : t.link.part = s.link.part) : StaysReset s t := ⟨by simp [hheld], .inl hlock, by simp [hpart]⟩

theorem Event.staysReset (h : Event s t) : t = s.hardReset ∨ StaysReset s t := by
  cases h with
  | hardReset => exact .inl rfl
  | linkReset => exact .inr ⟨id, .inl rfl, fun _ _ => rfl⟩
  | served _ hpass =>
    refine .inr ⟨by simp, .inl (by simp), fun _ hp => ?_⟩
    rw [hp, passes_reset] at hpass; cases hpass
  | release x =>
    refine .inr ⟨?_, .inl (by simp), by simp⟩
    unfold State.release
    split_ifs
    · rintro ⟨⟩
    · exact id
  | reachLock =>
    rcases reachLock_cases s with h | ⟨hr, hr', hl, _⟩
    · rw [h]; exact .inr (staysReset_of_same rfl rfl rfl)
    · exact .inr ⟨by simp, .inr ⟨hr, hl⟩, by simp [hl]⟩
  | endLinkReset =>
    refine .inr ⟨by simp, .inl (by simp), ?_⟩
    unfold State.endLinkReset
    split_ifs with hc
    · intro hl
      simp [hc.2] at hl
    · exact fun _ => id
  | _ => exact .inr (staysReset_of_same (by simp) (by simp) (by simp))

/-- Outside RESET only a reset leads to it. -/
theorem Event.entersReset (h : Event s t) (hp : s.link.part ≠ .reset) (ht : t.link.part = .reset) :
    t = s.hardReset ∨ t = s.linkReset := by
  cases h with
  | hardReset => exact .inl rfl
  | linkReset => exact .inr rfl
  | served queryOnly hpass =>
    rcases serve_part _ queryOnly s with h | h
    · exact absurd (h.symm.trans ht) hp
    · exact absurd ht h
  | reachLock =>
    rcases reachLock_cases s with h | ⟨_, _, _, h⟩
    · exact absurd (by rwa [h] at ht) hp
    · rw [h] at ht; cases ht
  | endLinkReset =>
    unfold State.endLinkReset at ht
    split_ifs at ht with hc
    · exact absurd hc.1 hp
    · exact absurd ht hp
  | _ => exact absurd (by simpa using ht) hp

theorem Event.resetLaw (h : Event s t) (hs : ResetLaw s) : ResetLaw t := by
  have hrest : t.link.part = .reset → AtRest t := by
    by_cases hp : s.link.part = .reset
    · exact h.atRest hp (hs.rest hp)
    · intro ht
      rcases h.entersReset hp ht with rfl | rfl
      · exact atRest_hardReset s
      · exact atRest_linkReset s
  rcases h.staysReset with rfl | ⟨hheld, hlock, hpart⟩
  · exact ⟨fun _ => rfl, fun _ => rfl, hrest⟩
  · refine ⟨fun hr => ?_, fun hl => ?_, hrest⟩
    · rcases hlock with hlock | ⟨hr', _⟩
      · rw [hlock, hs.held (hheld hr)]
      · rw [hheld hr] at hr'; cases hr'
    · rcases hlock with hlock | ⟨_, hlock⟩
      · exact hpart hl (hs.locking (hlock ▸ hl))
      · rw [hlock] at hl; cases hl

/-! The link's operations in RESET -/

theorem resetLaw_of_link (hs : ResetLaw s) (hcru : t.cru = s.cru) (hpart : t.link.part = s.link.part)
    (hrest : s.link.part = .reset → AtRest s → AtRest t) : ResetLaw t where
  held := by rw [hcru]; exact hs.held
  locking := by rw [hcru, hpart]; exact hs.locking
  rest := by rw [hpart]; exact fun hp => hrest hp (hs.rest hp)

theorem atRest_of_link (h : AtRest s) (ht : Exchange s t)
    (hl : t.link.phase = s.link.phase ∧ t.link.current = s.link.current ∧ t.link.slot = s.link.slot)
    (htxn : ∀ x, t.link.txn = some x → x = ⟨.empty, false, false⟩) : AtRest t := by
  obtain ⟨_, _, _, _, _, _, rfl⟩ := ht
  exact atRest_of_same h hl htxn id rfl rfl rfl rfl rfl rfl rfl rfl rfl rfl

theorem Exchange.clock_part (h : Exchange s t) : t.cru = s.cru ∧ t.link.part = s.link.part := by
  obtain ⟨_, _, _, _, _, _, rfl⟩ := h
  exact ⟨rfl, rfl⟩

/-- An exchange outside RESET keeps the law of RESET. -/
theorem Exchange.resetLaw (h : Exchange s t) (hs : ResetLaw s) (hrest : s.link.part = .reset → AtRest s → AtRest t) :
    ResetLaw t := by
  obtain ⟨hcru, hpart⟩ := h.clock_part
  exact resetLaw_of_link hs hcru hpart hrest

theorem resetLaw_beginTransaction (hs : ResetLaw s) : ResetLaw s.beginTransaction := by
  refine (exchange_beginTransaction s).resetLaw hs fun hp hr => ?_
  unfold State.beginTransaction
  split_ifs
  · exact hr
  · exact atRest_of_link hr (exchange_setTxn _ s) ⟨rfl, rfl, rfl⟩ (by rintro _ ⟨⟩; rfl)

theorem Taken.resetLaw (h : Taken s t) (hp : s.link.part ≠ .reset) (hs : ResetLaw s) : ResetLaw t := by
  cases h with
  | refused => exact (exchange_execute ..).resetLaw hs fun h => absurd h hp
  | served q queryOnly hpass he hl =>
    have hserve : ResetLaw (s.serve q queryOnly).state := (Event.served queryOnly hpass he hl).resetLaw hs
    refine (exchange_execute ..).resetLaw hserve fun h => ?_
    rcases serve_part q queryOnly s with hpart | hpart
    · exact absurd (hpart.symm.trans h) hp
    · exact absurd h hpart

/-- In RESET a transaction neither takes nor delivers. -/
theorem resetLaw_endTransaction (hs : ResetLaw s) (n : Nat) {action : State → State} (ha : ∀ u, Taken u (action u)) :
    ResetLaw (s.endTransaction n action) := by
  unfold State.endTransaction
  split
  · exact hs
  next x hx =>
    have hquiet : s.link.part = .reset → x = ⟨.empty, false, false⟩ := fun hp => (hs.rest hp).txn x hx
    have hclose : ResetLaw (s.closeTransaction x n) := (exchange_closeTransaction x n s).resetLaw hs fun _ hr =>
      atRest_of_link hr (exchange_closeTransaction x n s) ⟨rfl, rfl, rfl⟩ (by rintro _ ⟨⟩)
    split_ifs with h0 hr ht
    · refine (exchange_undoTransaction x s).resetLaw hs fun hp hr => ?_
      rw [hquiet hp]
      exact atRest_of_link hr (exchange_setTxn none s) ⟨rfl, rfl, rfl⟩ (by rintro _ ⟨⟩)
    · exact (Event.linkReset _).resetLaw hclose
    · refine (ha _).resetLaw (fun hp => ?_) hclose
      rw [hquiet hp] at ht; cases ht
    · exact hclose

theorem resetLaw_formReply (hs : ResetLaw s) : ResetLaw s.formReply := by
  refine (exchange_formReply s).resetLaw hs fun _ hr => ?_
  unfold State.formReply
  rw [hr.link.1]
  exact hr

theorem resetLaw_setPendingQueue (hs : ResetLaw s) (queue : List Instr) : ResetLaw (s.setPendingQueue queue) :=
  (exchange_setPendingQueue queue s).resetLaw hs fun _ hr =>
    atRest_of_link hr (exchange_setPendingQueue queue s) ⟨rfl, rfl, rfl⟩ hr.txn

theorem kept_resetLaw : Kept ResetLaw := by
  intro s t hs h
  obtain ⟨queue, hd⟩ := step_doing h
  have hq := resetLaw_setPendingQueue hs queue
  cases hd with
  | nothing => exact hq
  | event h => exact h.resetLaw hq
  | begins => exact resetLaw_beginTransaction hq
  | ends n ha => exact resetLaw_endTransaction hq n ha
  | whole n ha => exact resetLaw_endTransaction (resetLaw_beginTransaction hq) n ha
  | forms => exact resetLaw_formReply hq

/-! The attention line -/

/-- The attention line at what its mode says, and the queue at its reset values while the pin is held. -/
def AttnHeld (s : State) : Prop := (s.cru.resetHeld = true → s.nq = NoticeQueue.reset) ∧ AttnLaw s

theorem attnHeld_exchange (h : Exchange s t) (hs : AttnHeld s) : AttnHeld t := by
  obtain ⟨_, _, _, _, _, _, rfl⟩ := h
  exact hs

theorem attnHeld_of_laws (hs : ResetLaw s) (ha : AttnLaw s) : AttnHeld s :=
  ⟨fun hr => (hs.rest (hs.locking (hs.held hr))).nq, ha⟩

theorem attnLaw_step (hs : ResetLaw s) (ha : AttnLaw s) (h : step s = .next t) : AttnLaw t :=
  step_establishes (pre := AttnHeld) (law := AttnLaw) attnHeld_exchange
    (fun h hs => by obtain ⟨_, _, _, _, _, _, rfl⟩ := h; exact hs) And.right
    (fun h hs => h.attnLaw hs.1 hs.2) (attnHeld_of_laws hs ha) h

/-- Settles O60: nothing runs at rest, so an event leaves the part at rest or ends RESET; the line follows the queue. -/
theorem resetLawKept : Obligations.ResetLawKept :=
  ⟨kept_resetLaw, fun _ _ hs h => ⟨kept_resetLaw _ _ hs.1 h, attnLaw_step hs.1 hs.2 h⟩⟩

end Sys2Proof.Machine
end

section
/-! SUPPORT. A frame ring by its shape: READY records, and behind them the record a receiver fills (R24, R27 to R31). -/

namespace Sys2Proof.Machine

/-! The shape of a ring -/

/-- A ring of READY records: at most 4, on distinct slots, each complete, with at most one compositor hold. -/
structure ReadyRing (ring : List FrameRec) : Prop where
  depth : ring.length ≤ Config.ringDepth
  slots : (ring.map FrameRec.slot).Nodup
  ready : ∀ r ∈ ring, r.isReady = true
  complete : ∀ r ∈ ring, r.HasMeta ∧ r.means.isSome = true
  holds : (ring.filter FrameRec.heldC).length ≤ 1

/-- A ring of READY records with a FILLING one behind them. -/
structure OpenRing (olds : List FrameRec) (r : FrameRec) : Prop where
  front : ReadyRing olds
  room : olds.length < Config.ringDepth
  slot : r.slot ∉ olds.map FrameRec.slot
  filling : r.isReady = false
  unheld : r.held = false

/-- A ring by the intake state of its receiver. -/
def RingRight (ring : List FrameRec) (x : Intake) : Prop :=
  x.filling = false ∧ ReadyRing ring ∨
    x.filling = true ∧ ∃ olds r, ring = olds ++ [r] ∧ OpenRing olds r ∧ (x = .receiving → r.HasMeta)

theorem heldC_of_unheld {r : FrameRec} (h : r.held = false) : r.heldC = false ∧ r.heldS = false := by
  simpa [FrameRec.held] using h

/-- A ring whose records are all READY, where the law speaks of none that fills. -/
theorem readyRing_of_lawful {ring : List FrameRec} {x : Receiver} (h : RingLawful ring x)
    (hx : x.intake.filling = false) : ReadyRing ring := by
  have hready : ∀ r ∈ ring, r.isReady = true := by simpa [hx] using h.intake
  exact ⟨h.depth, h.slots, hready, fun r hr => h.ready r hr (hready r hr), h.holds⟩

theorem openRing_of_lawful {ring : List FrameRec} {x : Receiver} (h : RingLawful ring x)
    (hx : x.intake.filling = true) :
    ∃ olds r, ring = olds ++ [r] ∧ OpenRing olds r ∧ (x.intake = .receiving → r.HasMeta) := by
  have hany : ∃ r ∈ ring, r.isReady = false := by simpa [hx] using h.intake
  obtain ⟨r, hr, hfill⟩ := hany
  obtain ⟨hlast, hheld⟩ := h.last r hr hfill
  obtain ⟨olds, rfl⟩ := List.getLast?_eq_some_iff.mp hlast
  have hslots : (olds.map FrameRec.slot).Nodup ∧ r.slot ∉ olds.map FrameRec.slot := by
    have hn := h.slots
    rw [List.map_append, List.map_cons, List.map_nil, List.nodup_append] at hn
    obtain ⟨holds, _, hne⟩ := hn
    exact ⟨holds, fun hm => hne _ hm _ (List.mem_singleton_self _) rfl⟩
  have hready : ∀ q ∈ olds, q.isReady = true := by
    intro q hq
    by_contra hn
    obtain ⟨hql, _⟩ := h.last q (List.mem_append_left _ hq) (by simpa using hn)
    rw [List.getLast?_concat] at hql
    cases hql
    exact hslots.2 (List.mem_map_of_mem hq)
  have hdepth := h.depth
  have hcount := h.holds
  rw [List.length_append, List.length_singleton] at hdepth
  rw [List.filter_append, List.length_append] at hcount
  refine ⟨olds, r, rfl, ⟨⟨by omega, hslots.1, hready, ?_, by omega⟩, by omega, hslots.2, hfill, hheld⟩, fun hrec => ?_⟩
  · exact fun q hq => h.ready q (List.mem_append_left _ hq) (hready q hq)
  · exact h.filled hrec r hr

theorem lawful_of_readyRing {ring : List FrameRec} {x : Receiver} (h : ReadyRing ring) (hx : x.intake.filling = false) :
    RingLawful ring x where
  depth := h.depth
  slots := h.slots
  last := fun r hr hf => by rw [h.ready r hr] at hf; cases hf
  intake := by simpa [hx] using h.ready
  filled := fun hrec => by rw [hrec] at hx; cases hx
  ready := fun r hr _ => h.complete r hr
  holds := h.holds

theorem lawful_of_openRing {olds : List FrameRec} {r : FrameRec} {x : Receiver} (h : OpenRing olds r)
    (hx : x.intake.filling = true) (hm : x.intake = .receiving → r.HasMeta) : RingLawful (olds ++ [r]) x where
  depth := by rw [List.length_append]; exact h.room
  slots := by
    rw [List.map_append, List.map_singleton, List.nodup_append]
    exact ⟨h.front.slots, List.nodup_singleton _, fun a ha b hb hab => h.slot (by
      rw [List.mem_singleton.mp hb] at hab; exact hab ▸ ha)⟩
  last := by
    intro q hq hf
    rcases List.mem_append.mp hq with hq | hq
    · rw [h.front.ready q hq] at hf; cases hf
    · rw [List.mem_singleton.mp hq]
      exact ⟨List.getLast?_concat .., h.unheld⟩
  intake := by simp [hx, h.filling]
  filled := fun hrec q hq => by
    rcases List.mem_append.mp hq with hq | hq
    · exact (h.front.complete q hq).1
    · rw [List.mem_singleton.mp hq]; exact hm hrec
  ready := fun q hq hr => by
    rcases List.mem_append.mp hq with hq | hq
    · exact h.front.complete q hq
    · rw [List.mem_singleton.mp hq, h.filling] at hr; cases hr
  holds := by simpa [List.filter_append, (heldC_of_unheld h.unheld).1] using h.front.holds

theorem ringLawful_iff {ring : List FrameRec} {x : Receiver} : RingLawful ring x ↔ RingRight ring x.intake := by
  constructor
  · intro h
    cases hx : x.intake.filling with
    | false => exact .inl ⟨hx, readyRing_of_lawful h hx⟩
    | true => exact .inr ⟨hx, openRing_of_lawful h hx⟩
  · rintro (⟨hx, h⟩ | ⟨hx, olds, r, rfl, h, hm⟩)
    · exact lawful_of_readyRing h hx
    · exact lawful_of_openRing h hx hm

/-! Changes of the READY records -/

theorem ReadyRing.sublist {ring rest : List FrameRec} (h : ReadyRing ring) (hs : rest.Sublist ring) : ReadyRing rest where
  depth := hs.length_le.trans h.depth
  slots := h.slots.sublist (hs.map _)
  ready := fun r hr => h.ready r (hs.subset hr)
  complete := fun r hr => h.complete r (hs.subset hr)
  holds := (hs.filter _).length_le.trans h.holds

/-- What is the same of a record whatever its holders. -/
def SameFrame (r q : FrameRec) : Prop :=
  q.slot = r.slot ∧ q.isReady = r.isReady ∧ (r.HasMeta → q.HasMeta) ∧ q.means = r.means

theorem slots_filterMap {f : FrameRec → Option FrameRec} (hf : ∀ r q, f r = some q → SameFrame r q)
    (ring : List FrameRec) : ((ring.filterMap f).map FrameRec.slot).Sublist (ring.map FrameRec.slot) := by
  induction ring with
  | nil => exact List.nil_sublist _
  | cons r rest ih =>
    cases hr : f r with
    | none => rw [List.filterMap_cons_none hr]; exact ih.trans (List.sublist_cons_self ..)
    | some q =>
      rw [List.filterMap_cons_some hr, List.map_cons, List.map_cons, (hf r q hr).1]
      exact ih.cons_cons _

/-- A change of holders that drops some records keeps a ring of READY records. -/
theorem ReadyRing.filterMap {ring : List FrameRec} (h : ReadyRing ring) {f : FrameRec → Option FrameRec}
    (hf : ∀ r q, f r = some q → SameFrame r q) (hc : ((ring.filterMap f).filter FrameRec.heldC).length ≤ 1) :
    ReadyRing (ring.filterMap f) := by
  have hmem : ∀ q ∈ ring.filterMap f, ∃ r ∈ ring, SameFrame r q := fun q hq => by
    obtain ⟨r, hr, hq⟩ := List.mem_filterMap.mp hq
    exact ⟨r, hr, hf r q hq⟩
  refine ⟨(List.length_filterMap_le ..).trans h.depth, h.slots.sublist (slots_filterMap hf ring), fun q hq => ?_, fun q hq => ?_, hc⟩
  · obtain ⟨r, hr, _, hready, _⟩ := hmem q hq
    rw [hready, h.ready r hr]
  · obtain ⟨r, hr, _, _, hmeta, hmeans⟩ := hmem q hq
    obtain ⟨hm, hs⟩ := h.complete r hr
    exact ⟨hmeta hm, hmeans ▸ hs⟩

theorem sameFrame_setHold (r : FrameRec) (h : Holder) (on : Bool) : SameFrame r (r.setHold h on) := by
  cases h <;> exact ⟨rfl, rfl, id, rfl⟩

theorem sameFrame_releaseRec {drop : Bool} {h : Holder} {r q : FrameRec} (hq : releaseRec drop h r = some q) :
    SameFrame r q := by
  unfold releaseRec at hq
  split_ifs at hq
  · cases hq; exact sameFrame_setHold r h false
  · cases hq; exact ⟨rfl, rfl, id, rfl⟩

/-- A record that a release leaves does not carry the released hold, and its other hold stands. -/
theorem holds_releaseRec {drop : Bool} {h k : Holder} {r q : FrameRec} (hq : releaseRec drop h r = some q) :
    q.holds k = (r.holds k && decide (k ≠ h)) := by
  unfold releaseRec at hq
  split_ifs at hq with hh
  · cases hq; cases h <;> cases k <;> simp_all [FrameRec.setHold, FrameRec.holds]
  · cases hq; cases h <;> cases k <;> simp_all [FrameRec.holds]

/-- A release drops no record with another hold. -/
theorem releaseRec_of_other {drop : Bool} {h k : Holder} {r : FrameRec} (hk : k ≠ h) (hr : r.holds k = true) :
    ∃ q, releaseRec drop h r = some q := by
  unfold releaseRec
  split_ifs with hh hd
  · cases h <;> cases k <;> simp_all [FrameRec.setHold, FrameRec.holds, FrameRec.held]
  · exact ⟨_, rfl⟩
  · exact ⟨_, rfl⟩

theorem releaseRec_of_unheld {drop : Bool} {h : Holder} {r : FrameRec} (hr : r.held = false) :
    releaseRec drop h r = some r := by
  obtain ⟨hc, hs⟩ := heldC_of_unheld hr
  cases h <;> simp [releaseRec, FrameRec.holds, hc, hs]

/-! Still holds -/

/-- The number of still holds in a ring. -/
def stillHolds (ring : List FrameRec) : Nat := (ring.filter FrameRec.heldS).length

theorem stillHolds_append (a b : List FrameRec) : stillHolds (a ++ b) = stillHolds a + stillHolds b := by
  simp [stillHolds]

theorem stillHolds_unheld {r : FrameRec} (h : r.held = false) : stillHolds [r] = 0 := by
  simp [stillHolds, (heldC_of_unheld h).2]

/-- A change that drops no still hold and makes none keeps their number. -/
theorem stillHolds_filterMap {ring : List FrameRec} {f : FrameRec → Option FrameRec}
    (hdrop : ∀ r ∈ ring, f r = none → r.heldS = false) (hkeep : ∀ r ∈ ring, ∀ q, f r = some q → q.heldS = r.heldS) :
    stillHolds (ring.filterMap f) = stillHolds ring := by
  unfold stillHolds
  induction ring with
  | nil => rfl
  | cons r rest ih =>
    have ih := ih (fun q hq => hdrop q (List.mem_cons_of_mem r hq)) (fun q hq => hkeep q (List.mem_cons_of_mem r hq))
    cases hr : f r with
    | none =>
      have hd := hdrop r List.mem_cons_self hr
      rw [List.filterMap_cons_none hr, ih, List.filter_cons_of_neg (by simp [hd])]
    | some q =>
      have hk := hkeep r List.mem_cons_self q hr
      rw [List.filterMap_cons_some hr, List.filter_cons, List.filter_cons, hk]
      split_ifs
      · rw [List.length_cons, List.length_cons, ih]
      · exact ih

theorem stillHolds_filter_held (ring : List FrameRec) : stillHolds (ring.filter FrameRec.held) = stillHolds ring := by
  unfold stillHolds
  rw [List.filter_filter]
  congr 1
  exact List.filter_congr fun r _ => by cases hS : r.heldS <;> simp [FrameRec.held, hS]

theorem stillHolds_release_compositor (drop : Bool) (ring : List FrameRec) :
    stillHolds (ring.filterMap (releaseRec drop .compositor)) = stillHolds ring := by
  refine stillHolds_filterMap (fun r _ hr => ?_) fun r _ q hq => by simpa [FrameRec.holds] using holds_releaseRec (k := .still) hq
  by_contra hS
  obtain ⟨q, hq⟩ := releaseRec_of_other (drop := drop) (h := .compositor) (k := .still) (r := r) (by decide) (by simpa [FrameRec.holds] using hS)
  rw [hr] at hq; cases hq

theorem stillHolds_release_still (drop : Bool) (ring : List FrameRec) :
    stillHolds (ring.filterMap (releaseRec drop .still)) = 0 := by
  unfold stillHolds
  rw [List.length_eq_zero_iff, List.filter_eq_nil_iff]
  intro q hq
  obtain ⟨r, _, hr⟩ := List.mem_filterMap.mp hq
  simpa [FrameRec.holds] using holds_releaseRec (k := .still) hr

theorem heldC_release_compositor (drop : Bool) (ring : List FrameRec) :
    (ring.filterMap (releaseRec drop .compositor)).filter FrameRec.heldC = [] := by
  rw [List.filter_eq_nil_iff]
  intro q hq
  obtain ⟨r, _, hr⟩ := List.mem_filterMap.mp hq
  simpa [FrameRec.holds] using holds_releaseRec (k := .compositor) hr

theorem heldC_release_le (drop : Bool) (h : Holder) (ring : List FrameRec) :
    ((ring.filterMap (releaseRec drop h)).filter FrameRec.heldC).length ≤ (ring.filter FrameRec.heldC).length := by
  induction ring with
  | nil => exact le_rfl
  | cons r rest ih =>
    cases hr : releaseRec drop h r with
    | none =>
      rw [List.filterMap_cons_none hr]
      exact ih.trans ((List.sublist_cons_self ..).filter _).length_le
    | some q =>
      have hq : q.heldC = (r.heldC && decide (Holder.compositor ≠ h)) := holds_releaseRec (k := .compositor) hr
      rw [List.filterMap_cons_some hr, List.filter_cons, List.filter_cons, hq]
      cases r.heldC <;> cases h <;> simp <;> omega

theorem ReadyRing.release {ring : List FrameRec} (h : ReadyRing ring) (drop : Bool) (holder : Holder) :
    ReadyRing (ring.filterMap (releaseRec drop holder)) :=
  h.filterMap (fun _ _ hq => sameFrame_releaseRec hq) ((heldC_release_le ..).trans h.holds)

end Sys2Proof.Machine
end

section
/-! THEOREM. The law of the frame rings and their holds under every event (R24, R27 to R31, R41 to R44). -/

namespace Sys2Proof.Machine

variable {s t u : State}

/-! One ring -/

/-- A ring is right for its intake state, with this number of still holds. -/
def RingOk (ring : List FrameRec) (x : Intake) (due : Nat) : Prop := RingRight ring x ∧ stillHolds ring = due

section
variable {ring : List FrameRec} {x y : Intake} {due : Nat}

/-- A change of the READY records, that leaves a FILLING one behind them as it is. -/
theorem RingOk.front {f : List FrameRec → List FrameRec} {due' : Nat} (h : RingOk ring x due)
    (hf : ∀ olds, ReadyRing olds → (∀ r ∈ olds, r ∈ ring) → ReadyRing (f olds) ∧
      (f olds).length ≤ olds.length ∧ ((f olds).map FrameRec.slot).Sublist (olds.map FrameRec.slot))
    (happ : ∀ olds r, r ∈ ring → r.isReady = false → r.held = false → f (olds ++ [r]) = f olds ++ [r])
    (hd : stillHolds (f ring) = due') : RingOk (f ring) x due' := by
  refine ⟨?_, hd⟩
  rcases h.1 with ⟨hx, hr⟩ | ⟨hx, olds, r, rfl, ho, hm⟩
  · exact .inl ⟨hx, (hf ring hr fun _ => id).1⟩
  · obtain ⟨hfront, hlen, hslots⟩ := hf olds ho.front fun q hq => List.mem_append_left _ hq
    refine .inr ⟨hx, f olds, r, happ olds r (by simp) ho.filling ho.unheld, ⟨hfront, ?_, ?_, ho.filling, ho.unheld⟩, hm⟩
    · exact hlen.trans_lt ho.room
    · exact fun hmem => ho.slot (hslots.subset hmem)

/-- A change of holders as a change of the READY records. -/
theorem RingOk.filterMap {f : FrameRec → Option FrameRec} {due' : Nat} (h : RingOk ring x due)
    (hsame : ∀ r q, f r = some q → SameFrame r q)
    (hcount : ∀ olds, ReadyRing olds → ((olds.filterMap f).filter FrameRec.heldC).length ≤ 1)
    (hfill : ∀ r ∈ ring, r.isReady = false → r.held = false → f r = some r)
    (hd : stillHolds (ring.filterMap f) = due') : RingOk (ring.filterMap f) x due' := by
  refine h.front (f := List.filterMap f) (fun olds ho _ => ⟨ho.filterMap hsame (hcount olds ho), List.length_filterMap_le .., ?_⟩)
    (fun olds r hr hready hheld => by rw [List.filterMap_append, List.filterMap_cons_some (hfill r hr hready hheld)]; rfl) hd
  exact slots_filterMap hsame olds

theorem RingOk.releaseCompositor (h : RingOk ring x due) (drop : Bool) :
    RingOk (ring.filterMap (releaseRec drop .compositor)) x due :=
  h.filterMap (fun _ _ => sameFrame_releaseRec) (fun _ _ => by rw [heldC_release_compositor]; simp)
    (fun _ _ _ hr => releaseRec_of_unheld hr) ((stillHolds_release_compositor ..).trans h.2)

theorem RingOk.releaseStill (h : RingOk ring x due) (drop : Bool) :
    RingOk (ring.filterMap (releaseRec drop .still)) x 0 :=
  h.filterMap (fun _ _ => sameFrame_releaseRec) (fun _ ho => (heldC_release_le ..).trans ho.holds)
    (fun _ _ _ hr => releaseRec_of_unheld hr) (stillHolds_release_still ..)

/-- What a move of the compositor hold to a slot makes of a record (R42). -/
def moveRec (drop : Bool) (slot : Slot) (r : FrameRec) : Option FrameRec :=
  if r.slot = slot then some (r.setHold .compositor true) else releaseRec drop .compositor r

theorem sameFrame_moveRec {drop : Bool} {slot : Slot} {r q : FrameRec} (hq : moveRec drop slot r = some q) :
    SameFrame r q := by
  unfold moveRec at hq
  split_ifs at hq
  · cases hq; exact sameFrame_setHold r _ _
  · exact sameFrame_releaseRec hq

/-- Only a record of the slot carries the compositor hold after the move. -/
theorem heldC_moveRec {drop : Bool} {slot : Slot} {r q : FrameRec} (hq : moveRec drop slot r = some q)
    (hc : q.heldC = true) : q.slot = slot := by
  unfold moveRec at hq
  split_ifs at hq with hs
  · cases hq; exact hs
  · have hn : q.heldC = false := by simpa [FrameRec.holds] using holds_releaseRec (k := .compositor) hq
    rw [hn] at hc; cases hc

theorem stillHolds_move (drop : Bool) (slot : Slot) (ring : List FrameRec) :
    stillHolds (ring.filterMap (moveRec drop slot)) = stillHolds ring := by
  refine stillHolds_filterMap (fun r _ hr => ?_) fun r _ q hq => ?_
  · unfold moveRec at hr
    split_ifs at hr
    by_contra hS
    obtain ⟨q, hq⟩ := releaseRec_of_other (drop := drop) (h := .compositor) (k := .still) (r := r) (by decide)
      (by simpa [FrameRec.holds] using hS)
    rw [hr] at hq; cases hq
  · unfold moveRec at hq
    split_ifs at hq
    · cases hq; rfl
    · simpa [FrameRec.holds] using holds_releaseRec (k := .still) hq

/-- On distinct slots at most one record is of a given slot. -/
theorem length_filter_slot_le {ring : List FrameRec} (h : (ring.map FrameRec.slot).Nodup) {p : FrameRec → Bool} {slot : Slot}
    (hp : ∀ r ∈ ring, p r = true → r.slot = slot) : (ring.filter p).length ≤ 1 := by
  have hn : ((ring.filter p).map FrameRec.slot).Nodup := h.sublist (List.filter_sublist.map _)
  have hall : ∀ k ∈ (ring.filter p).map FrameRec.slot, k = slot := fun k hk => by
    obtain ⟨r, hr, rfl⟩ := List.mem_map.mp hk
    obtain ⟨hmem, hpr⟩ := List.mem_filter.mp hr
    exact hp r hmem hpr
  have hsub : (ring.filter p).map FrameRec.slot ⊆ [slot] := fun k hk => List.mem_singleton.mpr (hall k hk)
  simpa using (List.subperm_of_subset hn hsub).length_le

theorem RingOk.move (h : RingOk ring x due) (drop : Bool) {slot : Slot}
    (hready : ∀ r ∈ ring, r.slot = slot → r.isReady = true) : RingOk (ring.filterMap (moveRec drop slot)) x due := by
  refine h.filterMap (fun _ _ => sameFrame_moveRec) (fun olds ho => ?_) (fun r hr hf hu => ?_)
    ((stillHolds_move ..).trans h.2)
  · refine length_filter_slot_le (slot := slot) (ho.slots.sublist (slots_filterMap (fun _ _ => sameFrame_moveRec) olds)) fun q hq hc => ?_
    obtain ⟨r, _, hr⟩ := List.mem_filterMap.mp hq
    exact heldC_moveRec hr hc
  · have hs : r.slot ≠ slot := fun hs => by rw [hready r hr hs] at hf; cases hf
    rw [moveRec, if_neg hs, releaseRec_of_unheld hu]

theorem RingOk.idle (h : RingOk ring x due) (hx : x.filling = false) (hy : y.filling = false) : RingOk ring y due := by
  refine ⟨?_, h.2⟩
  rcases h.1 with ⟨_, hr⟩ | ⟨hx', _⟩
  · exact .inl ⟨hy, hr⟩
  · rw [hx] at hx'; cases hx'

theorem filter_ready {olds : List FrameRec} {r : FrameRec} (h : ReadyRing olds) (hr : r.isReady = false) :
    dropFilling (olds ++ [r]) = olds := by
  rw [dropFilling, List.filter_append, List.filter_eq_self.mpr h.ready]
  simp [hr]

/-- Without the FILLING record the ring is that of a receiver that fills none (R25, R32, R38). -/
theorem RingOk.dropFilling (h : RingOk ring x due) (hy : y.filling = false) : RingOk (dropFilling ring) y due := by
  rcases h.1 with ⟨_, hr⟩ | ⟨_, olds, r, rfl, ho, _⟩
  · rw [Machine.dropFilling, List.filter_eq_self.mpr hr.ready]
    exact ⟨.inl ⟨hy, hr⟩, h.2⟩
  · rw [filter_ready ho.front ho.filling]
    refine ⟨.inl ⟨hy, ho.front⟩, ?_⟩
    rw [← h.2, stillHolds_append, stillHolds_unheld ho.unheld, Nat.add_zero]

theorem purge_filling (x : Receiver) : x.purged.intake.filling = false := by
  unfold Receiver.purged
  cases x.intake <;> rfl

/-- The purge of R16 leaves held, READY records. -/
theorem RingOk.purge (h : RingOk ring x due) (hy : y.filling = false) : RingOk (ring.filter FrameRec.held) y due := by
  refine ⟨.inl ⟨hy, ?_⟩, (stillHolds_filter_held ring).trans h.2⟩
  rcases h.1 with ⟨_, hr⟩ | ⟨_, olds, r, rfl, ho, _⟩
  · exact hr.sublist List.filter_sublist
  · rw [List.filter_append, List.filter_cons_of_neg (by simp [ho.unheld]), List.filter_nil, List.append_nil]
    exact ho.front.sublist List.filter_sublist

theorem dropOldest_sublist (ring : List FrameRec) : (dropOldest ring).Sublist ring := by
  unfold dropOldest
  split_ifs
  · exact List.eraseP_sublist
  · exact List.Sublist.refl _

theorem stillHolds_dropOldest (ring : List FrameRec) : stillHolds (dropOldest ring) = stillHolds ring := by
  unfold dropOldest
  split_ifs
  · cases h : ring.any (fun r => r.isReady && !r.held) with
    | false =>
      rw [List.eraseP_of_forall_not]
      simpa using h
    | true =>
      obtain ⟨a, ha, hpa⟩ := List.any_eq_true.mp h
      obtain ⟨b, l, l', _, hb, hsplit, heq⟩ :=
        List.exists_of_eraseP (p := fun r : FrameRec => r.isReady && !r.held) ha hpa
      have hu : b.held = false := by simp at hb; exact hb.2
      rw [heq, hsplit, stillHolds_append, stillHolds_append,
        show stillHolds (b :: l') = stillHolds ([b] ++ l') from rfl, stillHolds_append, stillHolds_unheld hu, Nat.zero_add]
  · rfl

theorem slot_not_mem_of_free {ring : List FrameRec} {slot : Slot} (h : slot ∈ freeSlots ring) :
    slot ∉ ring.map FrameRec.slot := by
  unfold freeSlots at h
  rw [List.mem_filter] at h
  intro hm
  obtain ⟨r, hr, rfl⟩ := List.mem_map.mp hm
  simpa using List.all_eq_true.mp h.2 r hr

/-- A ring with a free slot holds at most three records. -/
theorem length_lt_of_free {ring : List FrameRec} {slot : Slot} (hn : (ring.map FrameRec.slot).Nodup)
    (h : slot ∉ ring.map FrameRec.slot) : ring.length < Config.ringDepth := by
  have hsub : slot :: ring.map FrameRec.slot ⊆ Src.all := fun k _ => by cases k <;> decide
  have hlen := (List.subperm_of_subset (List.nodup_cons.mpr ⟨h, hn⟩) hsub).length_le
  rw [List.length_cons, List.length_map] at hlen
  exact hlen

/-- A new FILLING record on a free slot (R30). -/
theorem RingOk.append (h : RingOk ring x due) (hx : x.filling = false) {slot : Slot}
    (hslot : slot ∈ freeSlots (dropOldest ring)) (width : Nat) (start : Time) :
    RingOk (dropOldest ring ++ [FrameRec.fresh slot width start]) .awaitMeta due := by
  obtain hr : ReadyRing ring := by
    rcases h.1 with ⟨_, hr⟩ | ⟨hx', _⟩
    · exact hr
    · rw [hx] at hx'; cases hx'
  have hfront := hr.sublist (dropOldest_sublist ring)
  have hnew := slot_not_mem_of_free hslot
  refine ⟨.inr ⟨rfl, _, _, rfl, ⟨hfront, length_lt_of_free hfront.slots hnew, hnew, rfl, rfl⟩, by rintro ⟨⟩⟩, ?_⟩
  rw [stillHolds_append, stillHolds_unheld rfl, stillHolds_dropOldest, h.2, Nat.add_zero]

theorem map_ready {olds : List FrameRec} {f : FrameRec → FrameRec} (h : ReadyRing olds)
    (hf : ∀ r, r.isReady = true → f r = r) : olds.map f = olds := by
  conv_rhs => rw [← List.map_id olds]
  exact List.map_congr_left fun r hr => hf r (h.ready r hr)

/-- A metadata line is written into the FILLING record (R33, R34). -/
theorem RingOk.writeMeta (h : RingOk ring .awaitMeta due) (f : FrameRec → FrameRec)
    (hold : ∀ r, r.isReady = true → f r = r) (hslot : ∀ r, (f r).slot = r.slot)
    (hfill : ∀ r, r.isReady = false → (f r).isReady = false ∧ (f r).held = r.held ∧ (f r).HasMeta) :
    RingOk (ring.map f) .receiving due := by
  rcases h.1 with ⟨hx, _⟩ | ⟨_, olds, r, rfl, ho, _⟩
  · cases hx
  · obtain ⟨hready, hheld, hmeta⟩ := hfill r ho.filling
    rw [List.map_append, map_ready ho.front hold, List.map_singleton]
    refine ⟨.inr ⟨rfl, olds, f r, rfl, ⟨ho.front, ho.room, ?_, hready, hheld.trans ho.unheld⟩, fun _ => hmeta⟩, ?_⟩
    · rw [hslot]; exact ho.slot
    · rw [← h.2, stillHolds_append, stillHolds_append, stillHolds_unheld ho.unheld, stillHolds_unheld (hheld.trans ho.unheld)]

/-- A good frame end makes the FILLING record READY (R37). -/
theorem RingOk.finish (h : RingOk ring .receiving due) (sums : Triple) :
    RingOk (ring.map fun r => r.finish sums) .between due := by
  rcases h.1 with ⟨hx, _⟩ | ⟨_, olds, r, rfl, ho, hm⟩
  · cases hx
  · obtain ⟨hc, hS⟩ := heldC_of_unheld ho.unheld
    have hfin : r.finish sums = { r with state := .ready, means := some (meansOf sums (r.window.getD ⟨0, 0, 0, 0⟩)) } := by
      simp [FrameRec.finish, ho.filling]
    have hunheld : (r.finish sums).held = false := by rw [hfin]; exact ho.unheld
    rw [List.map_append, map_ready ho.front fun q hq => by simp [FrameRec.finish, hq], List.map_singleton]
    refine ⟨.inl ⟨rfl, ?_, ?_, ?_, ?_, ?_⟩, ?_⟩
    · rw [List.length_append]; exact ho.room
    · rw [List.map_append, List.map_singleton, List.nodup_append]
      exact ⟨ho.front.slots, List.nodup_singleton _, fun a ha b hb hab => ho.slot (by
        rw [List.mem_singleton.mp hb, hfin] at hab; exact hab ▸ ha)⟩
    · intro q hq
      rcases List.mem_append.mp hq with hq | hq
      · exact ho.front.ready q hq
      · rw [List.mem_singleton.mp hq, hfin]; rfl
    · intro q hq
      rcases List.mem_append.mp hq with hq | hq
      · exact ho.front.complete q hq
      · rw [List.mem_singleton.mp hq, hfin]; exact ⟨hm rfl, rfl⟩
    · have hnone : (r.finish sums).heldC = false := by rw [hfin]; exact hc
      simpa [List.filter_append, hnone] using ho.front.holds
    · rw [← h.2, stillHolds_append, stillHolds_append, stillHolds_unheld ho.unheld, stillHolds_unheld hunheld]

end

end Sys2Proof.Machine
end

section
/-! THEOREM. Every event keeps the law of the frame rings. -/

namespace Sys2Proof.Machine

variable {s t u : State}

/-! The law of the rings by their shapes -/

/-- Every ring is right for what `g` makes of its receiver's intake state, with the still holds of R43. -/
def RingsWith (g : Src → Intake → Intake) (s : State) : Prop :=
  ∀ i, RingOk (s.ring i) (g i (s.receiver i).intake) (s.stillHoldsDue i)

/-- A view of the intake states that makes no receiver fill. -/
def Calm (g : Src → Intake → Intake) : Prop := ∀ i x, x.filling = false → (g i x).filling = false

/-- Every receiver as it is. -/
def asIs : Src → Intake → Intake := fun _ x => x

/-- Every receiver as it is, but one, which is taken to fill no record. -/
def without (i : Src) : Src → Intake → Intake := fun j x => if j = i then .between else x

theorem calm_asIs : Calm asIs := fun _ _ h => h

theorem calm_without (i : Src) : Calm (without i) := fun j x h => by
  unfold without
  split_ifs
  · rfl
  · exact h

theorem ringLaw_iff : RingLaw s ↔ RingsWith asIs s :=
  ⟨fun h i => ⟨ringLawful_iff.mp (h.ring i), h.still i⟩,
    fun h => ⟨fun i => ringLawful_iff.mpr (h i).1, fun i => (h i).2⟩⟩

theorem stillHoldsDue_congr (h : t.cc.still.map Still.source = s.cc.still.map Still.source) (i : Src) :
    t.stillHoldsDue i = s.stillHoldsDue i := by
  have hdue (u : State) : u.stillHoldsDue i = if u.cc.still.map Still.source = some (some i) then 1 else 0 := by
    unfold State.stillHoldsDue
    cases u.cc.still <;> simp
  rw [hdue, hdue, h]

/-! Moves of the rings -/

/-- What an event makes of the rings besides the intake of frames, move by move: purges, changes of holders, and the end
of a still. -/
inductive Stir (s : State) : State → Prop
  | refl : Stir s s
  | quiet {t u : State} (h : Stir s t) (hintake : ∀ i, (u.receiver i).intake = (t.receiver i).intake)
      (hring : u.fs.rings = t.fs.rings) (hstill : u.cc.still.map Still.source = t.cc.still.map Still.source) : Stir s u
  | purge {t : State} (h : Stir s t) (i : Src) : Stir s (t.purge i)
  | release {t : State} (h : Stir s t) (i : Src) : Stir s (t.releaseHolds .compositor i)
  | move {t : State} (h : Stir s t) (i : Src) (slot : Slot) (hr : ∀ r ∈ t.ring i, r.slot = slot → r.isReady = true) :
      Stir s (t.moveHold i slot)
  | endStill {t : State} (h : Stir s t) (x : Still) (hx : t.cc.still = some x) : Stir s (t.endStill x)

theorem Stir.same (h : Stir s t) (hrec : u.receivers = t.receivers) (hring : u.fs.rings = t.fs.rings)
    (hstill : u.cc = t.cc) : Stir s u :=
  .quiet h (fun i => by rw [receiver_congr _ _ hrec]) hring (by rw [hstill])

theorem rings_setRing {g : Src → Intake → Intake} (hs : RingsWith g s) {i : Src} {x : List FrameRec}
    (hx : RingOk x (g i (s.receiver i).intake) (s.stillHoldsDue i)) : RingsWith g (s.setRing i x) := by
  intro j
  rw [ring_setRing, receiver_setRing]
  split_ifs with hj
  · subst hj; exact hx
  · exact hs j

theorem rings_purge {g : Src → Intake → Intake} (hg : Calm g) (hs : RingsWith g s) (i : Src) : RingsWith g (s.purge i) := by
  intro j
  rw [State.purge, ring_setReceiver, ring_setRing, receiver_setReceiver]
  split_ifs with hj
  · subst hj; exact (hs j).purge (hg j _ (purge_filling _))
  · exact hs j

/-- At the end of a still its holds are released with it (R160, R162). -/
theorem rings_endStill {g : Src → Intake → Intake} (hs : RingsWith g s) {x : Still} (hx : s.cc.still = some x) :
    RingsWith g (s.endStill x) := by
  have hnone (t : State) (j : Src) : ((t.setStill none).setQueue []).stillHoldsDue j = 0 := rfl
  have hdue (j : Src) : s.stillHoldsDue j = if x.source = some j then 1 else 0 := by
    simp [State.stillHoldsDue, hx]
  intro j
  unfold State.endStill
  dsimp only
  rw [hnone]
  cases hi : x.source with
  | none =>
    have hj := hs j
    rw [hdue, if_neg (by simp [hi])] at hj
    exact hj
  | some i =>
    show RingOk ((s.releaseHolds .still i).ring j) (g j (s.receiver j).intake) 0
    rw [State.releaseHolds, ring_setRing]
    split_ifs with hji
    · subst hji; exact (hs j).releaseStill _
    · have hj := hs j
      rw [hdue, if_neg (by rw [hi]; exact fun h => hji (Option.some.inj h).symm)] at hj
      exact hj

theorem Stir.rings {g : Src → Intake → Intake} (hg : Calm g) (h : Stir s t) (hs : RingsWith g s) : RingsWith g t := by
  induction h with
  | refl => exact hs
  | quiet _ hintake hring hstill ih =>
    intro i
    rw [stillHoldsDue_congr hstill, hintake, State.ring, hring]
    exact ih i
  | purge _ i ih => exact rings_purge hg ih i
  | release _ i ih => exact rings_setRing ih ((ih i).releaseCompositor _)
  | move _ i slot hr ih => exact rings_setRing ih ((ih i).move _ hr)
  | endStill _ x hx ih => exact rings_endStill ih hx

theorem Stir.ringLaw (h : Stir s t) (hs : RingLaw s) : RingLaw t :=
  ringLaw_iff.mpr (h.rings calm_asIs (ringLaw_iff.mp hs))

/-! Sources -/

theorem Stir.park (h : Stir s t) (i : Src) : Stir s (t.park i) := by
  unfold State.park
  split_ifs
  · exact h
  · exact .same (.purge (.same h (u := t.setSource i (t.source i).parkedRec) rfl rfl rfl) i) (by simp) (by simp) (by simp)

theorem Stir.faultSource (h : Stir s t) (cause : FaultCause) (i : Src) : Stir s (t.faultSource cause i) :=
  .same (.purge (.same h (u := t.setSource i ((t.source i).faultRec cause)) rfl rfl rfl) i) rfl rfl rfl

theorem Stir.testEnd (h : Stir s t) (i : Src) (code : TestCode) : Stir s (t.testEnd i code) := by
  unfold State.testEnd
  split
  · exact .park h i
  · exact .same (.park h i) (by simp) (by simp) (by simp)

theorem Stir.waitTimer (h : Stir s t) (x : Timer) : Stir s (t.waitTimer x) := .same h (by simp) (by simp) (by simp)

theorem stir_syncExpiry (i : Src) (s : State) : Stir s (s.syncExpiry i) := by
  unfold State.syncExpiry
  split
  · exact .refl
  · split_ifs
    · unfold State.syncFailed
      split
      · exact .faultSource (.waitTimer .refl _) ..
      · exact .testEnd (.waitTimer .refl _) ..
    · exact .refl

theorem stir_frameTimeout (i : Src) (s : State) : Stir s (s.frameTimeout i) := by
  unfold State.frameTimeout
  split
  · exact .refl
  · split_ifs
    · exact .faultSource (.waitTimer .refl _) ..
    · exact .refl

theorem stir_idleExpiry (i : Src) (s : State) : Stir s (s.idleExpiry i) := by
  unfold State.idleExpiry
  split
  · exact .refl
  · split_ifs
    · exact .park (.waitTimer .refl _) i
    · exact .refl

/-! Frame intake -/

theorem Stir.eighthBadFrame (h : Stir s t) (i : Src) : Stir s (t.eighthBadFrame i) := by
  unfold State.eighthBadFrame
  split_ifs
  · split
    · exact .faultSource h ..
    · exact .testEnd h ..
  · exact h

theorem intake_setReceiver_same {i : Src} {x : Receiver} (hx : x.intake = (s.receiver i).intake) (j : Src) :
    ((s.setReceiver i x).receiver j).intake = (s.receiver j).intake := by
  rw [receiver_setReceiver]
  split_ifs with hj
  · subst hj; exact hx
  · rfl

theorem Stir.badFrame (h : Stir s t) (i : Src) (cause : BadCause) (lines : Nat) (counter : Option Half) :
    Stir s (t.badFrame i cause lines counter) := by
  have hrun : Stir s (t.setReceiver i { t.receiver i with run := (t.receiver i).run + 1 }) :=
    .quiet h (intake_setReceiver_same rfl) rfl rfl
  have hpost := Stir.same hrun
    (u := State.postReceiver i (.linkFault cause lines ((t.receiver i).run + 1) counter)
      (t.setReceiver i { t.receiver i with run := (t.receiver i).run + 1 })) (by simp) (by simp) (by simp)
  unfold State.badFrame
  dsimp only
  split_ifs
  · exact .eighthBadFrame hpost i
  · exact hpost

/-- The ring and the receiver of one source replaced, each right for the other. -/
theorem ringLaw_at {g : Src → Intake → Intake} (i : Src) (hs : RingsWith g s) (hg : ∀ j, j ≠ i → ∀ y, g j y = y)
    (hring : ∀ j, j ≠ i → t.ring j = s.ring j)
    (hintake : ∀ j, j ≠ i → (t.receiver j).intake = (s.receiver j).intake) (hstill : t.cc = s.cc)
    (hi : RingOk (t.ring i) (t.receiver i).intake (s.stillHoldsDue i)) : RingLaw t := by
  refine ringLaw_iff.mpr fun j => ?_
  rw [stillHoldsDue_congr (s := s) (by rw [hstill])]
  by_cases hj : j = i
  · subst hj; exact hi
  · rw [hring j hj, hintake j hj, asIs, ← hg j hj (s.receiver j).intake]
    exact hs j

theorem without_ne {i j : Src} (h : j ≠ i) (y : Intake) : without i j y = y := if_neg h

/-- Step 1 of R25 leaves no FILLING record. -/
theorem rings_cutOff (hs : RingLaw s) (i : Src) : RingsWith (without i) (s.cutOff i) := by
  have hr := ringLaw_iff.mp hs
  have hbase (x : List FrameRec) (hx : RingOk x .between (s.stillHoldsDue i)) : RingsWith (without i) (s.setRing i x) := by
    intro j
    rw [ring_setRing, receiver_setRing]
    split_ifs with hj
    · subst hj; rw [without, if_pos rfl]; exact hx
    · rw [without_ne hj]; exact hr j
  have hcut := hbase _ ((hr i).dropFilling (y := .between) rfl)
  have hquiet (h : (s.receiver i).intake.filling = false) : RingsWith (without i) s := by
    intro j
    by_cases hj : j = i
    · subst hj; rw [without, if_pos rfl]; exact (hr j).idle h rfl
    · rw [without_ne hj]; exact hr j
  unfold State.cutOff
  split
  next h => exact hquiet (by rw [h]; rfl)
  next h => exact hquiet (by rw [h]; rfl)
  · exact (Stir.badFrame .refl ..).rings (calm_without i) hcut
  · exact (Stir.badFrame .refl ..).rings (calm_without i) hcut

theorem ring_without (hs : RingsWith (without i) s) : RingOk (s.ring i) .between (s.stillHoldsDue i) := by
  have h := hs i
  rwa [without, if_pos rfl] at h

theorem ringLaw_openFrame {i : Src} (hs : RingsWith (without i) s) : RingLaw (s.openFrame i) := by
  have hi := ring_without hs
  have hdiscard : RingLaw (s.setIntake i .discarding) :=
    ringLaw_at i hs (fun _ => without_ne) (fun _ _ => rfl) (fun j hj => by simp [State.setIntake, hj]) rfl
      (by simpa [State.setIntake] using hi.idle rfl rfl)
  unfold State.openFrame
  split
  · unfold State.appendFrame
    split
    · exact hdiscard
    next slot rest hfree =>
      have happend := hi.append rfl (hfree ▸ List.mem_cons_self) (s.source i).width s.cru.time
      exact ringLaw_at i hs (fun _ => without_ne) (fun j hj => by simp [hj]) (fun j hj => by simp [hj]) rfl
        (by simpa using happend)
  · exact hdiscard

theorem ringLaw_frameStart (hs : RingLaw s) (i : Src) : RingLaw (s.frameStart i) := by
  unfold State.frameStart
  split
  · exact hs
  · exact ringLaw_openFrame (rings_cutOff hs i)

/-- The ring and the receiver of one source replaced under the law. -/
theorem ringLaw_change (i : Src) (hs : RingLaw s) (hring : ∀ j, j ≠ i → t.ring j = s.ring j)
    (hintake : ∀ j, j ≠ i → (t.receiver j).intake = (s.receiver j).intake) (hstill : t.cc = s.cc)
    (hi : RingOk (t.ring i) (t.receiver i).intake (s.stillHoldsDue i)) : RingLaw t :=
  ringLaw_at i (ringLaw_iff.mp hs) (fun _ _ _ => rfl) hring hintake hstill hi

/-- The ring of one source under the law. -/
theorem ringOk_of_law (hs : RingLaw s) (i : Src) : RingOk (s.ring i) (s.receiver i).intake (s.stillHoldsDue i) :=
  ringLaw_iff.mp hs i

/-- A frame in progress that ends without a READY record. -/
theorem ringLaw_dropFrame (hs : RingLaw s) (i : Src) {x : Intake} (hx : x.filling = false) :
    RingLaw ((s.setRing i (dropFilling (s.ring i))).setIntake i x) :=
  ringLaw_change i hs (fun j hj => by simp [State.setIntake, hj]) (fun j hj => by simp [State.setIntake, hj])
    rfl (by simpa [State.setIntake] using (ringOk_of_law hs i).dropFilling hx)

theorem ringLaw_acceptMeta (hs : RingLaw s) (i : Src) (m : MetaFields) (hi : (s.receiver i).intake = .awaitMeta) :
    RingLaw (s.acceptMeta i m) := by
  have hloss : RingLaw (s.frameLoss i m.counter) :=
    (Stir.same .refl (by simp) (by simp) (by simp)).ringLaw hs
  have hmeta := ringOk_of_law hloss i
  rw [receiver_congr s _ (by simp) i, hi] at hmeta
  refine ringLaw_change i hloss (fun j hj => by simp [State.acceptMeta, State.writeMeta, hj])
    (fun j hj => by simp [State.acceptMeta, State.writeMeta, hj]) rfl ?_
  simp only [State.acceptMeta, State.writeMeta, ring_setReceiver, ring_setRing, receiver_setReceiver, if_true]
  exact hmeta.writeMeta _ (fun r h => if_pos h) (fun r => by split_ifs <;> rfl)
    (fun r h => by simp only [h]; exact ⟨h, rfl, rfl, rfl, rfl⟩)

theorem ringLaw_takeMeta (hs : RingLaw s) (i : Src) (pixels : List Pixel) (hi : (s.receiver i).intake = .awaitMeta) :
    RingLaw (s.takeMeta i pixels) := by
  unfold State.takeMeta
  split
  · exact ringLaw_acceptMeta hs i _ hi
  · exact (Stir.badFrame .refl ..).ringLaw (ringLaw_dropFrame hs i rfl)

theorem intake_countLine (i j : Src) (s : State) : ((s.countLine i).receiver j).intake = (s.receiver j).intake := by
  unfold State.countLine
  exact intake_setReceiver_same (by rfl) j

theorem intake_storeLine (i : Src) (r : FrameRec) (line : List Pixel) (j : Src) (s : State) :
    ((s.storeLine i r line).receiver j).intake = (s.receiver j).intake := by
  unfold State.storeLine
  exact intake_setReceiver_same (s := s.setSlot ..) (by rfl) j

theorem stir_takeImage (i : Src) (pixels : List Pixel) (s : State) : Stir s (s.takeImage i pixels) := by
  have hcount : Stir s (s.countLine i) := .quiet .refl (intake_countLine i · s) (by simp) (by simp)
  unfold State.takeImage
  split
  · exact hcount
  next r _ =>
    split
    · exact .quiet .refl (intake_storeLine i r _ · s) (by simp) (by simp)
    · exact hcount

theorem ringLaw_takeLine (hs : RingLaw s) (i : Src) (pixels : List Pixel) : RingLaw (s.takeLine i pixels) := by
  unfold State.takeLine
  split
  · exact hs
  · exact hs
  next h => exact ringLaw_takeMeta hs i pixels h
  · exact (stir_takeImage i pixels s).ringLaw hs

theorem Stir.firstReady (h : Stir s t) (i : Src) : Stir s (t.firstReady i) := by
  unfold State.firstReady
  split
  · split
    · exact .same h (by simp) (by simp) (by simp)
    · exact .testEnd h ..
  · exact h

theorem ringLaw_goodFrame (hs : RingLaw s) (i : Src) (hi : (s.receiver i).intake = .receiving) : RingLaw (s.goodFrame i) := by
  have hfin := ringOk_of_law hs i
  rw [hi] at hfin
  refine (Stir.firstReady .refl i).ringLaw ?_
  exact ringLaw_change i hs (fun j hj => by simp [hj]) (fun j hj => by simp [hj]) rfl
    (by simpa using hfin.finish (s.receiver i).sums)

theorem ringLaw_frameEnd (hs : RingLaw s) (i : Src) : RingLaw (s.frameEnd i) := by
  have hbad : RingLaw (s.lineCountFault i) := (Stir.badFrame .refl ..).ringLaw (ringLaw_dropFrame hs i rfl)
  unfold State.frameEnd
  split
  · exact hs
  next h =>
    refine ringLaw_change i hs (fun _ _ => rfl) (fun j hj => by simp [State.setIntake, hj]) rfl ?_
    have hi := ringOk_of_law hs i
    rw [h] at hi
    simpa [State.setIntake] using hi.idle rfl rfl
  · exact hbad
  next h =>
    split
    · exact ringLaw_goodFrame hs i h
    · exact hbad

/-! The compositor's holds -/

theorem newestReady_mem {ring : List FrameRec} {r : FrameRec} (h : newestReady ring = some r) :
    r ∈ ring ∧ r.isReady = true := List.mem_filter.mp (List.mem_of_getLast? h)

/-- On distinct slots the record of a READY record's slot is that record. -/
theorem ready_of_slot (hs : RingLaw s) {i : Src} {r : FrameRec} (hr : r ∈ s.ring i) (hready : r.isReady = true) :
    ∀ q ∈ s.ring i, q.slot = r.slot → q.isReady = true := fun _ hq hslot =>
  List.inj_on_of_nodup_map (hs.ring i).slots hq hr hslot ▸ hready

/-- The chosen records of a compose stand READY in their rings. -/
def ChosenReady (l : List Chosen) (s : State) : Prop :=
  ∀ x ∈ l, x.record ∈ s.ring x.handed.source ∧ x.record.isReady = true

theorem chosenReady_chosen (s : State) : ChosenReady s.chosen s := by
  have hall : ∀ x ∈ s.handed.filterMap s.choose, newestReady (s.ring x.handed.source) = some x.record := fun x hx => by
    obtain ⟨h, _, hc⟩ := List.mem_filterMap.mp hx
    obtain ⟨r, hr, rfl⟩ := Option.map_eq_some_iff.mp hc
    exact hr
  intro x hx
  unfold State.chosen at hx
  split at hx
  next y heq =>
    rw [List.mem_singleton.mp hx]
    exact newestReady_mem (hall y (by rw [heq]; exact List.mem_cons_self))
  · exact newestReady_mem (hall x hx)

theorem ring_settleHold {l : List Chosen} {i j : Src} (h : j ≠ i) (s : State) : (s.settleHold l i).ring j = s.ring j := by
  unfold State.settleHold
  split
  · simp [State.moveHold, h]
  · simp [State.releaseHolds, h]

/-- Settling the hold of a source whose ring is as it was when the records were chosen. -/
theorem Stir.settleHold (h : Stir s t) {l : List Chosen} {i : Src}
    (hl : ∀ x ∈ l, x.handed.source = i → ∀ q ∈ t.ring i, q.slot = x.record.slot → q.isReady = true) :
    Stir s (t.settleHold l i) := by
  unfold State.settleHold
  split
  next x hx =>
    have hsrc : x.handed.source = i := by simpa using List.find?_some hx
    exact .move h i _ (hl x (List.mem_of_find?_eq_some hx) hsrc)
  · exact .release h i

theorem stir_settleHolds (hs : RingLaw s) {l : List Chosen} (hl : ChosenReady l s) : Stir s (s.settleHolds l) := by
  have hready (i : Src) {t : State} (ht : t.ring i = s.ring i) :
      ∀ x ∈ l, x.handed.source = i → ∀ q ∈ t.ring i, q.slot = x.record.slot → q.isReady = true := by
    rintro x hx rfl
    rw [ht]
    exact ready_of_slot hs (hl x hx).1 (hl x hx).2
  unfold State.settleHolds
  refine .settleHold (.settleHold (.settleHold (.settleHold .refl (hready .s0 rfl)) (hready .s1 ?_)) (hready .s2 ?_))
    (hready .s3 ?_)
  · rw [ring_settleHold (by decide)]
  · rw [ring_settleHold (by decide), ring_settleHold (by decide)]
  · rw [ring_settleHold (by decide), ring_settleHold (by decide), ring_settleHold (by decide)]

theorem ringLaw_composeBegin (hs : RingLaw s) : RingLaw s.composeBegin := by
  have hreport (left again : List Src) : RingLaw (s.reportRepeat left again) :=
    (Stir.same .refl (by simp) (by simp) (by simp)).ringLaw hs
  have hchosen := chosenReady_chosen s
  unfold State.composeBegin
  split
  · exact hreport ..
  next x rest heq =>
    have hready : ChosenReady (x :: rest) (s.reportRepeat s.leftOut (repeated (x :: rest))) := by
      intro y hy
      have hring : (s.reportRepeat s.leftOut (repeated (x :: rest))).ring y.handed.source = s.ring y.handed.source := by
        simp [State.ring]
      rw [hring]
      exact hchosen y (heq ▸ hy)
    refine (Stir.same (stir_settleHolds (hreport ..) hready) ?_ ?_ ?_).ringLaw (hreport ..)
    · rfl
    · rfl
    · rfl

theorem ringLaw_tick (hs : RingLaw s) : RingLaw s.tick := by
  unfold State.tick
  split
  next d _ _ =>
    unfold State.tickWork
    dsimp only
    split_ifs
    · exact (Stir.same .refl (by simp) (by simp) (by simp)).ringLaw hs
    · exact ringLaw_composeBegin ((Stir.same .refl (by simp) (by simp) (by simp)).ringLaw hs)
  · exact hs

/-! Stills -/

theorem source_fillOne (s : State) : s.fillOne.cc.still.map Still.source = s.cc.still.map Still.source := by
  unfold State.fillOne
  split
  · rfl
  next x hx =>
    split
    · rfl
    · split
      · simp [State.setStill, hx]
      · rfl

theorem source_fillQueue (s : State) : s.fillQueue.cc.still.map Still.source = s.cc.still.map Still.source :=
  (source_fillOne _).trans (source_fillOne _)

/-- A change of the still record that leaves its source, and of parts that hold no frames. -/
theorem Stir.stillChange (h : Stir s t) (hrec : u.receivers = t.receivers) (hring : u.fs.rings = t.fs.rings)
    (hstill : u.cc.still.map Still.source = t.cc.still.map Still.source) : Stir s u :=
  .quiet h (fun i => by rw [receiver_congr _ _ hrec]) hring hstill

theorem Stir.abortStill (h : Stir s t) {x : Still} (hx : t.cc.still = some x) (cause : StillCause) :
    Stir s (t.abortStill x cause) := by
  unfold State.abortStill
  dsimp only
  split_ifs
  · exact .stillChange h rfl rfl (by simp [State.setStill, hx])
  · exact .endStill (.same h (by simp) (by simp) (by simp)) x (by simpa using hx)

theorem stir_composeComplete (s : State) : Stir s s.composeComplete := by
  unfold State.composeComplete
  split
  · exact .refl
  · split_ifs
    · refine .stillChange .refl (by simp [State.completeLive]) (by simp [State.completeLive]) ?_
      unfold State.completeLive State.captureFused
      dsimp only
      split
      · rfl
      next x hx =>
        split
        · rw [source_fillQueue]
          simp_all [State.setStill, Still.sized]
        · rfl
    · exact .same .refl rfl rfl rfl

theorem stir_groupBegin (s : State) : Stir s s.groupBegin := by
  refine .stillChange .refl (by simp) (by simp) ?_
  unfold State.groupBegin
  split
  · rfl
  next x g hg =>
    have hx : s.cc.still = some x := by
      unfold State.readyGroup at hg
      split at hg
      · split_ifs at hg; cases hg; assumption
      · cases hg
    rw [source_fillQueue]
    simp [State.setStill, hx]

theorem stir_groupEnd (s : State) : Stir s s.groupEnd := by
  unfold State.groupEnd
  split
  · exact .refl
  next g _ =>
    have ht : Stir s { s.waitTimer g.timer with op := { (s.waitTimer g.timer).op with group := none } } :=
      .same .refl (by simp) (by simp) (by simp)
    unfold State.afterGroup
    dsimp only
    split
    · exact ht
    next x hx =>
      split_ifs
      · exact .endStill ht x hx
      · exact .same (.endStill ht x hx) rfl rfl rfl
      · exact ht

theorem stir_pauseTimeout (s : State) : Stir s s.pauseTimeout := by
  unfold State.pauseTimeout
  split
  · exact .refl
  next x hx =>
    split
    · exact .refl
    · exact .abortStill (.waitTimer .refl _) (by simpa using hx) _

theorem stir_flowAbort (s : State) : Stir s s.flowAbort.state := by
  unfold State.flowAbort
  split
  · exact .refl
  next x hx =>
    split
    · exact .abortStill .refl hx _
    · exact .abortStill .refl hx _
    · exact .abortStill .refl hx _
    · exact .refl

theorem stir_flowPause (s : State) : Stir s s.flowPause.state := by
  refine .stillChange .refl (by simp) (by simp) ?_
  unfold State.flowPause
  split
  · rfl
  next x hx => split <;> simp [State.flowAnswer, State.setStill, hx]

theorem stir_flowResume (s : State) : Stir s s.flowResume.state := by
  refine .stillChange .refl (by simp) (by simp) ?_
  unfold State.flowResume
  split
  · rfl
  next x hx => split <;> simp [State.flowAnswer, source_fillQueue, State.setStill, hx]

/-- The record of a slot with the still hold (R43). -/
def pinRec (slot : Slot) (r : FrameRec) : FrameRec := if r.slot = slot then r.setHold .still true else r

theorem pinRec_keeps (slot : Slot) (r : FrameRec) : SameFrame r (pinRec slot r) ∧ (pinRec slot r).heldC = r.heldC := by
  unfold pinRec
  split_ifs
  · exact ⟨sameFrame_setHold .., rfl⟩
  · exact ⟨⟨rfl, rfl, id, rfl⟩, rfl⟩

/-- Pinning one of the records of a ring without still holds makes one still hold. -/
theorem stillHolds_pin {ring : List FrameRec} (hn : (ring.map FrameRec.slot).Nodup) (h0 : stillHolds ring = 0)
    {r : FrameRec} (hr : r ∈ ring) : stillHolds (ring.map (pinRec r.slot)) = 1 := by
  have hnone : ∀ q ∈ ring, q.heldS = false := by
    simpa [stillHolds] using h0
  have hheld : ∀ q ∈ ring, (pinRec r.slot q).heldS = decide (q.slot = r.slot) := fun q hq => by
    unfold pinRec
    split_ifs with h
    · simp [FrameRec.setHold, h]
    · simp [hnone q hq, h]
  apply le_antisymm
  · have hslots : ((ring.map (pinRec r.slot)).map FrameRec.slot).Nodup := by
      have hslot : FrameRec.slot ∘ pinRec r.slot = FrameRec.slot := funext fun q => (pinRec_keeps r.slot q).1.1
      rwa [List.map_map, hslot]
    refine length_filter_slot_le (slot := r.slot) hslots fun q hq hS => ?_
    obtain ⟨p, hp, rfl⟩ := List.mem_map.mp hq
    rw [(pinRec_keeps r.slot p).1.1]
    simpa [hheld p hp] using hS
  · exact List.length_pos_of_mem (List.mem_filter.mpr ⟨List.mem_map_of_mem hr, by simp [hheld r hr]⟩)

theorem RingOk.pin {ring : List FrameRec} {x : Intake} (h : RingOk ring x 0) (hn : (ring.map FrameRec.slot).Nodup)
    {r : FrameRec} (hr : r ∈ ring) (hready : ∀ q ∈ ring, q.slot = r.slot → q.isReady = true) :
    RingOk (ring.map (pinRec r.slot)) x 1 := by
  rw [← stillHolds_pin hn h.2 hr]
  rw [← List.filterMap_eq_map]
  refine h.filterMap (fun a b hb => ?_) (fun olds ho => ?_) (fun q hq hf _ => ?_) rfl
  · cases hb; exact (pinRec_keeps r.slot a).1
  · have hheld : FrameRec.heldC ∘ pinRec r.slot = FrameRec.heldC := funext fun q => (pinRec_keeps r.slot q).2
    rw [List.filterMap_eq_map, List.filter_map, List.length_map, hheld]
    exact ho.holds
  · have hne : q.slot ≠ r.slot := fun hs => by rw [hready q hq hs] at hf; cases hf
    simp [pinRec, hne]

theorem source_pinFrame (i : Src) (r : FrameRec) (s : State) :
    (s.pinFrame i r).cc.still.map Still.source = some (some i) := by
  unfold State.pinFrame
  rw [source_fillQueue]
  rfl

theorem stillHoldsDue_none (h : s.cc.still = none) (i : Src) : s.stillHoldsDue i = 0 := by
  simp [State.stillHoldsDue, h]

/-- A source still pins the newest READY record of its source (R43, R155). -/
theorem ringLaw_pinFrame (hs : RingLaw s) (hnone : s.cc.still = none) {i : Src} {r : FrameRec}
    (hr : newestReady (s.ring i) = some r) : RingLaw (s.pinFrame i r) := by
  obtain ⟨hmem, hready⟩ := newestReady_mem hr
  have hdue (j : Src) : (s.pinFrame i r).stillHoldsDue j = if i = j then 1 else 0 := by
    have h := source_pinFrame i r s
    obtain ⟨x, hx, hsrc⟩ := Option.map_eq_some_iff.mp h
    simp [State.stillHoldsDue, hx, hsrc]
  refine ringLaw_iff.mpr fun j => ?_
  have hring : (s.pinFrame i r).ring j = if j = i then (s.ring i).map (pinRec r.slot) else s.ring j := by
    have hfs : (s.pinFrame i r).fs = (s.placeStillHold i r.slot).fs := by simp [State.pinFrame]
    rw [State.ring, hfs]
    exact ring_setRing ..
  have hrec : (s.pinFrame i r).receiver j = s.receiver j := receiver_congr _ _ (by simp [State.pinFrame]) j
  have hj := ringOk_of_law hs j
  rw [stillHoldsDue_none hnone] at hj
  rw [hring, hrec, hdue]
  by_cases h : j = i
  · subst h
    rw [if_pos rfl, if_pos rfl]
    exact hj.pin (hs.ring j).slots hmem (ready_of_slot hs hmem hready)
  · rw [if_neg h, if_neg (Ne.symm h)]
    exact hj

theorem ringLaw_stillTakeSource (hs : RingLaw s) (src : Byte) : RingLaw (s.stillTakeSource src).state := by
  unfold State.stillTakeSource
  split
  · exact hs
  · unfold State.stillTakeKnown
    split_ifs with hstill hd
    · exact hs
    · exact hs
    · split
      · exact hs
      next r hr => exact ringLaw_pinFrame hs (by simpa using hstill) hr

theorem stir_stillTakeFused (s : State) : Stir s s.stillTakeFused.state ∨ s.cc.still = none ∧
    s.stillTakeFused.state = s.createStill Still.ofFused := by
  unfold State.stillTakeFused
  split_ifs with hstill
  · exact .inl .refl
  · exact .inl .refl
  · exact .inr ⟨by simpa using hstill, rfl⟩

theorem ringLaw_stillTakeFused (hs : RingLaw s) : RingLaw s.stillTakeFused.state := by
  rcases stir_stillTakeFused s with h | ⟨hnone, heq⟩
  · exact h.ringLaw hs
  · rw [heq]
    refine ringLaw_iff.mpr fun i => ?_
    have hi := ringOk_of_law hs i
    rw [stillHoldsDue_none hnone] at hi
    exact hi

/-! Requests that touch the rings -/

theorem Stir.parkAll (h : Stir s t) : Stir s t.parkAll := .park (.park (.park (.park h _) _) _) _

theorem stir_suspend (s : State) : Stir s s.suspend.state := by
  unfold State.suspend
  split_ifs
  · exact .refl
  · exact .refl
  · exact .same (.parkAll .refl) (by simp [State.suspendPart]) (by simp [State.suspendPart]) (by simp [State.suspendPart])

theorem Stir.freeAndPark (h : Stir s t) (i : Src) : Stir s (t.freeAndPark i) := by
  unfold State.freeAndPark
  split
  · exact .park (.same h (by simp) (by simp) (by simp)) i
  · exact .park h i

theorem stir_powerPark (src : Byte) (s : State) : Stir s (s.powerPark src).state := by
  unfold State.powerPark State.parkKnown
  split
  · exact .refl
  next i _ =>
    (repeat' split)
    · exact .refl
    · exact .refl
    · exact .refl
    · exact .refl
    · exact .refl
    · exact .refl
    · exact .freeAndPark .refl i

theorem Stir.releaseAll (h : Stir s t) : Stir s t.releaseAll := .release (.release (.release (.release h _) _) _) _

theorem Stir.abortCapture (h : Stir s t) : Stir s t.abortCapture := by
  unfold State.abortCapture
  split
  · exact h
  next x hx =>
    split_ifs
    · exact .abortStill h hx _
    · exact h

theorem stir_outputStop (s : State) : Stir s s.outputStop.state := by
  have hroles : Stir s s.removeRecord.dropPending.endRoles.clearHeld := .same .refl (by simp) (by simp) (by simp)
  have hdiscard : Stir s s.removeRecord.dropPending.endRoles.clearHeld.releaseAll.discardCompose :=
    .same hroles.releaseAll (by simp) (by simp) (by simp)
  unfold State.outputStop
  split_ifs
  · exact .same hdiscard.abortCapture (by simp [State.stopOutput]) (by simp [State.stopOutput])
      (by simp [State.stopOutput])
  · exact .refl

theorem ringLaw_serve (hs : RingLaw s) (q : Request) (queryOnly : Bool) : RingLaw (s.serve q queryOnly).state := by
  cases q
  case suspend => exact (stir_suspend s).ringLaw hs
  case outputStop => exact (stir_outputStop s).ringLaw hs
  case sourcePower src action =>
    unfold State.serve
    dsimp only
    split_ifs
    · exact (Stir.same .refl (by simp) (by simp) (by simp)).ringLaw hs
    · exact (stir_powerPark src s).ringLaw hs
  case stillTake kind src =>
    unfold State.serve
    dsimp only
    split_ifs
    · exact ringLaw_stillTakeSource hs src
    · exact ringLaw_stillTakeFused hs
  case stillFlow action =>
    unfold State.serve
    dsimp only
    split_ifs
    · exact (stir_flowPause s).ringLaw hs
    · exact (stir_flowResume s).ringLaw hs
    · exact (stir_flowAbort s).ringLaw hs
  case pinSource =>
    unfold State.serve
    dsimp only
    split_ifs
    · exact (Stir.same .refl (by simp) (by simp) (by simp)).ringLaw hs
    · exact (Stir.same .refl (by simp) (by simp) (by simp)).ringLaw hs
  all_goals
    refine (Stir.same .refl ?_ ?_ ?_).ringLaw hs <;> unfold State.serve <;> simp

/-! The law -/

theorem ringLaw_of_reset (hrec : t.receivers = Four.fill Receiver.reset) (hring : t.fs.rings = Four.fill [])
    (hstill : t.cc.still = none) : RingLaw t := by
  refine ringLaw_iff.mpr fun i => ?_
  have hr : t.receiver i = Receiver.reset := by rw [State.receiver, hrec, get_fill]
  have hempty : t.ring i = [] := by rw [State.ring, hring, get_fill]
  rw [hr, hempty, stillHoldsDue_none hstill]
  exact ⟨.inl ⟨rfl, ⟨by simp, by simp, by simp, by simp, by simp⟩⟩, rfl⟩

theorem ringLaw_exchange (h : Exchange s t) (hs : RingLaw s) : RingLaw t := by
  obtain ⟨_, _, _, _, _, _, rfl⟩ := h
  exact Stir.ringLaw (s := s) (.same .refl rfl rfl rfl) hs

theorem Event.ringLaw (h : Event s t) (hs : RingLaw s) : RingLaw t := by
  cases h with
  | served queryOnly => exact ringLaw_serve hs _ queryOnly
  | hardReset => exact ringLaw_of_reset rfl rfl rfl
  | linkReset => exact ringLaw_of_reset rfl rfl rfl
  | frameStart i => exact ringLaw_frameStart hs i
  | takeLine i pixels => exact ringLaw_takeLine hs i pixels
  | frameEnd i => exact ringLaw_frameEnd hs i
  | syncExpiry i => exact (stir_syncExpiry i s).ringLaw hs
  | frameTimeout i => exact (stir_frameTimeout i s).ringLaw hs
  | idleExpiry i => exact (stir_idleExpiry i s).ringLaw hs
  | tick => exact ringLaw_tick hs
  | composeComplete => exact (stir_composeComplete s).ringLaw hs
  | groupBegin => exact (stir_groupBegin s).ringLaw hs
  | groupEnd => exact (stir_groupEnd s).ringLaw hs
  | pauseTimeout => exact (stir_pauseTimeout s).ringLaw hs
  | _ => exact (Stir.same .refl (by simp) (by simp) (by simp)).ringLaw hs

/-- Settles O53: an event moves each ring between right shapes, a frame in progress being a FILLING record behind READY
ones. -/
theorem ringLawKept : Obligations.RingLawKept := kept_of_event ringLaw_exchange Event.ringLaw

end Sys2Proof.Machine
end

section
/-! SUPPORT. The picture as the zoom controller takes it to be: the role each source holds in it, by its pending report or
its state (R12, R15), and what an operation makes of one source's role. -/

namespace Sys2Proof.Machine

variable {s t : State}

/-! The role a source holds -/

/-- A state as a role in the picture. -/
def roleOf (x : SrcState) : Option SrcState := if x.isRole = true then some x else none

/-- The pending reports that hold a role in the picture. -/
def roleNames (l : List Report) : List Report := l.filter fun x => x.role.isRole

/-- The role held by a source in this state with these pending reports. -/
def holdOf (x : SrcState) (l : List Report) : Option SrcState :=
  match roleNames l with
  | [] => roleOf x
  | r :: _ => some r.role

/-- At most one pending report holds a role, and then the source's state is none. -/
def SingleOf (x : SrcState) (l : List Report) : Prop := (roleNames l).length ≤ 1 ∧ (roleNames l ≠ [] → x.isRole = false)

/-- The role the zoom controller takes a source to hold in the picture. -/
def State.hold (s : State) (i : Src) : Option SrcState := holdOf (s.source i).state (s.zc.reports.get i)

/-- At most one of a source's pending reports holds a role, and then the source's state is none. -/
def State.Single (s : State) (i : Src) : Prop := SingleOf (s.source i).state (s.zc.reports.get i)

theorem roleOf_of_role {x : SrcState} (h : x.isRole = true) : roleOf x = some x := if_pos h

theorem roleOf_of_none {x : SrcState} (h : x.isRole = false) : roleOf x = none := if_neg (by simp [h])

theorem isRole_of_roleOf {x y : SrcState} (h : roleOf x = some y) : x = y ∧ y.isRole = true := by
  unfold roleOf at h
  split_ifs at h with hx
  cases h
  exact ⟨rfl, hx⟩

theorem holdOf_of_nil {x : SrcState} {l : List Report} (h : roleNames l = []) : holdOf x l = roleOf x := by
  unfold holdOf
  rw [h]

theorem holdOf_of_cons {x : SrcState} {l rest : List Report} {r : Report} (h : roleNames l = r :: rest) :
    holdOf x l = some r.role := by
  unfold holdOf
  rw [h]

theorem isRole_of_mem_roleNames {l : List Report} {r : Report} (h : r ∈ roleNames l) : r.role.isRole = true := by
  simpa using (List.mem_filter.mp h).2

theorem isRole_of_holdOf {x y : SrcState} {l : List Report} (h : holdOf x l = some y) : y.isRole = true := by
  unfold holdOf at h
  split at h
  · exact (isRole_of_roleOf h).2
  next r rest heq =>
    cases h
    exact isRole_of_mem_roleNames (heq ▸ List.mem_cons_self)

theorem isRole_of_hold {i : Src} {y : SrcState} (h : s.hold i = some y) : y.isRole = true := isRole_of_holdOf h

theorem singleOf_of_nil {x : SrcState} {l : List Report} (h : roleNames l = []) : SingleOf x l :=
  ⟨by rw [h]; exact Nat.zero_le _, fun hn => absurd h hn⟩

/-- A source that holds a role is in it, or has a report pending. -/
theorem known_of_hold {i : Src} {y : SrcState} (h : s.hold i = some y) :
    (s.source i).state.usable = true ∨ s.zc.reports.get i ≠ [] := by
  cases hl : s.zc.reports.get i with
  | cons => exact .inr (List.cons_ne_nil _ _)
  | nil =>
    rw [State.hold, hl, holdOf_of_nil rfl] at h
    obtain ⟨hx, hy⟩ := isRole_of_roleOf h
    exact .inl (usable_of_isRole (hx ▸ hy))

theorem belief_eq (s : State) (i : Src) : s.belief i = (s.hold i).getD (s.source i).state := by
  unfold State.belief State.hold holdOf
  rw [show s.roleReports i = roleNames (s.zc.reports.get i) from rfl]
  cases roleNames (s.zc.reports.get i) with
  | cons => rfl
  | nil =>
    dsimp only
    cases h : (s.source i).state.isRole
    · rw [roleOf_of_none h]; rfl
    · rw [roleOf_of_role h]; rfl

theorem belief_eq_iff {i : Src} {y : SrcState} (hy : y.isRole = true) : s.belief i = y ↔ s.hold i = some y := by
  rw [belief_eq]
  cases h : s.hold i with
  | some x => simp
  | none =>
    simp only [Option.getD_none, reduceCtorEq, iff_false]
    intro hx
    unfold State.hold holdOf at h
    split at h
    · rw [hx, roleOf_of_role hy] at h; cases h
    · cases h

theorem believed_eq_false_iff {i : Src} : s.believed i = false ↔ s.hold i = none := by
  constructor
  · intro h
    cases hh : s.hold i with
    | none => rfl
    | some y =>
      rw [State.believed, (belief_eq_iff (isRole_of_hold hh)).mpr hh, isRole_of_hold hh] at h
      cases h
  · intro h
    cases hb : (s.belief i).isRole with
    | false => exact hb
    | true =>
      rw [(belief_eq_iff hb).mp rfl] at h
      cases h

theorem hold_congr {i : Src} (hstate : (t.source i).state = (s.source i).state)
    (hrep : t.zc.reports.get i = s.zc.reports.get i) : t.hold i = s.hold i := by
  rw [State.hold, hstate, hrep]; rfl

/-! Changes of the pending reports -/

theorem roleNames_settled (l : List Report) : roleNames (l.map Report.settled) = [] := by
  unfold roleNames
  rw [List.filter_eq_nil_iff]
  intro x hx
  obtain ⟨y, _, rfl⟩ := List.mem_map.mp hx
  exact Bool.false_ne_true

/-- Of shifted reports only the newest can hold a role (R12). -/
theorem roleNames_shift (role : SrcState) (l : List Report) :
    roleNames (shiftReports role l) = if role.isRole then (l.getLast?.map fun x => { x with role := role }).toList else [] := by
  induction l with
  | nil => simp [shiftReports, roleNames]
  | cons x rest ih =>
    cases rest with
    | nil => cases h : role.isRole <;> simp [shiftReports, roleNames, h]
    | cons y rest =>
      have hsettled : x.settled.role.isRole = false := rfl
      rw [shiftReports, roleNames, List.filter_cons_of_neg (by simp [hsettled]), List.getLast?_cons_cons]
      exact ih

theorem shift_eq_nil_iff {role : SrcState} {l : List Report} : shiftReports role l = [] ↔ l = [] := by
  cases l with
  | nil => simp [shiftReports]
  | cons x rest => cases rest <;> simp [shiftReports]

theorem getLast?_shift (role : SrcState) (l : List Report) :
    (shiftReports role l).getLast? = l.getLast?.map fun x => { x with role := role } := by
  induction l with
  | nil => rfl
  | cons x rest ih =>
    cases rest with
    | nil => rfl
    | cons y rest =>
      rw [shiftReports, List.getLast?_cons_cons, ← ih]
      cases h : shiftReports role (y :: rest) with
      | nil => exact absurd h (by simp [shift_eq_nil_iff])
      | cons z zs => rw [List.getLast?_cons_cons]

/-- A shifted report stands for one that was pending, with the change that spoiled it. -/
theorem mem_shift {role : SrcState} {l : List Report} {x : Report} (h : x ∈ shiftReports role l) :
    ∃ y ∈ l, x.spoiled = y.spoiled := by
  induction l with
  | nil => cases h
  | cons a rest ih =>
    cases rest with
    | nil => exact ⟨a, List.mem_cons_self, by rw [List.mem_singleton.mp h]⟩
    | cons b rest =>
      rcases List.mem_cons.mp h with rfl | h
      · exact ⟨a, List.mem_cons_self, rfl⟩
      · obtain ⟨y, hy, heq⟩ := ih h
        exact ⟨y, List.mem_cons_of_mem a hy, heq⟩

theorem roleNames_spoil_map (x : Spoiled) (l : List Report) :
    (roleNames (spoilReports x l)).map Report.role = (roleNames l).map Report.role := by
  induction l with
  | nil => rfl
  | cons y rest ih =>
    cases rest with
    | nil => cases h : y.role.isRole <;> simp [spoilReports, roleNames, h]
    | cons z rest =>
      have hy : roleNames (spoilReports x (y :: z :: rest)) =
          if y.role.isRole then y :: roleNames (spoilReports x (z :: rest)) else roleNames (spoilReports x (z :: rest)) := by
        rw [spoilReports, roleNames, List.filter_cons]; rfl
      rw [hy, show roleNames (y :: z :: rest) = if y.role.isRole then y :: roleNames (z :: rest) else roleNames (z :: rest)
        from List.filter_cons ..]
      split_ifs
      · rw [List.map_cons, List.map_cons, ih]
      · exact ih

theorem holdOf_eq_map (x : SrcState) (l : List Report) :
    holdOf x l = match (roleNames l).map Report.role with | [] => roleOf x | r :: _ => some r := by
  unfold holdOf
  cases roleNames l <;> rfl

theorem holdOf_spoil (x : SrcState) (y : Spoiled) (l : List Report) : holdOf x (spoilReports y l) = holdOf x l := by
  rw [holdOf_eq_map, roleNames_spoil_map, ← holdOf_eq_map]

theorem singleOf_spoil {x : SrcState} {l : List Report} (h : SingleOf x l) (y : Spoiled) : SingleOf x (spoilReports y l) := by
  have hmap := roleNames_spoil_map y l
  have hlen : (roleNames (spoilReports y l)).length = (roleNames l).length := by
    simpa using congrArg List.length hmap
  refine ⟨hlen ▸ h.1, fun hn => h.2 fun h0 => hn ?_⟩
  exact List.length_eq_zero_iff.mp (by rw [hlen, h0]; rfl)

/-- A spoiled change goes to the newest report. -/
theorem mem_spoil {x : Spoiled} {l : List Report} {r : Report} (h : r ∈ spoilReports x l) :
    r ∈ l ∨ r.spoiled = some x ∧ ∃ y, l.getLast? = some y ∧ r.role = y.role := by
  induction l with
  | nil => cases h
  | cons a rest ih =>
    cases rest with
    | nil =>
      rw [List.mem_singleton.mp h]
      exact .inr ⟨rfl, a, rfl, rfl⟩
    | cons b rest =>
      rcases List.mem_cons.mp h with rfl | h
      · exact .inl List.mem_cons_self
      · rcases ih h with hr | ⟨hs, y, hy, hrole⟩
        · exact .inl (List.mem_cons_of_mem a hr)
        · exact .inr ⟨hs, y, by rw [List.getLast?_cons_cons]; exact hy, hrole⟩

/-- The report of a new fault stands for the role it found the source in (R15). -/
theorem roleNames_raise (x : SrcState) (l : List Report) :
    roleNames (l ++ [⟨x, none⟩]) = if x.isRole then roleNames l ++ [⟨x, none⟩] else roleNames l := by
  unfold roleNames
  rw [List.filter_append]
  cases h : x.isRole <;> simp [h]

theorem holdOf_fault {x : SrcState} {l : List Report} (h : SingleOf x l) :
    holdOf .fault (l ++ [⟨x, none⟩]) = holdOf x l ∧ SingleOf .fault (l ++ [⟨x, none⟩]) := by
  have hraise := roleNames_raise x l
  cases hx : x.isRole with
  | true =>
    have hnil : roleNames l = [] := by
      by_contra hn
      rw [h.2 hn] at hx; cases hx
    rw [hx, hnil] at hraise
    rw [holdOf_of_cons hraise, holdOf_of_nil hnil, roleOf_of_role hx]
    exact ⟨rfl, by rw [hraise]; exact le_rfl, fun _ => rfl⟩
  | false =>
    rw [hx] at hraise
    have hraise : roleNames (l ++ [⟨x, none⟩]) = roleNames l := by simpa using hraise
    refine ⟨?_, by rw [hraise]; exact h.1, fun _ => rfl⟩
    cases hl : roleNames l with
    | nil => rw [holdOf_of_nil hl, holdOf_of_nil (hraise.trans hl), roleOf_of_none hx]; rfl
    | cons r rest => rw [holdOf_of_cons hl, holdOf_of_cons (hraise.trans hl)]

/-- A state that is no role gives way to another without a change of the role held. -/
theorem holdOf_of_nonrole {x y : SrcState} (hx : x.isRole = false) (hy : y.isRole = false) (l : List Report) :
    holdOf x l = holdOf y l := by
  unfold holdOf
  rw [roleOf_of_none hx, roleOf_of_none hy]

theorem singleOf_of_nonrole {x y : SrcState} {l : List Report} (h : SingleOf x l) (hy : y.isRole = false) : SingleOf y l :=
  ⟨h.1, fun _ => hy⟩

/-! A role change (R11, R12) -/

theorem reports_setRole (i j : Src) (role : SrcState) (s : State) : (s.setRole i role).zc.reports.get j =
    if j = i then
      if (s.source i).state.usable = true then (s.zc.reports.get i).map Report.settled
      else shiftReports role (s.zc.reports.get i)
    else s.zc.reports.get j := by
  unfold State.setRole
  split_ifs <;> simp [*]

/-- The state of every source after a role change. -/
theorem state_setRole_eq (i j : Src) (role : SrcState) (s : State) : ((s.setRole i role).source j).state =
    if j = i ∧ (s.source i).state.usable = true then role else (s.source j).state := by
  by_cases hu : (s.source i).state.usable = true
  · by_cases hj : j = i
    · subst hj; rw [if_pos ⟨rfl, hu⟩, state_setRole j role s hu]
    · rw [if_neg (by simp [hj]), source_setRole_ne i j role s hj]
  · rw [if_neg (by simp [hu]), source_setRole_lost i role s (by simpa using hu)]

theorem hold_setRole_ne {i j : Src} (h : j ≠ i) (role : SrcState) (s : State) : (s.setRole i role).hold j = s.hold j :=
  hold_congr (by rw [state_setRole_eq, if_neg (by simp [h])]) (by rw [reports_setRole, if_neg h])

/-- A source that is not WARM or in a role holds none by its state. -/
theorem nonrole_of_unusable {x : SrcState} (h : x.usable = false) : x.isRole = false := by
  cases hx : x.isRole with
  | false => rfl
  | true => rw [usable_of_isRole hx] at h; cases h

/-- A source that is known to the zoom controller takes the role given to it, by its state or by its report. -/
theorem hold_setRole {i : Src} {role : SrcState} (hr : role.isRole = true)
    (hk : (s.source i).state.usable = true ∨ s.zc.reports.get i ≠ []) : (s.setRole i role).hold i = some role := by
  unfold State.hold
  rw [state_setRole_eq, reports_setRole]
  cases hu : (s.source i).state.usable with
  | true =>
    simp only [and_self, if_true]
    rw [holdOf_of_nil (roleNames_settled _), roleOf_of_role hr]
  | false =>
    obtain ⟨x, hx⟩ : ∃ x, (s.zc.reports.get i).getLast? = some x :=
      ⟨_, List.getLast?_eq_some_getLast (hk.resolve_left (by simp [hu]))⟩
    have hnames := roleNames_shift role (s.zc.reports.get i)
    rw [hr, hx] at hnames
    simp only [if_true, Bool.false_eq_true, if_false]
    exact holdOf_of_cons hnames

/-- A source made WARM holds no role. -/
theorem hold_setRole_warm (i : Src) (s : State) : (s.setRole i .warm).hold i = none := by
  unfold State.hold
  rw [state_setRole_eq, reports_setRole]
  cases hu : (s.source i).state.usable with
  | true =>
    simp only [and_self, if_true]
    rw [holdOf_of_nil (roleNames_settled _)]; rfl
  | false =>
    simp only [and_false, if_true, if_false, Bool.false_eq_true]
    rw [holdOf_of_nil (by rw [roleNames_shift]; rfl), roleOf_of_none (nonrole_of_unusable hu)]

theorem single_setRole {j : Src} (h : s.Single j) (i : Src) (role : SrcState) : (s.setRole i role).Single j := by
  unfold State.Single
  rw [state_setRole_eq, reports_setRole]
  by_cases hj : j = i
  · subst hj
    cases hu : (s.source j).state.usable with
    | true =>
      simp only [and_self, if_true]
      exact singleOf_of_nil (roleNames_settled _)
    | false =>
      simp only [and_false, if_true, if_false, Bool.false_eq_true]
      refine ⟨?_, fun _ => nonrole_of_unusable hu⟩
      rw [roleNames_shift]
      split_ifs
      · cases (s.zc.reports.get j).getLast? <;> simp
      · simp
  · rw [if_neg (by simp [hj]), if_neg hj]
    exact h

/-- The reports after a role change stand for those before it, with the changes that spoiled them. -/
theorem spoiled_setRole {i j : Src} {role : SrcState} {x : Report} (h : x ∈ (s.setRole i role).zc.reports.get j) :
    ∃ y ∈ s.zc.reports.get j, x.spoiled = y.spoiled := by
  rw [reports_setRole] at h
  split_ifs at h with hj hu
  · subst hj
    obtain ⟨y, hy, rfl⟩ := List.mem_map.mp h
    exact ⟨y, hy, rfl⟩
  · subst hj; exact mem_shift h
  · exact ⟨x, h, rfl⟩

end Sys2Proof.Machine
end

section
/-! SUPPORT. The law of the picture by the roles held, and what the operations of hand-off and rescue keep of it. -/

namespace Sys2Proof.Machine

variable {s t : State}

/-! The law of the picture by the roles held -/

/-- One source is PRIMARY, and no other is in the picture. -/
def Solo (p : Src) (hold : Src → Option SrcState) : Prop := hold p = some .primary ∧ ∀ i, i ≠ p → hold i = none

/-- The pair of a blend. -/
def Duo (giver taker : Src) (hold : Src → Option SrcState) : Prop :=
  hold giver = some .outgoing ∧ hold taker = some .incoming ∧ ∀ i, i ≠ giver → i ≠ taker → hold i = none

/-- No source is in the picture. -/
def Vacant (hold : Src → Option SrcState) : Prop := ∀ i, hold i = none

/-- The law of the picture, by the roles held. -/
structure Scene (s : State) : Prop where
  single : ∀ i, s.Single i
  quiet : s.cp.sub ≠ .running → Vacant s.hold
  lone : s.cp.sub = .running → ¬ s.Blending → ∃ p, Solo p s.hold
  blend : ∀ r, s.zc.record = some r → r.phase = .blending →
    s.cp.sub = .running ∧ r.kind ≠ .rescue ∧ r.giver ≠ r.taker ∧ Duo r.giver r.taker s.hold
  handoff : ∀ r, s.zc.record = some r → r.kind ≠ .rescue → r.phase ≠ .blending →
    s.cp.sub = .running ∧ r.giver ≠ r.taker ∧ s.hold r.giver = some .primary
  rescue : ∀ r, s.zc.record = some r → r.kind = .rescue →
    (s.cp.sub = .starting ∨ s.cp.sub = .frozen) ∧ r.giver ≠ r.taker ∧ r.phase = .armed
  matching : ∀ r, s.zc.record = some r → r.phase = .matching →
    (s.source r.taker).state = .warm ∨ ((s.source r.taker).state = .fault ∧ s.zc.reports.get r.taker ≠ [])
  spoiled : ∀ i, ∀ x ∈ s.zc.reports.get i, ∀ y, x.spoiled = some y → y.change ≠ .rescue ∧ y.record.giver ≠ y.record.taker ∧
    (i = y.record.giver ∨ (i = y.record.taker ∧ x.role = .primary ∧ s.zc.record = none ∧ s.cp.sub = .running))
  waiting : s.cp.pendingPrimary.isSome = true → s.cp.sub = .starting ∧ s.zc.record = none
  rungs : ∀ l, s.zc.ladder = some l → (l.map Rung.source).Nodup

theorem pictureLaw_iff : PictureLaw s ↔ Scene s := by
  have hprimary (i : Src) : s.belief i = .primary ↔ s.hold i = some .primary := belief_eq_iff rfl
  have houtgoing (i : Src) : s.belief i = .outgoing ↔ s.hold i = some .outgoing := belief_eq_iff rfl
  have hincoming (i : Src) : s.belief i = .incoming ↔ s.hold i = some .incoming := belief_eq_iff rfl
  have hnone (i : Src) : s.believed i = false ↔ s.hold i = none := believed_eq_false_iff
  constructor
  · intro h
    refine ⟨h.single, fun hs i => (hnone i).mp (h.quiet hs i), fun hs hb => ?_, fun r hr hp => ?_, fun r hr hk hp => ?_,
      h.rescue, h.matching, h.spoiled, h.waiting, h.rungs⟩
    · obtain ⟨p, hp, hothers⟩ := h.lone hs hb
      exact ⟨p, (hprimary p).mp hp, fun i hi => (hnone i).mp (hothers i hi)⟩
    · obtain ⟨hsub, hk, hne, hg, ht, hothers⟩ := h.blend r hr hp
      exact ⟨hsub, hk, hne, (houtgoing _).mp hg, (hincoming _).mp ht, fun i hg ht => (hnone i).mp (hothers i hg ht)⟩
    · obtain ⟨hsub, hne, hg⟩ := h.handoff r hr hk hp
      exact ⟨hsub, hne, (hprimary _).mp hg⟩
  · intro h
    refine ⟨h.single, fun hs i => (hnone i).mpr (h.quiet hs i), fun hs hb => ?_, fun r hr hp => ?_, fun r hr hk hp => ?_,
      h.rescue, h.matching, h.spoiled, h.waiting, h.rungs⟩
    · obtain ⟨p, hp, hothers⟩ := h.lone hs hb
      exact ⟨p, (hprimary p).mpr hp, fun i hi => (hnone i).mpr (hothers i hi)⟩
    · obtain ⟨hsub, hk, hne, hg, ht, hothers⟩ := h.blend r hr hp
      exact ⟨hsub, hk, hne, (houtgoing _).mpr hg, (hincoming _).mpr ht, fun i hg ht => (hnone i).mpr (hothers i hg ht)⟩
    · obtain ⟨hsub, hne, hg⟩ := h.handoff r hr hk hp
      exact ⟨hsub, hne, (hprimary _).mpr hg⟩

theorem vacant_ne {hold : Src → Option SrcState} (h : Vacant hold) {i : Src} {x : SrcState} : hold i ≠ some x := by
  rw [h i]; exact Option.some_ne_none x |>.symm

/-! What holds behind every scene -/

/-- What holds on the way from one picture to the next: single reports, changes that only a giver spoiled, a ladder of
distinct sources, and a pending primary in STARTING only. -/
structure Backstage (s : State) : Prop where
  single : ∀ i, s.Single i
  plain : ∀ i, ∀ x ∈ s.zc.reports.get i, ∀ y, x.spoiled = some y →
    y.change ≠ .rescue ∧ y.record.giver ≠ y.record.taker ∧ i = y.record.giver
  rungs : ∀ l, s.zc.ladder = some l → (l.map Rung.source).Nodup
  waiting : s.cp.pendingPrimary.isSome = true → s.cp.sub = .starting

/-- The picture is that of one source, with no record. -/
theorem scene_solo (b : Backstage t) (hsub : t.cp.sub = .running) (hrec : t.zc.record = none) {p : Src}
    (h : Solo p t.hold) : Scene t where
  single := b.single
  quiet := fun hn => absurd hsub hn
  lone := fun _ _ => ⟨p, h⟩
  blend := by rw [hrec]; rintro _ ⟨⟩
  handoff := by rw [hrec]; rintro _ ⟨⟩
  rescue := by rw [hrec]; rintro _ ⟨⟩
  matching := by rw [hrec]; rintro _ ⟨⟩
  spoiled := fun i x hx y hy => by
    obtain ⟨hc, hne, hi⟩ := b.plain i x hx y hy
    exact ⟨hc, hne, .inl hi⟩
  waiting := fun hp => ⟨b.waiting hp, hrec⟩
  rungs := b.rungs

/-- No source is in the picture, and no record stands. -/
theorem scene_vacant (b : Backstage t) (hsub : t.cp.sub ≠ .running) (hrec : t.zc.record = none)
    (h : Vacant t.hold) : Scene t where
  single := b.single
  quiet := fun _ => h
  lone := fun hs => absurd hs hsub
  blend := by rw [hrec]; rintro _ ⟨⟩
  handoff := by rw [hrec]; rintro _ ⟨⟩
  rescue := by rw [hrec]; rintro _ ⟨⟩
  matching := by rw [hrec]; rintro _ ⟨⟩
  spoiled := fun i x hx y hy => by
    obtain ⟨hc, hne, hi⟩ := b.plain i x hx y hy
    exact ⟨hc, hne, .inl hi⟩
  waiting := fun hp => ⟨b.waiting hp, hrec⟩
  rungs := b.rungs

/-- No source is in the picture while a rescue waits for its target. -/
theorem scene_rescuing (b : Backstage t) (hsub : t.cp.sub = .starting ∨ t.cp.sub = .frozen) {r : Transition}
    (hrec : t.zc.record = some r) (hk : r.kind = .rescue) (hp : r.phase = .armed) (hne : r.giver ≠ r.taker)
    (hpend : t.cp.pendingPrimary = none) (h : Vacant t.hold) : Scene t where
  single := b.single
  quiet := fun _ => h
  lone := fun hs => by rw [hs] at hsub; rcases hsub with hs | hs <;> cases hs
  blend := by rw [hrec]; rintro _ ⟨⟩ hb; rw [hp] at hb; cases hb
  handoff := by rw [hrec]; rintro _ ⟨⟩ hn; exact absurd hk hn
  rescue := by rw [hrec]; rintro _ ⟨⟩ _; exact ⟨hsub, hne, hp⟩
  matching := by rw [hrec]; rintro _ ⟨⟩ hm; rw [hp] at hm; cases hm
  spoiled := fun i x hx y hy => by
    obtain ⟨hc, hne, hi⟩ := b.plain i x hx y hy
    exact ⟨hc, hne, .inl hi⟩
  waiting := by rw [hpend]; rintro ⟨⟩
  rungs := b.rungs

/-- An UP or DOWN record stands before its blend. -/
theorem scene_handing (b : Backstage t) (hsub : t.cp.sub = .running) {r : Transition} (hrec : t.zc.record = some r)
    (hk : r.kind ≠ .rescue) (hp : r.phase ≠ .blending) (hne : r.giver ≠ r.taker) (h : Solo r.giver t.hold)
    (hm : r.phase = .matching → (t.source r.taker).state = .warm ∨
      ((t.source r.taker).state = .fault ∧ t.zc.reports.get r.taker ≠ [])) : Scene t where
  single := b.single
  quiet := fun hn => absurd hsub hn
  lone := fun _ _ => ⟨_, h⟩
  blend := by rw [hrec]; rintro _ ⟨⟩ hb; exact absurd hb hp
  handoff := by rw [hrec]; rintro _ ⟨⟩ _ _; exact ⟨hsub, hne, h.1⟩
  rescue := by rw [hrec]; rintro _ ⟨⟩ hr; exact absurd hr hk
  matching := by rw [hrec]; rintro _ ⟨⟩; exact hm
  spoiled := fun i x hx y hy => by
    obtain ⟨hc, hne, hi⟩ := b.plain i x hx y hy
    exact ⟨hc, hne, .inl hi⟩
  waiting := fun hpend => by have hw := b.waiting hpend; rw [hsub] at hw; cases hw
  rungs := b.rungs

/-- A blend runs. -/
theorem scene_blending (b : Backstage t) (hsub : t.cp.sub = .running) {r : Transition} (hrec : t.zc.record = some r)
    (hk : r.kind ≠ .rescue) (hp : r.phase = .blending) (hne : r.giver ≠ r.taker) (h : Duo r.giver r.taker t.hold) :
    Scene t where
  single := b.single
  quiet := fun hn => absurd hsub hn
  lone := fun _ hb => absurd ⟨r, hrec, hp⟩ hb
  blend := by rw [hrec]; rintro _ ⟨⟩ _; exact ⟨hsub, hk, hne, h⟩
  handoff := by rw [hrec]; rintro _ ⟨⟩ _ hn; exact absurd hp hn
  rescue := by rw [hrec]; rintro _ ⟨⟩ hr; exact absurd hr hk
  matching := by rw [hrec]; rintro _ ⟨⟩ hm; rw [hp] at hm; cases hm
  spoiled := fun i x hx y hy => by
    obtain ⟨hc, hne, hi⟩ := b.plain i x hx y hy
    exact ⟨hc, hne, .inl hi⟩
  waiting := fun hpend => by have hw := b.waiting hpend; rw [hsub] at hw; cases hw
  rungs := b.rungs

/-- Behind a picture in which no report of a taker spoils a change: with a record, outside RUNNING, or with no lost
primary. -/
theorem Scene.backstage (h : Scene s) (hn : s.zc.record ≠ none ∨ s.cp.sub ≠ .running ∨
    ∀ i, ∀ x ∈ s.zc.reports.get i, x.role = .primary → x.spoiled = none) : Backstage s where
  single := h.single
  plain := fun i x hx y hy => by
    obtain ⟨hc, hne, hi | ⟨_, hrole, hrec, hsub⟩⟩ := h.spoiled i x hx y hy
    · exact ⟨hc, hne, hi⟩
    · rcases hn with hn | hn | hn
      · exact absurd hrec hn
      · exact absurd hsub hn
      · rw [hn i x hx hrole] at hy; cases hy
  rungs := h.rungs
  waiting := fun hp => (h.waiting hp).1

/-! Operations that leave the roles held -/

/-- `t` has the sources, the reports and the ladder of `s`, but for states that are no role in the picture. -/
structure SameStage (s t : State) : Prop where
  state : ∀ i, (t.source i).state = (s.source i).state ∨
    ((s.source i).state.isRole = false ∧ (t.source i).state.isRole = false)
  reports : t.zc.reports = s.zc.reports
  ladder : t.zc.ladder = s.zc.ladder

theorem SameStage.of_state (hstate : ∀ i, (t.source i).state = (s.source i).state) (hrep : t.zc.reports = s.zc.reports)
    (hl : t.zc.ladder = s.zc.ladder) : SameStage s t := ⟨fun i => .inl (hstate i), hrep, hl⟩

theorem SameStage.hold (h : SameStage s t) (i : Src) : t.hold i = s.hold i := by
  unfold State.hold
  rw [h.reports]
  rcases h.state i with hs | ⟨hs, ht⟩
  · rw [hs]
  · exact holdOf_of_nonrole ht hs _

theorem SameStage.single (h : SameStage s t) {i : Src} (hs : s.Single i) : t.Single i := by
  unfold State.Single
  rw [h.reports]
  rcases h.state i with he | ⟨_, ht⟩
  · rw [he]; exact hs
  · exact singleOf_of_nonrole hs ht

theorem SameStage.backstage (h : SameStage s t) (b : Backstage s)
    (hw : t.cp.pendingPrimary.isSome = true → t.cp.sub = .starting) : Backstage t where
  single := fun i => h.single (b.single i)
  plain := by rw [h.reports]; exact b.plain
  rungs := by rw [h.ladder]; exact b.rungs
  waiting := hw

theorem SameStage.vacant (h : SameStage s t) (hs : Vacant s.hold) : Vacant t.hold := fun i => (h.hold i).trans (hs i)

theorem SameStage.solo (h : SameStage s t) {p : Src} (hs : Solo p s.hold) : Solo p t.hold :=
  ⟨(h.hold p).trans hs.1, fun i hi => (h.hold i).trans (hs.2 i hi)⟩

@[simp] theorem record_removeRecord (s : State) : s.removeRecord.zc.record = none := by
  unfold State.removeRecord
  split
  next h => exact h
  next => simp

@[simp] theorem record_createRecord (r : Transition) (s : State) : (s.createRecord r).zc.record = some r := by
  simp [State.createRecord]

@[simp] theorem pendingPrimary_dropPending (s : State) : s.dropPending.cp.pendingPrimary = none := by
  unfold State.dropPending
  split
  next h => exact h
  · rfl

theorem state_stopIdle (i j : Src) (s : State) : ((s.stopIdle i).source j).state = (s.source j).state := by
  rw [source_stopIdle]
  split
  next h => rw [h]
  next => rfl

theorem state_restartIdle (i j : Src) (s : State) : ((s.restartIdle i).source j).state = (s.source j).state := by
  rw [source_restartIdle]
  split
  next h => rw [h]
  next => rfl

theorem state_removeRecord (j : Src) (s : State) : (s.removeRecord.source j).state = (s.source j).state := by
  unfold State.removeRecord
  split
  · rfl
  · rw [state_restartIdle]; rfl

theorem state_createRecord (r : Transition) (j : Src) (s : State) :
    ((s.createRecord r).source j).state = (s.source j).state := by
  rw [State.createRecord, state_stopIdle, source_setRecord, state_removeRecord]

theorem state_dropPending (j : Src) (s : State) : (s.dropPending.source j).state = (s.source j).state := by
  unfold State.dropPending
  split
  · rfl
  · rw [state_restartIdle]; rfl

/-- A wake takes a PARKED source to WAKING, and changes no other. -/
theorem state_wake (purpose : Purpose) (i j : Src) (s : State) : ((s.wake purpose i).source j).state = (s.source j).state ∨
    (s.source j).state = .parked ∧ ((s.wake purpose i).source j).state = .waking := by
  rw [source_wake]
  split_ifs with h
  · obtain ⟨rfl, hp, _⟩ := h
    exact .inr ⟨hp, rfl⟩
  · exact .inl rfl

theorem sameStage_removeRecord (s : State) : SameStage s s.removeRecord :=
  .of_state (state_removeRecord · s) (by simp) (by simp)

theorem sameStage_createRecord (r : Transition) (s : State) : SameStage s (s.createRecord r) :=
  .of_state (state_createRecord r · s) (by simp) (by simp)

theorem sameStage_dropPending (s : State) : SameStage s s.dropPending :=
  .of_state (state_dropPending · s) (by simp) (by simp)

theorem sameStage_wake (purpose : Purpose) (i : Src) (s : State) : SameStage s (s.wake purpose i) := by
  refine ⟨fun j => (state_wake purpose i j s).imp_right fun ⟨hs, ht⟩ => ?_, by simp, by simp⟩
  rw [hs, ht]
  exact ⟨rfl, rfl⟩

theorem SameStage.trans {u : State} (h : SameStage s t) (k : SameStage t u) : SameStage s u where
  state := fun i => by
    rcases h.state i with hst | ⟨hs, ht⟩ <;> rcases k.state i with htu | ⟨ht', hu⟩
    · exact .inl (htu.trans hst)
    · exact .inr ⟨hst ▸ ht', hu⟩
    · exact .inr ⟨hs, htu ▸ ht⟩
    · exact .inr ⟨hs, hu⟩
  reports := k.reports.trans h.reports
  ladder := k.ladder.trans h.ladder

/-! Role changes behind the scene -/

theorem Backstage.setRole (b : Backstage s) (i : Src) (role : SrcState) : Backstage (s.setRole i role) where
  single := fun j => single_setRole (b.single j) i role
  plain := fun j x hx y hy => by
    obtain ⟨z, hz, heq⟩ := spoiled_setRole hx
    exact b.plain j z hz y (heq ▸ hy)
  rungs := by simpa using b.rungs
  waiting := by simpa using b.waiting

/-- A known source that takes the role of the primary, where no other is in the picture. -/
theorem solo_setRole {p : Src} (hs : ∀ i, i ≠ p → s.hold i = none)
    (hk : (s.source p).state.usable = true ∨ s.zc.reports.get p ≠ []) : Solo p (s.setRole p .primary).hold :=
  ⟨hold_setRole rfl hk, fun i hi => (hold_setRole_ne hi .primary s).trans (hs i hi)⟩

end Sys2Proof.Machine
end

section
/-! SUPPORT. The law of the picture through rescue, hand-off and the handling of fault reports (R87 to R110). -/

namespace Sys2Proof.Machine

variable {s t : State}

/-! Transport of the law -/

/-- The law moves along changes that leave the roles held, where no new report spoils a change, and a MATCHING target stays
WARM or in FAULT. -/
theorem Scene.alongReports (h : Scene s) (hhold : t.hold = s.hold) (hsingle : ∀ i, t.Single i)
    (hmem : ∀ i, ∀ x ∈ t.zc.reports.get i, x ∈ s.zc.reports.get i ∨ x.spoiled = none)
    (hl : t.zc.ladder = s.zc.ladder) (hrec : t.zc.record = s.zc.record) (hsub : t.cp.sub = s.cp.sub)
    (hpend : t.cp.pendingPrimary = s.cp.pendingPrimary)
    (hm : ∀ r, s.zc.record = some r → r.phase = .matching →
      (t.source r.taker).state = .warm ∨ ((t.source r.taker).state = .fault ∧ t.zc.reports.get r.taker ≠ [])) : Scene t where
  single := hsingle
  quiet := by rw [hsub, hhold]; exact h.quiet
  lone := by rw [hsub, hhold, State.Blending, hrec]; exact h.lone
  blend := by rw [hrec, hsub, hhold]; exact h.blend
  handoff := by rw [hrec, hsub, hhold]; exact h.handoff
  rescue := by rw [hrec, hsub]; exact h.rescue
  matching := by rw [hrec]; exact hm
  spoiled := by
    rw [hrec, hsub]
    intro i x hx y hy
    rcases hmem i x hx with hx | hn
    · exact h.spoiled i x hx y hy
    · rw [hn] at hy; cases hy
  waiting := by rw [hrec, hsub, hpend]; exact h.waiting
  rungs := by rw [hl]; exact h.rungs

/-- The law moves along changes that leave the roles and the reports. -/
theorem Scene.along (h : Scene s) (k : SameStage s t) (hrec : t.zc.record = s.zc.record) (hsub : t.cp.sub = s.cp.sub)
    (hpend : t.cp.pendingPrimary = s.cp.pendingPrimary)
    (hm : ∀ r, s.zc.record = some r → r.phase = .matching →
      (t.source r.taker).state = .warm ∨ ((t.source r.taker).state = .fault ∧ s.zc.reports.get r.taker ≠ [])) : Scene t :=
  h.alongReports (funext k.hold) (fun i => k.single (h.single i)) (fun i x hx => .inl (by rwa [k.reports] at hx)) k.ladder
    hrec hsub hpend (by rw [k.reports]; exact hm)

/-- The law does not speak of what leaves every state. -/
theorem Scene.same (h : Scene s) (hstate : ∀ i, (t.source i).state = (s.source i).state)
    (hrep : t.zc.reports = s.zc.reports) (hl : t.zc.ladder = s.zc.ladder) (hrec : t.zc.record = s.zc.record)
    (hsub : t.cp.sub = s.cp.sub) (hpend : t.cp.pendingPrimary = s.cp.pendingPrimary) : Scene t :=
  h.along (.of_state hstate hrep hl) hrec hsub hpend fun r hr hp => by rw [hstate]; exact h.matching r hr hp

theorem Scene.sameParts (h : Scene s) (hsrc : t.sources = s.sources) (hzc : t.zc = s.zc)
    (hsub : t.cp.sub = s.cp.sub) (hpend : t.cp.pendingPrimary = s.cp.pendingPrimary) : Scene t :=
  h.same (fun i => by rw [source_congr _ _ hsrc]) (by rw [hzc]) (by rw [hzc]) (by rw [hzc]) hsub hpend

theorem Scene.post (h : Scene s) (source : Option Src) (p : Payload) : Scene (s.post source p) :=
  h.sameParts rfl rfl rfl rfl

theorem Scene.postDone (h : Scene s) (r : Transition) (mode : HandMode) (time : Time) : Scene (s.postDone r mode time) :=
  h.post ..

theorem Scene.setShown (h : Scene s) (z : Nat) : Scene (s.setShown z) := h.same (fun _ => rfl) rfl rfl rfl rfl rfl

/-- A wake acts on a PARKED source, which is no MATCHING target. -/
theorem Scene.wake (h : Scene s) (purpose : Purpose) (i : Src) : Scene (s.wake purpose i) := by
  refine h.along (sameStage_wake purpose i s) (by simp) (by simp) (by simp) fun r hr hp => ?_
  have hm := h.matching r hr hp
  rcases state_wake purpose i r.taker s with heq | ⟨hpark, _⟩
  · rw [heq]; exact hm
  · rw [hpark] at hm
    rcases hm with hm | ⟨hm, _⟩ <;> cases hm

/-- A record that is not in BLENDING may go: the picture stands without it. -/
theorem Scene.removeRecord (h : Scene s) (hb : ¬ s.Blending) : Scene s.removeRecord := by
  have k := sameStage_removeRecord s
  constructor
  case single => exact fun i => k.single (h.single i)
  case quiet => exact fun hn => k.vacant (h.quiet (by simpa using hn))
  case lone => exact fun hs _ => (h.lone (by simpa using hs) hb).imp fun _ => k.solo
  case spoiled =>
    rw [k.reports]
    intro i x hx y hy
    obtain ⟨hc, hne, hi⟩ := h.spoiled i x hx y hy
    exact ⟨hc, hne, hi.imp_right fun ⟨ht, hrole, _, hs⟩ => ⟨ht, hrole, by simp, by simpa using hs⟩⟩
  case waiting => exact fun hp => ⟨(h.waiting (by simpa using hp)).1 ▸ by simp, by simp⟩
  case rungs => rw [k.ladder]; exact h.rungs
  all_goals
    intro r hr
    simp at hr

/-! The neighbours of a source on the ladder -/

theorem lowerOf_ne {p q : Src} (h : s.lowerOf p = some q) : q ≠ p := by
  unfold State.lowerOf at h
  split at h
  · cases h
  next l _ =>
    split at h
    next k hk =>
      obtain ⟨r, hr, rfl⟩ := Option.map_eq_some_iff.mp h
      obtain ⟨_, _, hbefore⟩ := List.findIdx?_eq_some_iff_getElem.mp hk
      obtain ⟨hlt, hget⟩ := List.getElem?_eq_some_iff.mp hr
      have hn := hbefore k (Nat.lt_succ_self k)
      rw [hget] at hn
      simpa using hn
    · cases h

theorem upperOf_ne (hr : ∀ l, s.zc.ladder = some l → (l.map Rung.source).Nodup) {p q : Src} (h : s.upperOf p = some q) :
    q ≠ p := by
  unfold State.upperOf at h
  split at h
  · cases h
  next l hl =>
    obtain ⟨k, hk, h⟩ := Option.bind_eq_some_iff.mp h
    obtain ⟨r, hr', rfl⟩ := Option.map_eq_some_iff.mp h
    obtain ⟨hlt, hat, _⟩ := List.findIdx?_eq_some_iff_getElem.mp hk
    obtain ⟨hlt', hget⟩ := List.getElem?_eq_some_iff.mp hr'
    intro heq
    have hsame : (l.map Rung.source)[k]'(by simpa using hlt) = (l.map Rung.source)[k + 1]'(by simpa using hlt') := by
      simp only [List.getElem_map, hget, heq]
      simpa using hat
    have hidx := (List.Nodup.getElem_inj_iff (hr l hl)).mp hsame
    omega

theorem candidate_eq_some {test : SrcState → Bool} {o : Option Src} {i : Src} (h : s.candidate test o = some i) :
    o = some i ∧ test (s.source i).state = true := by
  cases o with
  | none => cases h
  | some j =>
    simp only [State.candidate] at h
    split_ifs at h with ht
    cases h
    exact ⟨rfl, ht⟩

/-- A neighbour that passes a test is adjacent, and another source (R105, R106). -/
theorem neighbour_eq_some (hr : ∀ l, s.zc.ladder = some l → (l.map Rung.source).Nodup) {p q : Src}
    {test : SrcState → Bool} (h : s.neighbour p test = some q) : q ≠ p ∧ test (s.source q).state = true := by
  unfold State.neighbour at h
  split at h
  next j hj =>
    cases h
    obtain ⟨hl, ht⟩ := candidate_eq_some hj
    exact ⟨lowerOf_ne hl, ht⟩
  next =>
    obtain ⟨hu, ht⟩ := candidate_eq_some h
    exact ⟨upperOf_ne hr hu, ht⟩

theorem otherAdjacent_ne (hr : ∀ l, s.zc.ladder = some l → (l.map Rung.source).Nodup) {p q tried : Src}
    (h : s.otherAdjacent p tried = some q) : q ≠ p := by
  unfold State.otherAdjacent at h
  split_ifs at h
  · exact upperOf_ne hr h
  · exact lowerOf_ne h

/-! Rescue -/

theorem Backstage.sameParts (b : Backstage s) (hsrc : t.sources = s.sources) (hzc : t.zc.reports = s.zc.reports)
    (hl : t.zc.ladder = s.zc.ladder) (hw : t.cp.pendingPrimary.isSome = true → t.cp.sub = .starting) : Backstage t :=
  (SameStage.of_state (fun i => by rw [source_congr _ _ hsrc]) hzc hl).backstage b hw

theorem Backstage.post (b : Backstage s) (source : Option Src) (p : Payload) : Backstage (s.post source p) :=
  b.sameParts rfl rfl rfl b.waiting

theorem Backstage.removeRecord (b : Backstage s) : Backstage s.removeRecord :=
  (sameStage_removeRecord s).backstage b (by simpa using b.waiting)

theorem Backstage.createRecord (b : Backstage s) (r : Transition) : Backstage (s.createRecord r) :=
  (sameStage_createRecord r s).backstage b (by simpa using b.waiting)

theorem Backstage.wake (b : Backstage s) (purpose : Purpose) (i : Src) : Backstage (s.wake purpose i) :=
  (sameStage_wake purpose i s).backstage b (by simpa using b.waiting)

theorem Backstage.setRecord (b : Backstage s) (r : Option Transition) : Backstage (s.setRecord r) :=
  b.sameParts rfl rfl rfl b.waiting

theorem hold_removeRecord (s : State) : s.removeRecord.hold = s.hold := funext (sameStage_removeRecord s).hold

theorem hold_createRecord (r : Transition) (s : State) : (s.createRecord r).hold = s.hold :=
  funext (sameStage_createRecord r s).hold

theorem hold_wake (purpose : Purpose) (i : Src) (s : State) : (s.wake purpose i).hold = s.hold :=
  funext (sameStage_wake purpose i s).hold

theorem lost_eq_false {i : Src} (h : (s.source i).state.usable = true) : s.lost i = false := by simp [State.lost, h]

/-- A rescue passes the picture of a vacant scene to a source in power (R105, R107 to R109). -/
theorem scene_rescueTo (b : Backstage s) (hv : Vacant s.hold) (hrec : s.zc.record = none) {r : Transition}
    (hu : (s.source r.taker).state.usable = true) : Scene (s.rescueTo r) := by
  have k : SameStage s (s.dropPending.setSub .running) :=
    .of_state (fun i => by rw [source_setSub, state_dropPending]) (by simp) (by simp)
  have hb : Backstage (s.dropPending.setSub .running) := k.backstage b (by simp)
  have hsolo : Solo r.taker ((s.dropPending.setSub .running).setRole r.taker .primary).hold :=
    solo_setRole (fun i _ => k.vacant hv i) (.inl (by rw [source_setSub, state_dropPending]; exact hu))
  have hscene : Scene ((s.dropPending.setSub .running).setRole r.taker .primary) :=
    scene_solo (hb.setRole ..) (by simp) (by simpa using hrec) hsolo
  unfold State.rescueTo
  rw [if_neg (by simp [lost_eq_false hu])]
  exact (hscene.setShown _).postDone ..

theorem scene_giveUp (b : Backstage s) (hv : Vacant s.hold) (hrec : s.zc.record = none) (p : Src) : Scene (s.giveUp p) := by
  have k : SameStage s (s.giveUp p) :=
    .of_state (fun i => by rw [State.giveUp, source_congr (s.dropPending.setSub .frozen) _ (by simp), source_setSub, state_dropPending])
      (by simp [State.giveUp]) (by simp)
  exact scene_vacant (k.backstage b (by simp [State.giveUp])) (by simp [State.giveUp]) (by simpa [State.giveUp] using hrec)
    (k.vacant hv)

theorem usable_of_isWarm {x : SrcState} (h : x.isWarm = true) : x.usable = true := by
  have hx : x = .warm := by simpa [SrcState.isWarm] using h
  rw [hx]; rfl

theorem scene_freezeFor (b : Backstage s) (hv : Vacant s.hold) {r : Transition} (hrec : s.zc.record = some r)
    (hk : r.kind = .rescue) (hp : r.phase = .armed) (hne : r.giver ≠ r.taker) (faulted target : Src) :
    Scene (s.freezeFor faulted target) := by
  unfold State.freezeFor
  split_ifs with hs
  · have k := sameStage_dropPending s
    exact scene_rescuing (k.backstage b (by simp)) (.inl (by simpa using hs)) (by simpa using hrec) hk hp hne (by simp)
      (k.vacant hv)
  · have hpend : s.cp.pendingPrimary = none := by
      cases hpend : s.cp.pendingPrimary with
      | none => rfl
      | some q => exact absurd (b.waiting (by rw [hpend]; rfl)) hs
    have hb : Backstage ((s.setSub .frozen).postFrozen faulted (some target)) :=
      b.sameParts (by simp) (by simp) (by simp) (by simp [hpend])
    exact scene_rescuing hb (.inr (by simp)) (by simpa using hrec) hk hp hne (by simpa using hpend)
      fun i => (hold_congr rfl rfl).trans (hv i)

/-- The rescue choice leads from a vacant scene to a picture of the law (R105 to R107). -/
theorem scene_rescue (b : Backstage s) (hv : Vacant s.hold) (hrec : s.zc.record = none) (p : Src) : Scene (s.rescue p) := by
  unfold State.rescue
  split
  next q hq => exact scene_rescueTo b hv hrec (usable_of_isWarm (neighbour_eq_some b.rungs hq).2)
  next =>
    split
    next q hq =>
      refine scene_freezeFor ((b.createRecord _).wake ..) ?_ (r := .fresh .rescue p q s.cp.settings.n) (by simp) rfl rfl
        (neighbour_eq_some b.rungs hq).1.symm p q
      rw [hold_wake, hold_createRecord]
      exact hv
    next => exact scene_giveUp b hv hrec p

theorem scene_rescueFailed (b : Backstage s) (hv : Vacant s.hold) (r : Transition) : Scene (s.rescueFailed r) :=
  scene_giveUp (b.removeRecord.post ..) ((hold_removeRecord s).symm ▸ hv) (by simp) _

theorem scene_retarget (b : Backstage s) (hv : Vacant s.hold) {r : Transition} {q : Src} (hne : q ≠ r.giver)
    (hk : r.kind = .rescue) (hp : r.phase = .armed) (hsub : s.cp.sub = .starting ∨ s.cp.sub = .frozen)
    (hpend : s.cp.pendingPrimary = none) : Scene (s.retarget r q) := by
  have hscene : Scene ((s.createRecord { r with taker := q, retargeted := true }).wake .normal q) := by
    refine scene_rescuing ((b.createRecord _).wake ..) (by simpa using hsub)
      (r := { r with taker := q, retargeted := true }) (by simp) hk hp hne.symm (by simpa using hpend) ?_
    rw [hold_wake, hold_createRecord]
    exact hv
  unfold State.retarget
  dsimp only
  split_ifs
  · exact hscene.post ..
  · exact hscene

theorem scene_removedRescueTo (b : Backstage s) (hv : Vacant s.hold) {r : Transition}
    (hu : (s.source r.taker).state.usable = true) : Scene (s.removeRecord.rescueTo r) := by
  exact scene_rescueTo b.removeRecord ((hold_removeRecord s).symm ▸ hv) (by simp) (by rwa [state_removeRecord])

/-- The other neighbour of a failed rescue target is tried (R109). -/
theorem scene_tryOther (b : Backstage s) (hv : Vacant s.hold) {r : Transition}
    (hk : r.kind = .rescue) (hp : r.phase = .armed) (hsub : s.cp.sub = .starting ∨ s.cp.sub = .frozen)
    (hpend : s.cp.pendingPrimary = none) : Scene (s.tryOther r) := by
  unfold State.tryOther
  split_ifs
  · exact scene_rescueFailed b hv r
  · split
    · exact scene_rescueFailed b hv r
    next q hq =>
      have hne := otherAdjacent_ne b.rungs hq
      split
      next hw => exact scene_removedRescueTo b hv (r := { r with taker := q }) (by rw [hw]; rfl)
      · exact scene_retarget b hv hne hk hp hsub hpend
      · exact scene_retarget b hv hne hk hp hsub hpend
      · exact scene_retarget b hv hne hk hp hsub hpend
      all_goals exact scene_rescueFailed b hv r

theorem scene_primaryFault (b : Backstage s) (hv : Vacant s.hold) (p : Src) : Scene (s.primaryFault p) := by
  unfold State.primaryFault
  split
  next hrec => exact scene_rescue b hv hrec p
  · exact scene_rescue (b.removeRecord.post ..) ((hold_removeRecord s).symm ▸ hv) (by simp) p

end Sys2Proof.Machine
end

section
/-! SUPPORT. The law of the picture through stage 4 of a zoom step and through a tick (R76, R89 to R101, R138, R141). -/

namespace Sys2Proof.Machine

variable {s t : State}

/-! Passing the picture -/

/-- A source the zoom controller can give a role: it is in power for one, or its fault's report is pending. -/
def State.Known (s : State) (i : Src) : Prop := (s.source i).state.usable = true ∨ s.zc.reports.get i ≠ []

theorem known_setRole_ne {i j : Src} (h : j ≠ i) (role : SrcState) : (s.setRole i role).Known j ↔ s.Known j := by
  unfold State.Known
  rw [state_setRole_eq, if_neg (by simp [h]), reports_setRole, if_neg h]

theorem known_removeRecord (i : Src) : s.removeRecord.Known i ↔ s.Known i := by
  unfold State.Known
  rw [state_removeRecord, (sameStage_removeRecord s).reports]

/-- A change that found its source in FAULT goes to the newest report of that source: the giver's, or the taker's, which
stands in the role of the primary (R110). -/
theorem scene_spoil (b : Backstage s) (hsub : s.cp.sub = .running) (hrec : s.zc.record = none) {p : Src}
    (h : Solo p s.hold) {i : Src} {x : Spoiled} (hc : x.change ≠ .rescue) (hne : x.record.giver ≠ x.record.taker)
    (hi : i = x.record.giver ∨ i = x.record.taker ∧ ∀ y, (s.zc.reports.get i).getLast? = some y → y.role = .primary) :
    Scene (s.spoil i x) := by
  have hhold (j : Src) : (s.spoil i x).hold j = s.hold j := by
    unfold State.hold
    rw [source_spoil, reports_spoil]
    split_ifs with hj
    · subst hj; exact holdOf_spoil ..
    · rfl
  constructor
  case single =>
    intro j
    unfold State.Single
    rw [source_spoil, reports_spoil]
    split_ifs with hj
    · subst hj; exact singleOf_spoil (b.single j) x
    · exact b.single j
  case quiet => exact fun hn => absurd hsub hn
  case lone => exact fun _ _ => ⟨p, (hhold p).trans h.1, fun j hj => (hhold j).trans (h.2 j hj)⟩
  case spoiled =>
    intro j y hy z hz
    rw [reports_spoil] at hy
    have hplain (hy : y ∈ s.zc.reports.get j) := b.plain j y hy z hz
    split_ifs at hy with hj
    · subst hj
      rcases mem_spoil hy with hy | ⟨hs, w, hw, hrole⟩
      · obtain ⟨hc, hne, hj⟩ := hplain hy
        exact ⟨hc, hne, .inl hj⟩
      · rw [hs] at hz
        cases hz
        exact ⟨hc, hne, hi.imp_right fun ⟨ht, hlast⟩ => ⟨ht, hrole.trans (hlast w hw), hrec, hsub⟩⟩
    · obtain ⟨hc, hne, hj⟩ := hplain hy
      exact ⟨hc, hne, .inl hj⟩
  case waiting => exact fun hp => ⟨b.waiting hp, hrec⟩
  case rungs => exact b.rungs
  all_goals
    intro r hr
    rw [show (s.spoil i x).zc.record = s.zc.record from rfl, hrec] at hr
    cases hr

theorem usable_of_lost {i : Src} : s.lost i = true ↔ (s.source i).state.usable = false := by simp [State.lost]

/-- The picture passes from the giver to the taker (R97, R100, R110). -/
theorem scene_passPicture (b : Backstage s) (hsub : s.cp.sub = .running) {r : Transition} (hne : r.giver ≠ r.taker)
    (hothers : ∀ i, i ≠ r.giver → i ≠ r.taker → s.hold i = none) (hk : s.Known r.taker) {change : SpoiledChange}
    (hc : change ≠ .rescue) (mode : HandMode) : Scene (s.passPicture r change mode) := by
  have hb : Backstage (s.removeRecord.passRoles r) := (b.removeRecord.setRole ..).setRole ..
  have hrec : (s.removeRecord.passRoles r).zc.record = none := by simp [State.passRoles]
  have hsub' : (s.removeRecord.passRoles r).cp.sub = .running := by simpa [State.passRoles] using hsub
  have hk' : (s.removeRecord.setRole r.giver .warm).Known r.taker :=
    (known_setRole_ne hne.symm _).mpr ((known_removeRecord _).mpr hk)
  have hsolo : Solo r.taker (s.removeRecord.passRoles r).hold := by
    refine solo_setRole (fun i hi => ?_) hk'
    by_cases hg : i = r.giver
    · rw [hg]; exact hold_setRole_warm ..
    · rw [hold_setRole_ne hg, hold_removeRecord]
      exact hothers i hg hi
  have hlast (hl : s.lost r.taker = true) :
      ∀ y, ((s.removeRecord.passRoles r).zc.reports.get r.taker).getLast? = some y → y.role = .primary := by
    intro y hy
    have hunusable : ((s.removeRecord.setRole r.giver .warm).source r.taker).state.usable = false := by
      rw [state_setRole_eq, if_neg (by simp [hne.symm]), state_removeRecord]
      exact usable_of_lost.mp hl
    rw [State.passRoles, reports_setRole, if_pos rfl, if_neg (by simp [hunusable]), getLast?_shift] at hy
    obtain ⟨z, _, rfl⟩ := Option.map_eq_some_iff.mp hy
    rfl
  unfold State.passPicture
  dsimp only
  split_ifs with hl hg
  · exact scene_spoil hb hsub' hrec hsolo hc hne (.inr ⟨rfl, hlast hl⟩)
  · exact scene_spoil hb hsub' hrec hsolo hc hne (.inl rfl)
  · exact (scene_solo hb hsub' hrec hsolo).postDone ..

/-- A blend starts: the giver is OUTGOING and the taker INCOMING (R98). -/
theorem scene_startBlend (b : Backstage s) (hsub : s.cp.sub = .running) {r : Transition} (hkind : r.kind ≠ .rescue)
    (hne : r.giver ≠ r.taker) (hothers : ∀ i, i ≠ r.giver → i ≠ r.taker → s.hold i = none) (hg : s.Known r.giver)
    (ht : s.Known r.taker) : Scene (s.startBlend r) := by
  have hduo : Duo r.giver r.taker ((s.setRole r.giver .outgoing).setRole r.taker .incoming).hold := by
    refine ⟨?_, hold_setRole rfl ((known_setRole_ne hne.symm _).mpr ht), fun i hi hi' => ?_⟩
    · rw [hold_setRole_ne hne]
      exact hold_setRole rfl hg
    · rw [hold_setRole_ne hi', hold_setRole_ne hi]
      exact hothers i hi hi'
  unfold State.startBlend State.advanceBlend
  exact scene_blending (((b.setRole ..).setRole ..).setRecord _) (by simpa using hsub)
    (r := { r with phase := .blending, index := 1 }) rfl hkind rfl hne hduo

/-! The record's work -/

/-- An UP or DOWN record before its blend, with the scene it stands in. -/
structure Handing (s : State) (r : Transition) : Prop where
  backstage : Backstage s
  running : s.cp.sub = .running
  record : s.zc.record = some r
  kind : r.kind ≠ .rescue
  phase : r.phase ≠ .blending
  distinct : r.giver ≠ r.taker
  solo : Solo r.giver s.hold

theorem Scene.handing (h : Scene s) {r : Transition} (hr : s.zc.record = some r) (hk : r.kind ≠ .rescue)
    (hp : r.phase ≠ .blending) : Handing s r := by
  obtain ⟨hsub, hne, hg⟩ := h.handoff r hr hk hp
  have hb : ¬ s.Blending := by
    rintro ⟨q, hq, hqp⟩
    rw [hr] at hq; cases hq
    exact hp hqp
  obtain ⟨p, hsolo⟩ := h.lone hsub hb
  have hpg : p = r.giver := by
    by_contra hn
    rw [hsolo.2 r.giver (Ne.symm hn)] at hg
    cases hg
  exact ⟨h.backstage (.inl (by rw [hr]; exact Option.some_ne_none r)), hsub, hr, hk, hp, hne, hpg ▸ hsolo⟩

theorem Handing.others {r : Transition} (h : Handing s r) : ∀ i, i ≠ r.giver → i ≠ r.taker → s.hold i = none :=
  fun i hi _ => h.solo.2 i hi

theorem Handing.giverKnown {r : Transition} (h : Handing s r) : s.Known r.giver := known_of_hold h.solo.1

theorem Handing.notBlending {r : Transition} (h : Handing s r) : ¬ s.Blending := by
  rintro ⟨q, hq, hqp⟩
  rw [h.record] at hq; cases hq
  exact h.phase hqp

/-- The record replaced by one of the same hand-off. -/
theorem Handing.scene {r q : Transition} (h : Handing s r) (hsame : q.kind = r.kind ∧ q.giver = r.giver ∧ q.taker = r.taker)
    (hp : q.phase ≠ .blending) (hm : q.phase = .matching → (s.source r.taker).state = .warm ∨
      ((s.source r.taker).state = .fault ∧ s.zc.reports.get r.taker ≠ [])) : Scene (s.setRecord (some q)) := by
  obtain ⟨hk, hg, ht⟩ := hsame
  refine scene_handing (h.backstage.setRecord _) h.running (r := q) rfl (hk ▸ h.kind) hp (hg ▸ ht ▸ h.distinct)
    (hg ▸ h.solo) ?_
  rw [ht]
  exact hm

theorem known_of_warm {i : Src} (h : (s.source i).state = .warm) : s.Known i := .inl (by rw [h]; rfl)

/-- The ARMED work (R92). -/
theorem scene_armedWork {r : Transition} (h : Scene s) (hh : Handing s r) : Scene (s.armedWork r) := by
  unfold State.armedWork
  split
  · exact h.wake ..
  next hw =>
    split_ifs
    · exact scene_passPicture hh.backstage hh.running hh.distinct hh.others (known_of_warm hw) (by decide) _
    · exact hh.scene ⟨rfl, rfl, rfl⟩ (by simp) fun _ => .inl hw
  all_goals exact h

/-- A match update replaces the record by one of the same hand-off (R95). -/
theorem Handing.matchUpdate {r q : Transition} (h : Handing s r)
    (hq : q.kind = r.kind ∧ q.giver = r.giver ∧ q.taker = r.taker ∧ q.phase = r.phase) :
    ∃ u, Handing (s.matchUpdate q) u ∧ u.taker = r.taker ∧ u.phase = r.phase := by
  obtain ⟨hk, hg, ht, hp⟩ := hq
  obtain ⟨u, hu, hfrom⟩ := record_matchUpdate q s
  have hu' : u.kind = q.kind ∧ u.giver = q.giver ∧ u.taker = q.taker ∧ u.phase = q.phase := by
    rcases hfrom with rfl | ⟨_, _, _, _, rfl⟩ <;> exact ⟨rfl, rfl, rfl, rfl⟩
  obtain ⟨hk', hg', ht', hp'⟩ := hu'
  have hhold : (s.matchUpdate q).hold = s.hold :=
    funext fun i => hold_congr (by rw [source_congr s _ (by simp)]) (by simp)
  refine ⟨u, ⟨h.backstage.sameParts (by simp) (by simp) (by simp) (by simpa using h.backstage.waiting),
    by simpa using h.running, hu, by rw [hk', hk]; exact h.kind, by rw [hp', hp]; exact h.phase,
    by rw [hg', ht', hg, ht]; exact h.distinct, by rw [hhold, hg', hg]; exact h.solo⟩, ht'.trans ht, hp'.trans hp⟩

theorem Handing.post {r q : Transition} (h : Handing s r) (cause : LimitCause) : Handing (s.postLimited q cause) r :=
  ⟨h.backstage.post .., h.running, h.record, h.kind, h.phase, h.distinct, h.solo⟩

/-- The end of matching starts the blend, or leaves the record MATCHING (R96, R98). -/
theorem Handing.decideMatch {r : Transition} (h : Handing s r) (hm : (s.source r.taker).state = .warm ∨
      ((s.source r.taker).state = .fault ∧ s.zc.reports.get r.taker ≠ [])) : Scene (s.decideMatch r) := by
  have ht : s.Known r.taker := hm.elim known_of_warm fun hm => .inr hm.2
  unfold State.decideMatch
  split_ifs
  · exact scene_startBlend h.backstage h.running h.kind h.distinct h.others h.giverKnown ht
  · have h' := h.post (q := { r with limited := true }) .window
    exact scene_startBlend (r := { r with limited := true }) h'.backstage h'.running h'.kind h'.distinct h'.others
      h'.giverKnown ht
  · exact scene_handing h.backstage h.running h.record h.kind h.phase h.distinct h.solo fun _ => hm

theorem Handing.matchingWork {r : Transition} (h : Handing s r) (hm : (s.source r.taker).state = .warm ∨
      ((s.source r.taker).state = .fault ∧ s.zc.reports.get r.taker ≠ [])) : Scene (s.matchingWork r) := by
  obtain ⟨u, hu, ht, _⟩ := h.matchUpdate (q := { r with ticks := min (r.ticks + 1) 255 }) ⟨rfl, rfl, rfl, rfl⟩
  unfold State.matchingWork
  simp only [hu.record]
  refine hu.decideMatch ?_
  rw [ht, source_congr s _ (by simp)]
  simpa using hm

/-- Stage 4 on a standing record (R89). -/
theorem scene_recordWork (h : Scene s) {r : Transition} (hr : s.zc.record = some r) : Scene (s.recordWork r) := by
  have hsome : s.zc.record ≠ none := by rw [hr]; exact Option.some_ne_none r
  rw [recordWork_eq]
  split_ifs with hk hb hi hd hm
  · have hv : Vacant s.hold := h.quiet (by
      rcases (h.rescue r hr hk).1 with hs | hs <;> rw [hs] <;> decide)
    unfold State.rescueWork
    split_ifs with hw
    · exact scene_removedRescueTo (h.backstage (.inl hsome)) hv (by rw [hw]; rfl)
    · exact h
  · obtain ⟨hsub, _, hne, hduo⟩ := h.blend r hr hb
    exact scene_blending ((h.backstage (.inl hsome)).setRecord _) hsub (r := { r with index := r.index + 1 }) rfl hk hb hne hduo
  · obtain ⟨hsub, _, hne, _, ht, hothers⟩ := h.blend r hr hb
    exact scene_passPicture (h.backstage (.inl hsome)) hsub hne hothers (known_of_hold ht) (by decide) _
  · exact h.removeRecord (h.handing hr hk hb).notBlending
  · exact (h.handing hr hk hb).matchingWork (h.matching r hr hm)
  · exact scene_armedWork h (h.handing hr hk hb)

/-! Triggers -/

theorem hold_of_mem {i : Src} (hs : s.Single i) {x : Report} (hx : x ∈ s.zc.reports.get i) (hr : x.role.isRole = true) :
    s.hold i = some x.role ∧ roleNames (s.zc.reports.get i) = [x] := by
  have hmem : x ∈ roleNames (s.zc.reports.get i) := List.mem_filter.mpr ⟨hx, hr⟩
  obtain ⟨y, hy⟩ : ∃ y, roleNames (s.zc.reports.get i) = [y] := by
    apply List.length_eq_one_iff.mp
    exact le_antisymm hs.1 (List.length_pos_of_mem hmem)
  rw [hy] at hmem
  rw [List.mem_singleton.mp hmem]
  exact ⟨holdOf_of_cons hy, hy⟩

theorem hold_of_state {i : Src} (hs : s.Single i) (hr : (s.source i).state.isRole = true) :
    s.hold i = some (s.source i).state ∧ roleNames (s.zc.reports.get i) = [] := by
  have hnil : roleNames (s.zc.reports.get i) = [] := by
    by_contra hn
    rw [hs.2 hn] at hr; cases hr
  exact ⟨(holdOf_of_nil hnil).trans (roleOf_of_role hr), hnil⟩

/-- The primary of the triggers is the one of the picture, and no change found it in FAULT (R81, R90, R110). -/
theorem steadyPrimary_eq_some (h : Scene s) (hsub : s.cp.sub = .running) (hb : ¬ s.Blending) {p : Src}
    (hp : s.steadyPrimary = some p) : Solo p s.hold ∧
      ∀ i, ∀ x ∈ s.zc.reports.get i, x.role = .primary → x.spoiled = none := by
  obtain ⟨q, hq⟩ := h.lone hsub hb
  have hunique {i : Src} (hi : s.hold i = some .primary) : i = q := by
    by_contra hn
    rw [hq.2 i hn] at hi; cases hi
  have hreport {i : Src} {x : Report} (hx : x ∈ s.zc.reports.get i) (hr : x.role = .primary) :
      i = q ∧ roleNames (s.zc.reports.get i) = [x] := by
    obtain ⟨hhold, hnames⟩ := hold_of_mem (h.single i) hx (by rw [hr]; rfl)
    exact ⟨hunique (hr ▸ hhold), hnames⟩
  unfold State.steadyPrimary at hp
  split at hp
  next k hk =>
    cases hp
    have hstate : (s.source p).state = .primary := by simpa using List.find?_some hk
    obtain ⟨hhold, hnil⟩ := hold_of_state (h.single p) (by rw [hstate]; rfl)
    have hpq : p = q := hunique (hstate ▸ hhold)
    refine ⟨hpq ▸ hq, fun i x hx hr => ?_⟩
    obtain ⟨hi, hnames⟩ := hreport hx hr
    rw [hi, ← hpq, hnil] at hnames
    cases hnames
  next =>
    have hany : ∃ x ∈ s.zc.reports.get p, x.role = .primary ∧ x.spoiled = none := by
      simpa using List.find?_some hp
    obtain ⟨x, hx, hr, hs⟩ := hany
    obtain ⟨hpq, hnames⟩ := hreport hx hr
    refine ⟨hpq ▸ hq, fun i y hy hr' => ?_⟩
    obtain ⟨hi, hnames'⟩ := hreport hy hr'
    rw [hi, ← hpq, hnames] at hnames'
    cases hnames'
    exact hs

/-- The target of a trigger is another rung's source (R88, R90). -/
theorem target_ne (h : Scene s) {l : Ladder} {k : Nat} {p t : Src} (hp : s.primaryRung = some (l, k, p))
    (ht : s.upTarget l k = some t ∨ s.downTarget l k = some t) : s.steadyPrimary = some p ∧ p ≠ t := by
  unfold State.primaryRung at hp
  split at hp
  next l' p' hl hsteady =>
    obtain ⟨k', hk, heq⟩ := Option.map_eq_some_iff.mp hp
    cases heq
    refine ⟨hsteady, fun hpt => ?_⟩
    subst hpt
    have htarget {r : Rung} (hr : s.triggerTarget r.source = some p) : r.source = p := by
      unfold State.triggerTarget at hr
      split_ifs at hr
      exact Option.some.inj hr
    rcases ht with ht | ht
    · unfold State.upTarget at ht
      split at ht
      · cases ht
      next r hr =>
        split_ifs at ht
        have hup : s.upperOf p = some p := by
          simp [State.upperOf, hl, hk, hr, htarget ht]
        exact upperOf_ne h.rungs hup rfl
    · unfold State.downTarget at ht
      split at ht
      next below r _ _ =>
        split_ifs at ht
        split at ht
        · cases ht
        next q hq =>
          have hlow : s.lowerOf p = some p := by
            simp [State.lowerOf, hl, hk, hq, htarget ht]
          exact lowerOf_ne hlow rfl
      · cases ht
  · cases hp

/-- A trigger creates an UP or DOWN record, and its ARMED work follows (R89 to R92). -/
theorem scene_triggered (h : Scene s) (hsub : s.cp.sub = .running) (hrec : s.zc.record = none) {r : Transition}
    (hr : s.trigger = some r) : Scene ((s.createRecord r).armedWork r) := by
  have hb : ¬ s.Blending := by rintro ⟨q, hq, _⟩; rw [hrec] at hq; cases hq
  obtain ⟨l, k, p, t, hp, hfrom⟩ := trigger_eq_some hr
  obtain ⟨hsteady, hne⟩ := target_ne h hp (hfrom.imp And.right And.right)
  obtain ⟨hsolo, hclean⟩ := steadyPrimary_eq_some h hsub hb hsteady
  have hshape : r.kind ≠ .rescue ∧ r.phase = .armed ∧ r.giver = p ∧ r.taker = t := by
    rcases hfrom with ⟨rfl, _⟩ | ⟨rfl, _⟩ <;> exact ⟨by simp [Transition.fresh], rfl, rfl, rfl⟩
  obtain ⟨hk, hphase, hg, ht⟩ := hshape
  have hh : Handing (s.createRecord r) r :=
    ⟨(h.backstage (.inr (.inr hclean))).createRecord r, by simpa using hsub, by simp, hk, by rw [hphase]; decide,
      by rw [hg, ht]; exact hne, by rw [hold_createRecord, hg]; exact hsolo⟩
  exact scene_armedWork (scene_handing hh.backstage hh.running hh.record hk hh.phase hh.distinct hh.solo (by
    rw [hphase]; rintro ⟨⟩)) hh

theorem scene_handoffWork (h : Scene s) : Scene s.handoffWork := by
  unfold State.handoffWork
  split
  next r hr => exact scene_recordWork h hr
  next hrec =>
    split_ifs with hfree
    · split
      · exact h
      next r hr =>
        have hsub : s.cp.sub = .running := by
          simp only [State.handoffFree, decide_eq_true_eq] at hfree
          exact hfree.1
        exact scene_triggered h hsub hrec hr
    · exact h

/-! The tick -/

theorem scene_wakePoints (h : Scene s) : Scene s.wakePoints := by
  have hupper (l : Ladder) (k : Nat) {t : State} (ht : Scene t) : Scene (t.wakeUpper l k) := by
    unfold State.wakeUpper
    split
    · exact ht
    · split_ifs
      · exact ht.wake ..
      · exact ht
  have hlower (l : Ladder) (k : Nat) {t : State} (ht : Scene t) : Scene (t.wakeLower l k) := by
    unfold State.wakeLower
    split
    · split_ifs
      · split
        · exact ht
        · exact ht.wake ..
      · exact ht
    · exact ht
  unfold State.wakePoints
  split_ifs
  · split
    · exact h
    · exact hlower _ _ (hupper _ _ h)
  · exact h

theorem scene_zoomStep (h : Scene s) : Scene s.zoomStep :=
  scene_handoffWork (scene_wakePoints (h.same (fun i => by rw [source_congr s _ (by simp)]) (by simp) (by simp) (by simp)
    (by simp) (by simp)))

/-- The pending primary found WARM takes the picture (R138). -/
theorem scene_promotePending (h : Scene s) : Scene s.promotePending := by
  unfold State.promotePending
  split
  next p hsub hpend =>
    split_ifs with hw
    · obtain ⟨_, hrec⟩ := h.waiting (by rw [hpend]; rfl)
      have hv : Vacant s.hold := h.quiet (by rw [hsub]; decide)
      have hb : Backstage ((s.setPending none).setSub .running) :=
        (h.backstage (.inr (.inl (by rw [hsub]; decide)))).sameParts rfl rfl rfl (by rintro ⟨⟩)
      exact scene_solo (hb.setRole ..) (by simp) (by simpa using hrec)
        (solo_setRole (fun i _ => hv i) (.inl (by
          rw [source_setSub, source_setPending, hw]; rfl)))
    · exact h
  · exact h

theorem Scene.videoSend (h : Scene s) : Scene s.videoSend := h.sameParts (by simp) (by simp) (by simp) (by simp)

theorem output_setPicture (c : Compositor) (b : Buf) (p : Option Picture) : (c.setPicture b p).sub = c.sub ∧
    (c.setPicture b p).pendingPrimary = c.pendingPrimary ∧ (c.setPicture b p).deadline = c.deadline := by
  cases b <;> exact ⟨rfl, rfl, rfl⟩

/-- A compose begin leaves the output state. -/
theorem output_composeBegin (s : State) : s.composeBegin.cp.sub = s.cp.sub ∧
    s.composeBegin.cp.pendingPrimary = s.cp.pendingPrimary ∧ s.composeBegin.cp.deadline = s.cp.deadline := by
  unfold State.composeBegin
  split
  · simp
  · obtain ⟨hsub, hpend, hdead⟩ := output_setPicture
      ((s.reportRepeat s.leftOut (repeated s.chosen)).settleHolds s.chosen).cp
      (otherBuffer ((s.reportRepeat s.leftOut (repeated s.chosen)).settleHolds s.chosen).cp.newest) none
    simp_all [State.beginCompose, State.openCompose]

theorem scene_tickWork (h : Scene s) : Scene s.tickWork := by
  unfold State.tickWork
  dsimp only
  split_ifs
  · exact h.videoSend.sameParts (by simp) (by simp) (by simp) (by simp)
  · obtain ⟨hsub, hpend, _⟩ := output_composeBegin s.videoSend.promotePending.zoomStep
    exact (scene_zoomStep (scene_promotePending h.videoSend)).sameParts (by simp) (by simp) hsub hpend

theorem scene_tick (h : Scene s) : Scene s.tick := by
  unfold State.tick
  split
  · refine scene_tickWork (Scene.sameParts h ?_ ?_ ?_ ?_) <;> simp
  · exact h

end Sys2Proof.Machine
end

section
/-! SUPPORT. The law of the picture when a fault report is taken, and when the output starts and stops (R15, R93, R102 to
R112, R135, R136, R139). -/

namespace Sys2Proof.Machine

variable {s t : State}

/-! A report is taken -/

theorem single_setReports {i j : Src} (hs : s.Single j) {x : Report} {rest : List Report}
    (hl : s.zc.reports.get i = x :: rest) : (s.setReports i rest).Single j := by
  unfold State.Single
  rw [reports_setReports]
  split_ifs with hj
  · subst hj
    have hsub : (roleNames rest).Sublist (roleNames (s.zc.reports.get j)) := by
      rw [hl]; exact (List.sublist_cons_self x rest).filter _
    refine ⟨hsub.length_le.trans hs.1, fun hn => hs.2 fun h0 => hn ?_⟩
    rw [h0] at hsub
    exact List.eq_nil_of_sublist_nil hsub
  · exact hs

theorem Backstage.setReports (b : Backstage s) {i : Src} {x : Report} {rest : List Report}
    (hl : s.zc.reports.get i = x :: rest) : Backstage (s.setReports i rest) where
  single := fun j => single_setReports (b.single j) hl
  plain := fun j y hy => by
    rw [reports_setReports] at hy
    split_ifs at hy with hj
    · subst hj; exact b.plain j y (by rw [hl]; exact List.mem_cons_of_mem x hy)
    · exact b.plain j y hy
  rungs := b.rungs
  waiting := b.waiting

theorem hold_setReports_ne {i j : Src} (h : j ≠ i) (l : List Report) (s : State) : (s.setReports i l).hold j = s.hold j :=
  hold_congr rfl (by rw [reports_setReports, if_neg h])

/-- A report that holds no role is taken without a change of the role held. -/
theorem hold_setReports_plain {i : Src} {x : Report} {rest : List Report} (hl : s.zc.reports.get i = x :: rest)
    (hx : x.role.isRole = false) : (s.setReports i rest).hold = s.hold := by
  funext j
  by_cases hj : j = i
  · subst hj
    unfold State.hold
    rw [reports_setReports, if_pos rfl, hl, source_setReports]
    unfold holdOf
    rw [show roleNames (x :: rest) = roleNames rest from List.filter_cons_of_neg (by simp [hx])]
  · exact hold_setReports_ne hj rest s

/-- With the report that holds its role a source leaves the picture. -/
theorem hold_setReports_role {i : Src} {x : Report} {rest : List Report} (hs : s.Single i)
    (hl : s.zc.reports.get i = x :: rest) (hx : x.role.isRole = true) :
    (s.setReports i rest).hold i = none ∧ roleNames rest = [] := by
  have hnames : roleNames (s.zc.reports.get i) = x :: roleNames rest := by
    rw [hl]; exact List.filter_cons_of_pos (by simp [hx])
  have hnil : roleNames rest = [] := by
    have hlen := hs.1
    rw [hnames, List.length_cons] at hlen
    exact List.length_eq_zero_iff.mp (by omega)
  refine ⟨?_, hnil⟩
  unfold State.hold
  rw [reports_setReports, if_pos rfl, source_setReports, holdOf_of_nil hnil,
    roleOf_of_none (hs.2 (by rw [hnames]; exact List.cons_ne_nil _ _))]

theorem hold_of_head {i : Src} {x : Report} {rest : List Report} (hs : s.Single i)
    (hl : s.zc.reports.get i = x :: rest) (hx : x.role.isRole = true) : s.hold i = some x.role :=
  (hold_of_mem hs (by rw [hl]; exact List.mem_cons_self) hx).1

/-- A report that holds no role, and is not the last thing known of a MATCHING target, is taken with no effect. -/
theorem scene_dropReport (h : Scene s) {i : Src} {x : Report} {rest : List Report} (hl : s.zc.reports.get i = x :: rest)
    (hx : x.role.isRole = false)
    (hm : ∀ r, s.zc.record = some r → r.phase = .matching → r.taker = i → (s.source i).state ≠ .fault) :
    Scene (s.setReports i rest) := by
  refine h.alongReports (hold_setReports_plain hl hx) (fun j => single_setReports (h.single j) hl) (fun j y hy => .inl ?_)
    rfl rfl rfl rfl fun r hr hp => ?_
  · rw [reports_setReports] at hy
    split_ifs at hy with hj
    · subst hj; rw [hl]; exact List.mem_cons_of_mem x hy
    · exact hy
  · rcases h.matching r hr hp with hw | ⟨hf, hne⟩
    · exact .inl hw
    · have hi : r.taker ≠ i := fun hi => hm r hr hp hi (hi ▸ hf)
      exact .inr ⟨hf, by rw [reports_setReports, if_neg hi]; exact hne⟩

/-- A source that takes the picture over when the record goes (R102, R103). -/
theorem scene_takeOver (b : Backstage s) (hsub : s.cp.sub = .running) {p : Src} (hk : s.Known p)
    (hothers : ∀ i, i ≠ p → s.hold i = none) : Scene (s.removeRecord.setRole p .primary) := by
  refine scene_solo (b.removeRecord.setRole ..) (by simpa using hsub) (by simp) (p := p) ?_
  exact solo_setRole (by rw [hold_removeRecord]; exact hothers) ((known_removeRecord p).mpr hk)

section
variable {i : Src} {x : Report} {rest : List Report}

theorem known_setReports_ne {j : Src} (h : j ≠ i) (l : List Report) : (s.setReports i l).Known j ↔ s.Known j := by
  unfold State.Known
  rw [reports_setReports, if_neg h, source_setReports]

theorem running_ne_of_rescue (hs : s.cp.sub = .starting ∨ s.cp.sub = .frozen) : s.cp.sub ≠ .running := by
  rcases hs with hs | hs <;> rw [hs] <;> decide

theorem nonrole_of_hold_none (hs : s.Single i) (hl : s.zc.reports.get i = x :: rest) (h : s.hold i = none) :
    x.role.isRole = false := by
  cases hx : x.role.isRole with
  | false => rfl
  | true => rw [hold_of_head hs hl hx] at h; cases h

/-- The report of a fault met by the record of a rescue (R109). -/
theorem scene_report_rescue (h : Scene s) (hl : s.zc.reports.get i = x :: rest) {r : Transition}
    (hr : s.zc.record = some r) (hk : r.kind = .rescue) :
    Scene (if r.taker = i ∧ ((s.setReports i rest).source i).state = .fault then (s.setReports i rest).tryOther r
      else s.setReports i rest) := by
  obtain ⟨hsub, _, hp⟩ := h.rescue r hr hk
  have hv := h.quiet (running_ne_of_rescue hsub)
  have hx := nonrole_of_hold_none (h.single i) hl (hv i)
  have hpend : s.cp.pendingPrimary = none := by
    cases hpend : s.cp.pendingPrimary with
    | none => rfl
    | some p =>
      have hn := (h.waiting (by rw [hpend]; rfl)).2
      rw [hr] at hn; cases hn
  have b := h.backstage (.inl (by rw [hr]; exact Option.some_ne_none r))
  split_ifs
  · exact scene_tryOther (b.setReports hl) (by rw [hold_setReports_plain hl hx]; exact hv) hk hp hsub hpend
  · refine scene_dropReport h hl hx fun q hq hm => ?_
    rw [hr] at hq; cases hq
    rw [hp] at hm; cases hm

/-- The report of a fault met by a blend (R102, R103). -/
theorem scene_report_blend (h : Scene s) (hl : s.zc.reports.get i = x :: rest) {r : Transition}
    (hr : s.zc.record = some r) (hp : r.phase = .blending) :
    Scene (if r.taker = i ∧ x.role = .incoming then (s.setReports i rest).incomingFault r
      else if r.giver = i ∧ x.role = .outgoing then (s.setReports i rest).outgoingFault r else s.setReports i rest) := by
  obtain ⟨hsub, _, hne, hg, ht, hothers⟩ := h.blend r hr hp
  have b := (h.backstage (.inl (by rw [hr]; exact Option.some_ne_none r))).setReports hl
  split_ifs with hin hout
  · obtain ⟨rfl, hrole⟩ := hin
    obtain ⟨hgone, _⟩ := hold_setReports_role (h.single _) hl (by rw [hrole]; rfl)
    refine Scene.post (scene_takeOver b hsub ((known_setReports_ne hne rest).mpr (known_of_hold hg)) fun j hj => ?_) ..
    by_cases hji : j = r.taker
    · rw [hji]; exact hgone
    · rw [hold_setReports_ne hji]; exact hothers j hj hji
  · obtain ⟨rfl, hrole⟩ := hout
    obtain ⟨hgone, _⟩ := hold_setReports_role (h.single _) hl (by rw [hrole]; rfl)
    refine Scene.post (scene_takeOver b hsub ((known_setReports_ne hne.symm rest).mpr (known_of_hold ht)) fun j hj => ?_) ..
    by_cases hji : j = r.giver
    · rw [hji]; exact hgone
    · rw [hold_setReports_ne hji]; exact hothers j hji hj
  · refine scene_dropReport h hl ?_ fun q hq hm => ?_
    · cases hx : x.role.isRole with
      | false => rfl
      | true =>
        have hi := hold_of_head (h.single i) hl hx
        by_cases hit : i = r.taker
        · rw [hit, ht] at hi
          exact absurd ⟨hit.symm, (Option.some.inj hi).symm⟩ hin
        · by_cases hig : i = r.giver
          · rw [hig, hg] at hi
            exact absurd ⟨hig.symm, (Option.some.inj hi).symm⟩ hout
          · rw [hothers i hig hit] at hi; cases hi
    · rw [hr] at hq; cases hq
      rw [hp] at hm; cases hm

theorem vacant_of_solo {p : Src} (h : Solo p s.hold) (hs : s.Single p) (hl : s.zc.reports.get p = x :: rest)
    (hx : x.role.isRole = true) : Vacant (s.setReports p rest).hold := by
  intro j
  by_cases hj : j = p
  · rw [hj]; exact (hold_setReports_role hs hl hx).1
  · rw [hold_setReports_ne hj]; exact h.2 j hj

/-- The report of a fault met by an UP or DOWN record before its blend (R93, R104). -/
theorem scene_report_handing (h : Scene s) (hl : s.zc.reports.get i = x :: rest) {r : Transition} (hh : Handing s r) :
    Scene (if r.taker = i ∧ ((s.setReports i rest).source i).state = .fault then (s.setReports i rest).targetFault r
      else if x.role = .primary then (s.setReports i rest).primaryFault i else s.setReports i rest) := by
  have b := hh.backstage.setReports hl
  have hrole : x.role.isRole = true → i = r.giver ∧ x.role = .primary := fun hx => by
    have hi := hold_of_head (h.single i) hl hx
    by_cases hig : i = r.giver
    · rw [hig, hh.solo.1] at hi
      exact ⟨hig, (Option.some.inj hi).symm⟩
    · rw [hh.solo.2 i hig] at hi; cases hi
  split_ifs with ht hx
  · obtain ⟨rfl, _⟩ := ht
    have hx : x.role.isRole = false := nonrole_of_hold_none (h.single _) hl (hh.solo.2 _ hh.distinct.symm)
    have hsolo : Solo r.giver (s.setReports r.taker rest).removeRecord.hold := by
      rw [hold_removeRecord, hold_setReports_plain hl hx]; exact hh.solo
    exact Scene.post (scene_solo b.removeRecord (by simpa using hh.running) (by simp) hsolo) ..
  · obtain ⟨rfl, _⟩ := hrole (by rw [hx]; rfl)
    exact scene_primaryFault b (vacant_of_solo hh.solo (h.single _) hl (by rw [hx]; rfl)) _
  · refine scene_dropReport h hl ?_ fun q hq _ hi hf => ?_
    · cases hr : x.role.isRole with
      | false => rfl
      | true => exact absurd (hrole hr).2 hx
    · rw [hh.record] at hq; cases hq
      exact ht ⟨hi, hf⟩

/-- With the report of the primary no other is left that names one. -/
theorem backstage_primaryReport (h : Scene s) (hl : s.zc.reports.get i = x :: rest) (hsolo : Solo i s.hold)
    (hx : x.role.isRole = true) : Backstage (s.setReports i rest) where
  single := fun j => single_setReports (h.single j) hl
  plain := fun j y hy z hz => by
    rw [reports_setReports] at hy
    have hmem : y ∈ s.zc.reports.get j := by
      split_ifs at hy with hj
      · subst hj; rw [hl]; exact List.mem_cons_of_mem x hy
      · exact hy
    obtain ⟨hc, hne, hj | ⟨_, hr, _⟩⟩ := h.spoiled j y hmem z hz
    · exact ⟨hc, hne, hj⟩
    · split_ifs at hy with hj
      · have hnames : y ∈ roleNames rest := List.mem_filter.mpr ⟨hy, by rw [hr]; rfl⟩
        rw [(hold_setReports_role (h.single i) hl hx).2] at hnames
        cases hnames
      · have hhold := (hold_of_mem (h.single j) hy (by rw [hr]; rfl)).1
        rw [hsolo.2 j hj] at hhold; cases hhold
  rungs := h.rungs
  waiting := fun hp => (h.waiting hp).1

/-- The one primary of a RUNNING output without a blend is the source whose report names it. -/
theorem solo_of_report (h : Scene s) (hsub : s.cp.sub = .running) (hrec : s.zc.record = none)
    (hl : s.zc.reports.get i = x :: rest) (hx : x.role.isRole = true) : Solo i s.hold ∧ x.role = .primary := by
  obtain ⟨p, hsolo⟩ := h.lone hsub (by rintro ⟨q, hq, _⟩; rw [hrec] at hq; cases hq)
  have hi := hold_of_head (h.single i) hl hx
  have hip : i = p := by
    by_contra hn
    rw [hsolo.2 i hn] at hi; cases hi
  subst hip
  rw [hsolo.1] at hi
  exact ⟨hsolo, (Option.some.inj hi).symm⟩

/-- The report of a fault met by no record (R104, R107). -/
theorem scene_report_alone (h : Scene s) (hl : s.zc.reports.get i = x :: rest) (hrec : s.zc.record = none) :
    Scene ((s.setReports i rest).reportAlone i x.role) := by
  unfold State.reportAlone
  split_ifs with hrun hpend
  · obtain ⟨hsub, hrole⟩ := hrun
    have hx : x.role.isRole = true := by rw [hrole]; rfl
    obtain ⟨hsolo, _⟩ := solo_of_report h hsub hrec hl hx
    exact scene_primaryFault (backstage_primaryReport h hl hsolo hx) (vacant_of_solo hsolo (h.single i) hl hx) i
  · obtain ⟨hpend, _⟩ := hpend
    have hsub : s.cp.sub = .starting := by
      simp only [State.isPending, decide_eq_true_eq] at hpend
      exact hpend.1
    have hn : s.cp.sub ≠ .running := by rw [hsub]; decide
    have hv := h.quiet hn
    have hx := nonrole_of_hold_none (h.single i) hl (hv i)
    exact scene_rescue ((h.backstage (.inr (.inl hn))).setReports hl) (by rw [hold_setReports_plain hl hx]; exact hv) hrec i
  · refine scene_dropReport h hl ?_ fun q hq => by rw [hrec] at hq; cases hq
    by_cases hsub : s.cp.sub = .running
    · cases hx : x.role.isRole with
      | false => rfl
      | true => exact absurd ⟨hsub, (solo_of_report h hsub hrec hl hx).2⟩ hrun
    · exact nonrole_of_hold_none (h.single i) hl (h.quiet hsub i)

/-- A fault is handled in the role its report names (R93, R102 to R104, R107, R109). -/
theorem scene_handleFault (h : Scene s) (hl : s.zc.reports.get i = x :: rest) :
    Scene ((s.setReports i rest).handleFault i x.role) := by
  unfold State.handleFault
  split
  next r hr =>
    have hr : s.zc.record = some r := hr
    rw [reportOnRecord_eq]
    by_cases hk : r.kind = .rescue
    · rw [if_pos hk]; exact scene_report_rescue h hl hr hk
    · rw [if_neg hk]
      by_cases hp : r.phase = .blending
      · rw [if_pos hp]; exact scene_report_blend h hl hr hp
      · rw [if_neg hp]; exact scene_report_handing h hl (h.handing hr hk hp)
  next hr => exact scene_report_alone h hl hr

theorem hold_setRole_unknown {j : Src} (role : SrcState) (hk : ¬ s.Known j) (hv : Vacant s.hold) :
    Vacant (s.setRole j role).hold := by
  obtain ⟨hu, hn⟩ := not_or.mp hk
  have hn : s.zc.reports.get j = [] := not_not.mp hn
  intro k
  by_cases hkj : k = j
  · rw [hkj, ← hv j]
    refine hold_congr ?_ ?_
    · rw [state_setRole_eq, if_neg (by simp [hu])]
    · rw [reports_setRole, if_pos rfl, if_neg hu, hn]; rfl
  · rw [hold_setRole_ne hkj]; exact hv k

/-- The giver of a change that its taker's fault spoiled is the primary again, or is rescued (R110). -/
theorem scene_takeBack (b : Backstage s) (hv : Vacant s.hold) (hrec : s.zc.record = none) (hsub : s.cp.sub = .running)
    (y : Spoiled) (cause : AbortCause) : Scene (s.takeBack y cause) := by
  have b' := (b.setRole y.record.giver .primary).post none (.handoffAborted y.record.kind y.record.giver y.record.taker
    y.record.phase y.record.index cause y.time)
  unfold State.takeBack
  dsimp only
  split_ifs with hl
  · have hk : ¬ s.Known y.record.giver := by
      rintro (hu | hn)
      · rw [usable_of_lost.mp hl.1] at hu; cases hu
      · exact hn hl.2
    exact scene_rescue b' (hold_setRole_unknown .primary hk hv) (by simpa using hrec) _
  · have hk : s.Known y.record.giver := by
      by_contra hn
      obtain ⟨hu, hr⟩ := not_or.mp hn
      exact hl ⟨usable_of_lost.mpr (by simpa using hu), not_not.mp hr⟩
    exact Scene.post (scene_solo (b.setRole ..) (by simpa using hsub) (by simpa using hrec)
      (solo_setRole (fun j _ => hv j) hk)) ..

/-- A report is handled, and what a change that its source's fault spoiled left open is settled (R110). -/
theorem scene_handleReport (h : Scene s) (hl : s.zc.reports.get i = x :: rest) :
    Scene ((s.setReports i rest).handleReport i x) := by
  unfold State.handleReport
  split
  · exact scene_handleFault h hl
  next y hy =>
    split_ifs with ht
    · obtain ⟨hc, hne, hi | ⟨_, hrole, hrec, hsub⟩⟩ := h.spoiled i x (by rw [hl]; exact List.mem_cons_self) y hy
      · exact absurd (hi.symm.trans ht.symm) hne
      · have hx : x.role.isRole = true := by rw [hrole]; rfl
        obtain ⟨hsolo, _⟩ := solo_of_report h hsub hrec hl hx
        have b := backstage_primaryReport h hl hsolo hx
        have hv := vacant_of_solo hsolo (h.single i) hl hx
        unfold State.settleTaker
        split
        next hch => exact absurd hch hc
        · exact scene_takeBack b hv hrec hsub y _
        · exact scene_takeBack b hv hrec hsub y _
    · exact scene_handleFault (h.postDone y.record .cut y.time) hl

end

theorem scene_takeReport (h : Scene s) (i : Src) (hq : s.link.part ≠ .streaming → s.zc.record = none ∧
      ∀ x ∈ s.zc.reports.get i, x.role.isRole = false) : Scene (s.takeReport i) := by
  unfold State.takeReport
  split
  · exact h
  next x rest hl =>
    split_ifs with hp
    · exact scene_handleReport h hl
    · obtain ⟨hrec, hrole⟩ := hq hp
      exact scene_dropReport h hl (hrole x (by rw [hl]; exact List.mem_cons_self)) fun q hq => by rw [hrec] at hq; cases hq

/-! The output starts and stops -/

/-- A source that no output concerns any more: in no role, with reports that name none (R112). -/
def State.Released (s : State) (i : Src) : Prop :=
  (s.source i).state.isRole = false ∧ ∀ x ∈ s.zc.reports.get i, x.role.isRole = false ∧ x.spoiled = none

theorem released_hold {i : Src} (h : s.Released i) : s.hold i = none ∧ s.Single i := by
  have hnil : roleNames (s.zc.reports.get i) = [] := by
    unfold roleNames
    rw [List.filter_eq_nil_iff]
    exact fun x hx => by rw [(h.2 x hx).1]; exact Bool.false_ne_true
  exact ⟨(holdOf_of_nil hnil).trans (roleOf_of_none h.1), singleOf_of_nil hnil⟩

theorem source_takeRole_ne {i j : Src} (h : j ≠ i) (role : SrcState) (s : State) :
    (s.takeRole i role).source j = s.source j := by
  unfold State.takeRole
  split_ifs
  · rfl
  · simp [h]

theorem state_takeRole (i : Src) (role : SrcState) (s : State) : ((s.takeRole i role).source i).state = role := by
  unfold State.takeRole
  split_ifs with hs
  · exact hs
  · rw [source_postState, state_restartIdle, source_setSource, if_pos rfl]

theorem released_endRole (i : Src) (s : State) : (s.endRole i).Released i := by
  unfold State.endRole
  refine ⟨?_, fun x hx => ?_⟩
  · rw [source_setReports]
    split
    · rw [state_takeRole]; rfl
    next h => simpa using h
  · rw [reports_setReports, if_pos rfl] at hx
    obtain ⟨_, _, rfl⟩ := List.mem_map.mp hx
    exact ⟨rfl, rfl⟩

theorem released_endRole_ne {i j : Src} (hj : j ≠ i) (h : s.Released j) : (s.endRole i).Released j := by
  unfold State.endRole
  refine ⟨?_, fun x hx => h.2 x ?_⟩
  · rw [source_setReports]
    split
    · rw [source_takeRole_ne hj]; exact h.1
    · exact h.1
  · rw [reports_setReports, if_neg hj] at hx
    split at hx
    · simpa using hx
    · exact hx

theorem released_endRoles (s : State) (i : Src) : s.endRoles.Released i := by
  unfold State.endRoles
  cases i
  case s0 => exact released_endRole_ne (by decide) (released_endRole_ne (by decide) (released_endRole_ne (by decide) (released_endRole ..)))
  case s1 => exact released_endRole_ne (by decide) (released_endRole_ne (by decide) (released_endRole ..))
  case s2 => exact released_endRole_ne (by decide) (released_endRole ..)
  case s3 => exact released_endRole ..

/-- An output that ends leaves every source released. -/
theorem released_stopOutput (s : State) (i : Src) : s.stopOutput.Released i := by
  have hsrc : s.stopOutput.source i = s.removeRecord.dropPending.endRoles.source i :=
    source_congr _ _ (by simp [State.stopOutput, State.endOutput]) i
  have hrep : s.stopOutput.zc.reports = s.removeRecord.dropPending.endRoles.zc.reports := by
    simp [State.stopOutput, State.endOutput]
  unfold State.Released
  rw [hsrc, hrep]
  exact released_endRoles _ i

theorem scene_of_released (hr : ∀ i, t.Released i) (hrec : t.zc.record = none) (hsub : t.cp.sub ≠ .running)
    (hpend : t.cp.pendingPrimary = none) (hl : ∀ l, t.zc.ladder = some l → (l.map Rung.source).Nodup) : Scene t :=
  have hplain : ∀ i, ∀ x ∈ t.zc.reports.get i, x.spoiled = none := fun i x hx => ((hr i).2 x hx).2
  scene_vacant ⟨fun i => (released_hold (hr i)).2, fun i x hx y hy => by simp [hplain i x hx] at hy, hl, by simp [hpend]⟩
    hsub hrec fun i => (released_hold (hr i)).1

theorem scene_outputStop (h : Scene s) : Scene s.outputStop.state := by
  unfold State.outputStop
  split_ifs
  · refine scene_of_released (released_stopOutput s) ?_ ?_ ?_ ?_
    · simp [State.stopOutput, State.endOutput]
    · simp [State.stopOutput, State.endOutput]
    · simp [State.stopOutput, State.endOutput]
    · simpa [State.stopOutput, State.endOutput] using h.rungs
  · exact h

theorem scene_placePrimary (b : Backstage s) (hv : Vacant s.hold) (hrec : s.zc.record = none) (hsub : s.cp.sub ≠ .running)
    (hpend : s.cp.pendingPrimary = none) (p : Src) : Scene (s.placePrimary p) := by
  have hawait : Scene (s.awaitPrimary p) := by
    have k : SameStage s (s.awaitPrimary p) :=
      .of_state (fun i => by rw [State.awaitPrimary, state_stopIdle]; rfl) rfl rfl
    exact scene_vacant (k.backstage b fun _ => rfl) (by simp [State.awaitPrimary]) (by simpa using hrec) (k.vacant hv)
  have hstay : Scene s := scene_vacant b hsub hrec hv
  unfold State.placePrimary
  split
  next hw =>
    have hb : Backstage (s.setSub .running) := b.sameParts rfl rfl rfl (by simp [hpend])
    exact scene_solo (hb.setRole ..) (by simp) (by simpa using hrec)
      (solo_setRole (fun i _ => hv i) (.inl (by rw [source_setSub, hw]; rfl)))
  · exact hawait.wake ..
  · exact hawait
  · exact hawait
  all_goals exact hstay

theorem scene_outputStart (h : Scene s) (hrec : s.link.part ≠ .streaming → s.zc.record = none)
    (hsub : s.link.part ≠ .streaming → s.cp.sub = .none) : Scene s.outputStart.state := by
  unfold State.outputStart
  split_ifs with hp
  · exact h
  · exact h
  · have hconfig : s.link.part ≠ .streaming := by rw [not_not.mp hp]; decide
    split
    · exact h
    · split_ifs
      · exact h
      · have hn : s.cp.sub ≠ .running := by rw [hsub hconfig]; decide
        have hpend : s.cp.pendingPrimary = none := by
          cases hpend : s.cp.pendingPrimary with
          | none => rfl
          | some q =>
            have hs := (h.waiting (by rw [hpend]; rfl)).1
            rw [hsub hconfig] at hs; cases hs
        have hb : Backstage s.beginOutput := (h.backstage (.inr (.inl hn))).sameParts rfl rfl rfl (fun hp => (h.waiting hp).1)
        exact scene_placePrimary hb (h.quiet hn) (hrec hconfig) hn hpend _

end Sys2Proof.Machine
end

section
/-! SUPPORT. The events of the sources: wakes, parks, faults and first frames, which leave the output and the record as they
are (R5 to R16). -/

namespace Sys2Proof.Machine

variable {P : Src → Prop} {s t : State}

/-! Drifts -/

/-- What the sources do by themselves: the output, the record and the reports of earlier faults stand; only the sources
of `P` are parked. -/
inductive Drift (P : Src → Prop) (s : State) : State → Prop
  | refl : Drift P s s
  | same {t u : State} (h : Drift P s t) (hsrc : u.sources = t.sources) (hzc : u.zc = t.zc) (hcp : u.cp = t.cp)
      (hpart : u.link.part = t.link.part) : Drift P s u
  | wake {t : State} (h : Drift P s t) (purpose : Purpose) (i : Src) : Drift P s (t.wake purpose i)
  | sync {t : State} (h : Drift P s t) (i : Src) (x : Timer) (hs : (t.source i).state = .waking) :
      Drift P s (t.setSource i { t.source i with state := .syncing, settle := none, sync := some x })
  | warm {t : State} (h : Drift P s t) (i : Src) (hs : (t.source i).state = .syncing) : Drift P s (t.enterWarm i)
  | ready {t : State} (h : Drift P s t) (i : Src) (now : Time) : Drift P s (t.setSource i ((t.source i).readyAt now))
  | park {t : State} (h : Drift P s t) (i : Src) (hp : P i) : Drift P s (t.park i)
  | fault {t : State} (h : Drift P s t) (cause : FaultCause) (i : Src) (hs : (t.source i).state.keepsFrames = true) :
      Drift P s (t.faultSource cause i)

/-- What stands through a drift. -/
structure Stands (s t : State) : Prop where
  record : t.zc.record = s.zc.record
  ladder : t.zc.ladder = s.zc.ladder
  target : t.zc.target = s.zc.target
  shown : t.zc.shown = s.zc.shown
  held : t.zc.held = s.zc.held
  pinned : t.zc.pinned = s.zc.pinned
  output : t.cp = s.cp
  part : t.link.part = s.link.part

theorem Stands.trans {u : State} (h : Stands s t) (k : Stands t u) : Stands s u :=
  ⟨k.record.trans h.record, k.ladder.trans h.ladder, k.target.trans h.target, k.shown.trans h.shown, k.held.trans h.held,
    k.pinned.trans h.pinned, k.output.trans h.output, k.part.trans h.part⟩

theorem stands_of_same (hzc : t.zc = s.zc) (hcp : t.cp = s.cp) (hpart : t.link.part = s.link.part) : Stands s t :=
  ⟨by rw [hzc], by rw [hzc], by rw [hzc], by rw [hzc], by rw [hzc], by rw [hzc], hcp, hpart⟩

theorem stands_faultSource (cause : FaultCause) (i : Src) (s : State) : Stands s (s.faultSource cause i) :=
  ⟨by simp, by simp, by simp, by simp, by simp, by simp, by simp, by simp⟩

theorem Drift.stands (h : Drift P s t) : Stands s t := by
  induction h with
  | refl => exact stands_of_same rfl rfl rfl
  | same _ _ hzc hcp hpart ih => exact ih.trans (stands_of_same hzc hcp hpart)
  | wake _ purpose i ih => exact ih.trans (stands_of_same (by simp) (by simp) (by simp))
  | sync _ i x _ ih => exact ih.trans (stands_of_same rfl rfl rfl)
  | warm _ i _ ih => exact ih.trans (stands_of_same (by simp) (by simp) (by simp))
  | ready _ i now ih => exact ih.trans (stands_of_same rfl rfl rfl)
  | park _ i _ ih => exact ih.trans (stands_of_same (by simp) (by simp) (by simp))
  | fault _ cause i _ ih => exact ih.trans (stands_faultSource cause i _)

/-! The picture -/

theorem state_park (i j : Src) (s : State) : ((s.park i).source j).state = (s.source j).state ∨
    j = i ∧ (s.source j).state.isRole = false ∧ ((s.park i).source j).state = .parked := by
  rw [source_park]
  split_ifs with h
  · obtain ⟨rfl, _, hr⟩ := h
    exact .inr ⟨rfl, hr, rfl⟩
  · exact .inl rfl

theorem sameStage_park (i : Src) (s : State) : SameStage s (s.park i) := by
  refine ⟨fun j => (state_park i j s).imp_right fun ⟨_, hs, ht⟩ => ⟨hs, ?_⟩, by simp, by simp⟩
  rw [ht]; rfl

theorem state_enterWarm (i j : Src) (s : State) :
    ((s.enterWarm i).source j).state = if j = i then .warm else (s.source j).state := by
  rw [State.enterWarm, source_postState, state_restartIdle, source_setSource]
  split_ifs <;> rfl

theorem sameStage_enterWarm {i : Src} (hs : (s.source i).state = .syncing) : SameStage s (s.enterWarm i) := by
  refine ⟨fun j => ?_, by simp, by simp⟩
  rw [state_enterWarm]
  split_ifs with hj
  · subst hj; rw [hs]; exact .inr ⟨rfl, rfl⟩
  · exact .inl rfl

theorem sameStage_sync {i : Src} (hs : (s.source i).state = .waking) (x : Timer) :
    SameStage s (s.setSource i { s.source i with state := .syncing, settle := none, sync := some x }) := by
  refine ⟨fun j => ?_, rfl, rfl⟩
  rw [source_setSource]
  split_ifs with hj
  · subst hj; rw [hs]; exact .inr ⟨rfl, rfl⟩
  · exact .inl rfl

theorem state_ready (i j : Src) (now : Time) (s : State) :
    ((s.setSource i ((s.source i).readyAt now)).source j).state = (s.source j).state := by
  rw [source_setSource]
  split_ifs with hj
  · subst hj; rfl
  · rfl

theorem hold_faultSource (hs : ∀ j, s.Single j) (cause : FaultCause) (i : Src) :
    (s.faultSource cause i).hold = s.hold ∧ ∀ j, (s.faultSource cause i).Single j := by
  refine ⟨funext fun j => ?_, fun j => ?_⟩
  · unfold State.hold
    rw [source_faultSource, reports_faultSource]
    split_ifs with hj
    · subst hj; exact (holdOf_fault (hs j)).1
    · rfl
  · unfold State.Single
    rw [source_faultSource, reports_faultSource]
    split_ifs with hj
    · subst hj; exact (holdOf_fault (hs j)).2
    · exact hs j

/-- The fault of a source leaves the picture until its report is taken (R15). -/
theorem Scene.faultSource (h : Scene s) (cause : FaultCause) (i : Src) : Scene (s.faultSource cause i) := by
  obtain ⟨hhold, hsingle⟩ := hold_faultSource h.single cause i
  refine h.alongReports hhold hsingle (fun j x hx => ?_) (by simp) (by simp) (by simp) (by simp) fun r hr hp => ?_
  · rw [reports_faultSource] at hx
    split_ifs at hx with hj
    · subst hj
      rcases List.mem_append.mp hx with hx | hx
      · exact .inl hx
      · rw [List.mem_singleton.mp hx]; exact .inr rfl
    · exact .inl hx
  · rw [source_faultSource, reports_faultSource]
    split_ifs with hj
    · exact .inr ⟨rfl, by simp⟩
    · exact h.matching r hr hp

theorem matching_of_ne {j : Src} (hm : (s.source j).state = .warm ∨ ((s.source j).state = .fault ∧ s.zc.reports.get j ≠ []))
    (heq : (t.source j).state = (s.source j).state) :
    (t.source j).state = .warm ∨ ((t.source j).state = .fault ∧ s.zc.reports.get j ≠ []) := by rwa [heq]

/-- A drift that does not park a MATCHING target keeps the law of the picture. -/
theorem Drift.scene (h : Drift P s t) (hs : Scene s)
    (hP : ∀ r, s.zc.record = some r → r.phase = .matching → ¬ P r.taker) : Scene t := by
  induction h with
  | refl => exact hs
  | same _ hsrc hzc hcp _ ih => exact ih.sameParts hsrc hzc (by rw [hcp]) (by rw [hcp])
  | wake _ purpose i ih => exact ih.wake purpose i
  | sync h i x hst ih =>
    refine ih.along (sameStage_sync hst x) rfl rfl rfl fun r hr hp => ?_
    have hm := ih.matching r hr hp
    refine matching_of_ne hm ?_
    rw [source_setSource]
    split_ifs with hj
    · rw [hj, hst] at hm
      rcases hm with hm | ⟨hm, _⟩ <;> cases hm
    · rfl
  | warm h i hst ih =>
    refine ih.along (sameStage_enterWarm hst) (by simp) (by simp) (by simp) fun r hr hp => ?_
    rw [state_enterWarm]
    split_ifs
    · exact .inl rfl
    · exact ih.matching r hr hp
  | ready _ i now ih => exact ih.same (state_ready i · now _) rfl rfl rfl rfl rfl
  | park h i hp ih =>
    refine ih.along (sameStage_park i _) (by simp) (by simp) (by simp) fun r hr hph => ?_
    refine matching_of_ne (ih.matching r hr hph) ?_
    rcases state_park i r.taker _ with heq | ⟨hj, _⟩
    · exact heq
    · rw [h.stands.record] at hr
      exact absurd (hj ▸ hp) (hP r hr hph)
  | fault _ cause i _ ih => exact ih.faultSource cause i

end Sys2Proof.Machine
end

section
/-! SUPPORT. The idle timers run under the conditions of R8 through every operation. -/

namespace Sys2Proof.Machine

variable {P : Src → Prop} {s t : State}

/-! One source -/

/-- The idle timer of a source runs exactly under the conditions of R8. -/
def IdleAt (s : State) (i : Src) : Prop := (s.source i).idle.isSome = s.idleRuns i

/-- The conditions of R8 as they stand for a source. -/
theorem idleRuns_congr {i : Src} (hstate : (t.source i).state = (s.source i).state)
    (hlen : (t.source i).idleTwenties = (s.source i).idleTwenties) (ht : t.isTarget i = s.isTarget i)
    (hp : t.isPending i = s.isPending i) : t.idleRuns i = s.idleRuns i := by
  unfold State.idleRuns
  rw [hstate, hlen, ht, hp]

theorem idleAt_congr {i : Src} (h : IdleAt s i) (hsrc : t.source i = s.source i) (ht : t.isTarget i = s.isTarget i)
    (hp : t.isPending i = s.isPending i) : IdleAt t i := by
  unfold IdleAt
  rw [hsrc, idleRuns_congr (by rw [hsrc]) (by rw [hsrc]) ht hp]
  exact h

/-- A source that is not WARM has no idle timer to run. -/
theorem idleRuns_of_not_warm {i : Src} (h : (s.source i).state ≠ .warm) : s.idleRuns i = false := by
  simp [State.idleRuns, h]

theorem idleRuns_of_target {i : Src} (h : s.isTarget i = true) : s.idleRuns i = false := by simp [State.idleRuns, h]

theorem idleRuns_of_pending {i : Src} (h : s.isPending i = true) : s.idleRuns i = false := by simp [State.idleRuns, h]

theorem idleAt_of_none {i : Src} (hidle : (s.source i).idle = none) (h : s.idleRuns i = false) : IdleAt s i := by
  rw [IdleAt, hidle, h]; rfl

theorem idle_none {i : Src} (h : IdleAt s i) (hr : s.idleRuns i = false) : (s.source i).idle = none := by
  rw [IdleAt, hr] at h
  simpa using h

theorem isTarget_congr (h : t.zc.record = s.zc.record) (i : Src) : t.isTarget i = s.isTarget i := by
  unfold State.isTarget
  rw [h]

theorem isPending_congr (hs : t.cp.sub = s.cp.sub) (hp : t.cp.pendingPrimary = s.cp.pendingPrimary) (i : Src) :
    t.isPending i = s.isPending i := by
  unfold State.isPending
  rw [hs, hp]

theorem isTarget_none {i : Src} (h : s.zc.record = none) : s.isTarget i = false := by simp [State.isTarget, h]

theorem isTarget_some {i : Src} {r : Transition} (h : s.zc.record = some r) : s.isTarget i = decide (r.taker = i) := by
  simp [State.isTarget, h]

theorem isPending_none {i : Src} (h : s.cp.pendingPrimary = none) : s.isPending i = false := by simp [State.isPending, h]

theorem isPending_of_sub {i : Src} (h : s.cp.sub ≠ .starting) : s.isPending i = false := by simp [State.isPending, h]

theorem IdleLaw.same (h : IdleLaw s) (hsrc : t.sources = s.sources) (hrec : t.zc.record = s.zc.record)
    (hsub : t.cp.sub = s.cp.sub) (hpend : t.cp.pendingPrimary = s.cp.pendingPrimary) : IdleLaw t := fun i =>
  idleAt_congr (h i) (source_congr _ _ hsrc i) (isTarget_congr hrec i) (isPending_congr hsub hpend i)

/-! Timers started and stopped -/

/-- A restart sets the timer of a source right (R8). -/
theorem idleLaw_restartIdle {i : Src} (h : ∀ j, j ≠ i → IdleAt s j) : IdleLaw (s.restartIdle i) := by
  intro j
  by_cases hj : j = i
  · subst hj
    have hruns : (s.restartIdle j).idleRuns j = s.idleRuns j :=
      idleRuns_congr (state_restartIdle j j s) (by rw [source_restartIdle, if_pos rfl]) (isTarget_congr (by simp) j)
        (isPending_congr (by simp) (by simp) j)
    rw [hruns, source_restartIdle, if_pos rfl]
    cases s.idleRuns j <;> rfl
  · exact idleAt_congr (h j hj) (by rw [source_restartIdle, if_neg hj]) (isTarget_congr (by simp) j)
      (isPending_congr (by simp) (by simp) j)

/-- A stop sets the timer of a source right where a condition of R8 fails. -/
theorem idleLaw_stopIdle {i : Src} (h : ∀ j, j ≠ i → IdleAt s j) (hr : s.idleRuns i = false) : IdleLaw (s.stopIdle i) := by
  intro j
  by_cases hj : j = i
  · subst hj
    refine idleAt_of_none (by rw [source_stopIdle, if_pos rfl]) ?_
    rw [idleRuns_congr (state_stopIdle j j s) (by rw [source_stopIdle, if_pos rfl]) (isTarget_congr (by simp) j)
      (isPending_congr (by simp) (by simp) j)]
    exact hr
  · exact idleAt_congr (h j hj) (by rw [source_stopIdle, if_neg hj]) (isTarget_congr (by simp) j)
      (isPending_congr (by simp) (by simp) j)

/-- A source that leaves for a state other than WARM with its timer stopped. -/
theorem IdleLaw.setSource (h : IdleLaw s) {i : Src} {x : Source} (hidle : x.idle = none) (hx : x.state ≠ .warm) :
    IdleLaw (s.setSource i x) := by
  intro j
  by_cases hj : j = i
  · subst hj
    exact idleAt_of_none (by rw [source_setSource, if_pos rfl]; exact hidle)
      (idleRuns_of_not_warm (by rw [source_setSource, if_pos rfl]; exact hx))
  · exact idleAt_congr (h j) (by rw [source_setSource, if_neg hj]) rfl rfl

theorem IdleLaw.postState (h : IdleLaw s) (i : Src) (purpose : Purpose) (new prev : SrcState) :
    IdleLaw (s.postState i purpose new prev) := h.same (by simp) (by simp) (by simp) (by simp)

/-! Sources -/

theorem IdleLaw.wake (h : IdleLaw s) (purpose : Purpose) (i : Src) : IdleLaw (s.wake purpose i) := by
  unfold State.wake
  split_ifs with hc
  · refine IdleLaw.postState (h.setSource ?_ (show SrcState.waking ≠ .warm by decide)) _ _ _ _
    exact idle_none (h i) (idleRuns_of_not_warm (by rw [hc.1]; decide))
  · exact h

theorem IdleLaw.park (h : IdleLaw s) (i : Src) : IdleLaw (s.park i) := by
  unfold State.park
  split_ifs
  · exact h
  · have hset : IdleLaw (s.setSource i (s.source i).parkedRec) := h.setSource rfl (by rintro ⟨⟩)
    have hpurge : IdleLaw (State.purge i (s.setSource i (s.source i).parkedRec)) := hset.same rfl rfl rfl rfl
    exact hpurge.postState _ _ _ _

theorem IdleLaw.faultSource (h : IdleLaw s) (cause : FaultCause) (i : Src) : IdleLaw (s.faultSource cause i) := by
  refine (h.setSource (i := i) (x := (s.source i).faultRec cause) rfl ?_).same ?_ ?_ ?_ ?_
  · rintro ⟨⟩
  · rfl
  · simp
  · simp
  · simp

theorem IdleLaw.enterWarm (h : IdleLaw s) (i : Src) : IdleLaw (s.enterWarm i) := by
  unfold State.enterWarm
  refine IdleLaw.postState (idleLaw_restartIdle fun j hj => ?_) _ _ _ _
  exact idleAt_congr (h j) (by rw [source_setSource, if_neg hj]) rfl rfl

theorem idleAt_setSource_same {i j : Src} (h : IdleAt s j) {x : Source} (hidle : x.idle = (s.source i).idle)
    (hstate : x.state = (s.source i).state) (hlen : x.idleTwenties = (s.source i).idleTwenties) :
    IdleAt (s.setSource i x) j := by
  unfold IdleAt
  by_cases hj : j = i
  · subst hj
    have hsrc : (s.setSource j x).source j = x := by rw [source_setSource, if_pos rfl]
    have hruns : (s.setSource j x).idleRuns j = s.idleRuns j :=
      idleRuns_congr (by rw [hsrc, hstate]) (by rw [hsrc, hlen]) rfl rfl
    rw [hruns, hsrc, hidle]
    exact h
  · exact idleAt_congr h (by rw [source_setSource, if_neg hj]) rfl rfl

theorem Drift.idleLaw (h : Drift P s t) (hs : IdleLaw s) : IdleLaw t := by
  induction h with
  | refl => exact hs
  | same _ hsrc hzc hcp _ ih => exact ih.same hsrc (by rw [hzc]) (by rw [hcp]) (by rw [hcp])
  | wake _ purpose i ih => exact ih.wake purpose i
  | sync _ i x hst ih =>
    exact ih.setSource (idle_none (ih i) (idleRuns_of_not_warm (by rw [hst]; decide))) (by simp)
  | warm _ i _ ih => exact ih.enterWarm i
  | ready _ i now ih => exact fun j => idleAt_setSource_same (ih j) rfl rfl rfl
  | park _ i _ ih => exact ih.park i
  | fault _ cause i _ ih => exact ih.faultSource cause i

/-! Role changes -/

theorem idleLaw_takeRole {i : Src} {role : SrcState} (h : ∀ j, j ≠ i → IdleAt s j)
    (hi : (s.source i).state = role → IdleAt s i) : IdleLaw (s.takeRole i role) := by
  unfold State.takeRole
  split_ifs with hs
  · intro j
    by_cases hj : j = i
    · exact hj ▸ hi hs
    · exact h j hj
  · refine IdleLaw.postState (idleLaw_restartIdle fun j hj => ?_) _ _ _ _
    exact idleAt_congr (h j hj) (by rw [source_setSource, if_neg hj]) rfl rfl

theorem IdleLaw.setRole (h : IdleLaw s) (i : Src) (role : SrcState) : IdleLaw (s.setRole i role) := by
  unfold State.setRole
  split_ifs
  · exact idleLaw_takeRole (fun j _ => h j) fun _ => h i
  · exact h

/-- A WARM source that takes the role of the primary: whatever its timer was, it stops. -/
theorem idleLaw_setRole_warm {i : Src} (hw : (s.source i).state = .warm) (h : ∀ j, j ≠ i → IdleAt s j) :
    IdleLaw (s.setRole i .primary) := by
  unfold State.setRole
  rw [if_pos (by rw [hw]; rfl)]
  refine idleLaw_takeRole (s := s.settleReports i) h fun hp => ?_
  rw [source_settleReports, hw] at hp
  cases hp

/-! The record -/

theorem IdleLaw.removeRecord (h : IdleLaw s) : IdleLaw s.removeRecord := by
  unfold State.removeRecord
  split
  · exact h
  next r hr =>
    refine idleLaw_restartIdle fun j hj => idleAt_congr (h j) rfl ?_ rfl
    rw [isTarget_none (s := s.setRecord none) rfl, isTarget_some hr, decide_eq_false (Ne.symm hj)]

theorem IdleLaw.createRecord (h : IdleLaw s) (r : Transition) : IdleLaw (s.createRecord r) := by
  unfold State.createRecord
  refine idleLaw_stopIdle (fun j hj => idleAt_congr (h.removeRecord j) rfl ?_ rfl) (idleRuns_of_target ?_)
  · rw [isTarget_some (r := r) rfl, isTarget_none (s := s.removeRecord) (by simp), decide_eq_false (Ne.symm hj)]
  · rw [isTarget_some (r := r) rfl]; exact decide_eq_true rfl

theorem IdleLaw.setRecord (h : IdleLaw s) {r q : Transition} (hr : s.zc.record = some r) (ht : q.taker = r.taker) :
    IdleLaw (s.setRecord (some q)) := fun i =>
  idleAt_congr (h i) rfl (by rw [isTarget_some (r := q) rfl, isTarget_some hr, ht]) rfl

theorem IdleLaw.dropPending (h : IdleLaw s) : IdleLaw s.dropPending := by
  unfold State.dropPending
  split
  · exact h
  next p hp =>
    refine idleLaw_restartIdle fun j hj => idleAt_congr (h j) rfl rfl ?_
    rw [isPending_none (s := s.setPending none) rfl, State.isPending, hp]
    simp [Ne.symm hj]

theorem IdleLaw.setSub (h : IdleLaw s) (x : OutSub) (hp : ∀ i, s.isPending i = false)
    (hx : s.cp.pendingPrimary = none ∨ x ≠ .starting) : IdleLaw (s.setSub x) := fun i =>
  idleAt_congr (h i) rfl rfl (by
    rw [hp i]
    exact hx.elim (fun hn => isPending_none hn) fun hn => isPending_of_sub hn)

theorem IdleLaw.setSub_dropPending (h : IdleLaw s) (x : OutSub) : IdleLaw (s.dropPending.setSub x) :=
  h.dropPending.setSub x (fun _ => isPending_none (by simp)) (.inl (by simp))

theorem IdleLaw.post (h : IdleLaw s) (source : Option Src) (p : Payload) : IdleLaw (s.post source p) :=
  h.same rfl rfl rfl rfl

theorem IdleLaw.spoil (h : IdleLaw s) (i : Src) (x : Spoiled) : IdleLaw (s.spoil i x) := h.same rfl rfl rfl rfl

/-! Hand-off and rescue -/

theorem IdleLaw.passPicture (h : IdleLaw s) (r : Transition) (change : SpoiledChange) (mode : HandMode) :
    IdleLaw (s.passPicture r change mode) := by
  have hp : IdleLaw (s.removeRecord.passRoles r) := (h.removeRecord.setRole _ _).setRole _ _
  unfold State.passPicture
  dsimp only
  split_ifs
  · exact hp.spoil _ _
  · exact hp.spoil _ _
  · exact hp.post _ _

theorem IdleLaw.startBlend (h : IdleLaw s) {r q : Transition} (hr : s.zc.record = some r) (ht : q.taker = r.taker) :
    IdleLaw (s.startBlend q) := by
  unfold State.startBlend State.advanceBlend
  exact ((h.setRole _ _).setRole _ _).setRecord (r := r) (by simpa using hr) ht

theorem IdleLaw.armedWork (h : IdleLaw s) {r : Transition} (hr : s.zc.record = some r) : IdleLaw (s.armedWork r) := by
  unfold State.armedWork
  split
  · exact h.wake _ _
  · split_ifs
    · exact h.passPicture _ _ _
    · exact h.setRecord hr rfl
  all_goals exact h

theorem IdleLaw.matchingWork (h : IdleLaw s) {r : Transition} (hr : s.zc.record = some r) : IdleLaw (s.matchingWork r) := by
  obtain ⟨u, hu, hfrom⟩ := record_matchUpdate { r with ticks := min (r.ticks + 1) 255 } s
  have ht : u.taker = r.taker := by rcases hfrom with rfl | ⟨_, _, _, _, rfl⟩ <;> rfl
  have hm : IdleLaw (s.matchUpdate { r with ticks := min (r.ticks + 1) 255 }) :=
    (h.setRecord hr ht).same (by simp) (by simpa using hu) (by simp) (by simp)
  unfold State.matchingWork
  simp only [hu]
  unfold State.decideMatch
  split_ifs
  · exact hm.startBlend hu rfl
  · exact IdleLaw.startBlend (hm.post _ _) (r := u) hu rfl
  · exact hm

theorem IdleLaw.rescueTo (h : IdleLaw s) (r : Transition) : IdleLaw (s.rescueTo r) := by
  unfold State.rescueTo
  split_ifs
  · exact h.spoil _ _
  · exact ((h.setSub_dropPending .running).setRole r.taker .primary).same (by simp) (by simp) (by simp) (by simp)

theorem IdleLaw.giveUp (h : IdleLaw s) (p : Src) : IdleLaw (s.giveUp p) := IdleLaw.post (h.setSub_dropPending .frozen) _ _

theorem IdleLaw.freezeFor (h : IdleLaw s) (faulted target : Src) : IdleLaw (s.freezeFor faulted target) := by
  unfold State.freezeFor
  split_ifs with hs
  · exact h.dropPending
  · exact IdleLaw.post (h.setSub .frozen (fun _ => isPending_of_sub hs) (.inr (by decide))) _ _

theorem IdleLaw.rescue (h : IdleLaw s) (p : Src) : IdleLaw (s.rescue p) := by
  unfold State.rescue
  split
  · exact h.rescueTo _
  · split
    · exact ((h.createRecord _).wake _ _).freezeFor _ _
    · exact h.giveUp p

theorem IdleLaw.rescueFailed (h : IdleLaw s) (r : Transition) : IdleLaw (s.rescueFailed r) :=
  IdleLaw.giveUp (h.removeRecord.post _ _) _

theorem IdleLaw.retarget (h : IdleLaw s) (r : Transition) (q : Src) : IdleLaw (s.retarget r q) := by
  have hw := (h.createRecord { r with taker := q, retargeted := true }).wake .normal q
  unfold State.retarget
  dsimp only
  split_ifs
  · exact hw.post _ _
  · exact hw

theorem IdleLaw.tryOther (h : IdleLaw s) (r : Transition) : IdleLaw (s.tryOther r) := by
  unfold State.tryOther
  split_ifs
  · exact h.rescueFailed r
  · split
    · exact h.rescueFailed r
    · split
      · exact h.removeRecord.rescueTo _
      · exact h.retarget _ _
      · exact h.retarget _ _
      · exact h.retarget _ _
      all_goals exact h.rescueFailed r

theorem IdleLaw.primaryFault (h : IdleLaw s) (p : Src) : IdleLaw (s.primaryFault p) := by
  unfold State.primaryFault
  split
  · exact h.rescue p
  · exact IdleLaw.rescue (h.removeRecord.post _ _) p

theorem IdleLaw.recordWork (h : IdleLaw s) {r : Transition} (hr : s.zc.record = some r) : IdleLaw (s.recordWork r) := by
  rw [recordWork_eq]
  split_ifs
  · unfold State.rescueWork
    split_ifs
    · exact h.removeRecord.rescueTo r
    · exact h
  · exact h.setRecord hr rfl
  · exact h.passPicture _ _ _
  · exact h.removeRecord
  · exact h.matchingWork hr
  · exact h.armedWork hr

theorem IdleLaw.handoffWork (h : IdleLaw s) : IdleLaw s.handoffWork := by
  unfold State.handoffWork
  split
  next r hr => exact h.recordWork hr
  · split_ifs
    · split
      · exact h
      next r _ => exact (h.createRecord r).armedWork (by simp)
    · exact h

theorem IdleLaw.wakePoints (h : IdleLaw s) : IdleLaw s.wakePoints := by
  have hupper (l : Ladder) (k : Nat) {t : State} (ht : IdleLaw t) : IdleLaw (t.wakeUpper l k) := by
    unfold State.wakeUpper
    split
    · exact ht
    · split_ifs
      · exact ht.wake _ _
      · exact ht
  have hlower (l : Ladder) (k : Nat) {t : State} (ht : IdleLaw t) : IdleLaw (t.wakeLower l k) := by
    unfold State.wakeLower
    split
    · split_ifs
      · split
        · exact ht
        · exact ht.wake _ _
      · exact ht
    · exact ht
  unfold State.wakePoints
  split_ifs
  · split
    · exact h
    · exact hlower _ _ (hupper _ _ h)
  · exact h

theorem IdleLaw.zoomStep (h : IdleLaw s) : IdleLaw s.zoomStep :=
  (h.same (t := s.zoomStages) (by simp) (by simp) (by simp) (by simp)).wakePoints.handoffWork

theorem IdleLaw.promotePending (h : IdleLaw s) : IdleLaw s.promotePending := by
  unfold State.promotePending
  split
  next p hsub hpend =>
    split_ifs with hw
    · refine idleLaw_setRole_warm hw fun j hj => idleAt_congr (h j) rfl rfl ?_
      rw [isPending_none (s := (s.setPending none).setSub .running) rfl, State.isPending, hpend]
      simp [Ne.symm hj]
    · exact h
  · exact h

theorem IdleLaw.tickWork (h : IdleLaw s) : IdleLaw s.tickWork := by
  have hv : IdleLaw s.videoSend := h.same (by simp) (by simp) (by simp) (by simp)
  unfold State.tickWork
  dsimp only
  split_ifs
  · exact hv.same (by simp) (by simp) (by simp) (by simp)
  · obtain ⟨hsub, hpend, _⟩ := output_composeBegin s.videoSend.promotePending.zoomStep
    exact hv.promotePending.zoomStep.same (by simp) (by simp) hsub hpend

theorem idleLaw_tick (h : IdleLaw s) : IdleLaw s.tick := by
  unfold State.tick
  split
  · refine IdleLaw.tickWork (IdleLaw.same h ?_ ?_ ?_ ?_) <;> simp
  · exact h

/-! Fault reports -/

theorem IdleLaw.handleFault (h : IdleLaw s) (i : Src) (role : SrcState) : IdleLaw (s.handleFault i role) := by
  unfold State.handleFault
  split
  · rw [reportOnRecord_eq]
    split_ifs
    · exact h.tryOther _
    · exact h
    · exact IdleLaw.post (h.removeRecord.setRole _ _) _ _
    · exact IdleLaw.post (h.removeRecord.setRole _ _) _ _
    · exact h
    · exact IdleLaw.post h.removeRecord _ _
    · exact h.primaryFault i
    · exact h
  · unfold State.reportAlone
    split_ifs
    · exact h.primaryFault i
    · exact h.rescue i
    · exact h

theorem IdleLaw.takeBack (h : IdleLaw s) (y : Spoiled) (cause : AbortCause) : IdleLaw (s.takeBack y cause) := by
  have hb := IdleLaw.post (h.setRole y.record.giver .primary) none (.handoffAborted y.record.kind y.record.giver
    y.record.taker y.record.phase y.record.index cause y.time)
  unfold State.takeBack
  dsimp only
  split_ifs
  · exact IdleLaw.rescue hb _
  · exact hb

theorem IdleLaw.handleReport (h : IdleLaw s) (i : Src) (x : Report) : IdleLaw (s.handleReport i x) := by
  unfold State.handleReport
  split
  · exact h.handleFault _ _
  · split_ifs
    · unfold State.settleTaker
      split
      · exact h.tryOther _
      · exact h.takeBack _ _
      · exact h.takeBack _ _
    · exact IdleLaw.handleFault (h.post _ _) _ _

theorem idleLaw_takeReport (h : IdleLaw s) (i : Src) : IdleLaw (s.takeReport i) := by
  unfold State.takeReport
  split
  · exact h
  next x rest _ =>
    have hset : IdleLaw (s.setReports i rest) := h.same rfl rfl rfl rfl
    split_ifs
    · exact hset.handleReport i x
    · exact hset

/-! Output start and stop -/

theorem idleLaw_awaitPrimary (h : IdleLaw s) (hsub : s.cp.sub ≠ .starting) (p : Src) : IdleLaw (s.awaitPrimary p) := by
  unfold State.awaitPrimary
  refine idleLaw_stopIdle (fun j hj => idleAt_congr (h j) rfl rfl ?_) (idleRuns_of_pending ?_)
  · rw [isPending_of_sub hsub]
    exact decide_eq_false fun hq => hj (Option.some.inj hq.2).symm
  · exact decide_eq_true ⟨rfl, rfl⟩

theorem idleLaw_outputStart (h : IdleLaw s) (hsub : s.link.part ≠ .streaming → s.cp.sub = .none) :
    IdleLaw s.outputStart.state := by
  unfold State.outputStart
  split_ifs with hp
  · exact h
  · exact h
  · have hnone : s.cp.sub = .none := hsub (by rw [not_not.mp hp]; decide)
    have hs : s.beginOutput.cp.sub ≠ .starting := by
      show s.cp.sub ≠ .starting
      rw [hnone]; decide
    have hb : IdleLaw s.beginOutput := h.same rfl rfl rfl rfl
    split
    · exact h
    · split_ifs
      · exact h
      · dsimp only
        unfold State.placePrimary
        split
        next hw =>
          exact idleLaw_setRole_warm hw fun j _ => idleAt_congr (hb j) rfl rfl (by
            rw [isPending_of_sub hs]; exact isPending_of_sub (by simp))
        · exact (idleLaw_awaitPrimary hb hs _).wake _ _
        · exact idleLaw_awaitPrimary hb hs _
        · exact idleLaw_awaitPrimary hb hs _
        all_goals exact hb

theorem IdleLaw.endRole (h : IdleLaw s) (i : Src) : IdleLaw (s.endRole i) := by
  unfold State.endRole
  refine IdleLaw.same (s := if (s.source i).state.isRole = true then s.takeRole i .warm else s) ?_ rfl rfl rfl rfl
  split_ifs
  · exact idleLaw_takeRole (fun j _ => h j) fun _ => h i
  · exact h

theorem idleLaw_outputStop (h : IdleLaw s) : IdleLaw s.outputStop.state := by
  unfold State.outputStop
  split_ifs
  · have hroles : IdleLaw s.removeRecord.dropPending.endRoles :=
      IdleLaw.endRole (IdleLaw.endRole (IdleLaw.endRole (IdleLaw.endRole h.removeRecord.dropPending _) _) _) _
    have hsub := hroles.setSub .none (fun _ => isPending_none (by simp)) (.inl (by simp))
    exact hsub.same (by simp [State.stopOutput, State.endOutput]) (by simp [State.stopOutput, State.endOutput])
      (by simp [State.stopOutput, State.endOutput]) (by simp [State.stopOutput, State.endOutput])
  · exact h

end Sys2Proof.Machine
end

section
/-! SUPPORT. What an event makes of the sources, the picture and the output, in the terms in which the laws of them are
kept. -/

namespace Sys2Proof.Machine

variable {P : Src → Prop} {s t : State}

/-! Drifts of the sources' events -/

/-- The sources that an event may park: those under a link test and those whose idle timer runs. -/
def Leaving (s : State) (i : Src) : Prop := (s.source i).purpose = .test ∨ (s.source i).idle.isSome = true

theorem Drift.waitTimer (h : Drift P s t) (x : Timer) : Drift P s (t.waitTimer x) := .same h (by simp) (by simp) (by simp) (by simp)

theorem Drift.setReceiver (h : Drift P s t) (i : Src) (x : Receiver) : Drift P s (t.setReceiver i x) :=
  .same h rfl rfl rfl rfl

theorem Drift.setRing (h : Drift P s t) (i : Src) (x : List FrameRec) : Drift P s (t.setRing i x) := .same h rfl rfl rfl rfl

theorem Drift.setIntake (h : Drift P s t) (i : Src) (x : Intake) : Drift P s (t.setIntake i x) := .same h rfl rfl rfl rfl

theorem Drift.testEnd (h : Drift P s t) {i : Src} (hp : P i) (code : TestCode) : Drift P s (t.testEnd i code) := by
  unfold State.testEnd
  split
  · exact .park h i hp
  · exact .same (.park h i hp) (by simp) (by simp) (by simp) (by simp)

theorem Drift.eighthBadFrame (h : Drift P s t) {i : Src} (hp : (t.source i).purpose = .test → P i) :
    Drift P s (t.eighthBadFrame i) := by
  unfold State.eighthBadFrame
  split_ifs with hs
  · split
    · exact .fault h _ i hs
    next ht => exact .testEnd h (hp ht) _
  · exact h

theorem Drift.badFrame (h : Drift P s t) {i : Src} (hp : (t.source i).purpose = .test → P i) (cause : BadCause)
    (lines : Nat) (counter : Option Half) : Drift P s (t.badFrame i cause lines counter) := by
  have hposted : Drift P s ((t.setReceiver i { t.receiver i with run := (t.receiver i).run + 1 }).postReceiver i
      (.linkFault cause lines ((t.receiver i).run + 1) counter)) := .same h (by simp) (by simp) (by simp) (by simp)
  unfold State.badFrame
  dsimp only
  split_ifs
  · refine hposted.eighthBadFrame fun ht => hp ?_
    rwa [source_congr (s := t) _ (by simp)] at ht
  · exact hposted

theorem Drift.cutOff (h : Drift P s t) {i : Src} (hp : (t.source i).purpose = .test → P i) : Drift P s (t.cutOff i) := by
  unfold State.cutOff
  split
  · exact h
  · exact h
  · exact (h.setRing i _).badFrame hp ..
  · exact (h.setRing i _).badFrame hp ..

theorem drift_frameStart (i : Src) (s : State) : Drift (Leaving s) s (s.frameStart i) := by
  unfold State.frameStart
  split_ifs
  · exact .refl
  · exact .same (t := s.cutOff i) (.cutOff .refl .inl) (by simp) (by simp) (by simp) (by simp)

theorem drift_takeLine (i : Src) (pixels : List Pixel) (s : State) : Drift (Leaving s) s (s.takeLine i pixels) := by
  unfold State.takeLine
  split
  · exact .refl
  · exact .refl
  · unfold State.takeMeta
    split
    · exact .same .refl (by simp) (by simp) (by simp) (by simp)
    · exact ((Drift.refl.setRing i _).setIntake i _).badFrame .inl ..
  · exact .same .refl (by simp) (by simp) (by simp) (by simp)

theorem drift_lineCountFault (i : Src) (s : State) : Drift (Leaving s) s (s.lineCountFault i) :=
  ((Drift.refl.setRing i _).setIntake i _).badFrame .inl ..

theorem drift_goodFrame (i : Src) (s : State) : Drift (Leaving s) s (s.goodFrame i) := by
  have hready : Drift (Leaving s) s (((s.setRing i ((s.ring i).map fun r => r.finish (s.receiver i).sums)).setSource i
      ((s.source i).readyAt s.cru.time)).setReceiver i
      { s.receiver i with intake := .between, run := 0, sums := ⟨0, 0, 0⟩ }) :=
    ((Drift.refl.setRing i _).ready i s.cru.time).setReceiver i _
  unfold State.goodFrame State.firstReady
  dsimp only
  split_ifs with hs
  · split
    · exact .warm hready i hs
    next ht =>
      refine .testEnd hready (.inl ?_) _
      rwa [source_setReceiver, source_setSource, if_pos rfl] at ht
  · exact hready

theorem drift_frameEnd (i : Src) (s : State) : Drift (Leaving s) s (s.frameEnd i) := by
  unfold State.frameEnd
  split
  · exact .refl
  · exact .setIntake .refl i _
  · exact drift_lineCountFault i s
  · split_ifs
    · exact drift_goodFrame i s
    · exact drift_lineCountFault i s

theorem drift_settleExpiry (i : Src) (s : State) : Drift P s (s.settleExpiry i) := by
  unfold State.settleExpiry
  split
  · exact .refl
  next x _ =>
    split_ifs with hs
    · refine .same (.sync (.waitTimer .refl x) i ((s.waitTimer x).timer (((s.waitTimer x).source i).syncTens * 10000)) ?_)
        ?_ ?_ ?_ ?_
      · rw [source_waitTimer, hs]
      all_goals simp [State.enterSyncing]
    · exact .refl

theorem drift_syncExpiry (i : Src) (s : State) : Drift (Leaving s) s (s.syncExpiry i) := by
  unfold State.syncExpiry
  split
  · exact .refl
  next x _ =>
    split_ifs with hs
    · unfold State.syncFailed
      rw [source_waitTimer]
      split
      · refine .fault (.waitTimer .refl x) _ i ?_
        rw [source_waitTimer, hs]; rfl
      next ht => exact .testEnd (.waitTimer .refl x) (.inl ht) _
    · exact .refl

theorem drift_frameTimeout (i : Src) (s : State) : Drift P s (s.frameTimeout i) := by
  unfold State.frameTimeout
  split
  · exact .refl
  next x _ =>
    split_ifs with hs
    · refine .fault (.waitTimer .refl x) _ i ?_
      rw [source_waitTimer]
      exact keepsFrames_of_usable hs
    · exact .refl

theorem drift_idleExpiry (i : Src) (s : State) : Drift (Leaving s) s (s.idleExpiry i) := by
  unfold State.idleExpiry
  split
  · exact .refl
  next x hx =>
    split_ifs with hs
    · exact .park (.waitTimer .refl x) i (.inr (by rw [hx]; rfl))
    · exact .refl

theorem Drift.beginTest (h : Drift P s t) (i : Src) : Drift P s (t.beginTest i) := by
  unfold State.beginTest
  split
  · exact .wake h ..
  all_goals exact h

theorem drift_linkTest (s : State) : Drift P s s.linkTest.state := by
  unfold State.linkTest
  split_ifs
  · exact .refl
  · exact .same (.beginTest (.beginTest (.beginTest (.beginTest .refl .s0) .s1) .s2) .s3) (by simp) (by simp) (by simp) (by simp)

theorem drift_powerWake (src : Byte) (s : State) : Drift P s (s.powerWake src).state := by
  unfold State.powerWake
  split
  · exact .refl
  · split_ifs
    · exact .refl
    · exact .refl
    · unfold State.wakeKnown
      split
      · exact .refl
      · exact .wake .refl ..
      all_goals exact .refl

theorem drift_parkAll (s : State) : Drift (fun _ => True) s s.parkAll :=
  .park (.park (.park (.park .refl _ trivial) _ trivial) _ trivial) _ trivial

/-! The course of an event -/

/-- `t` has the sources, the zoom state, the output sub-state, the pending primary and the deadline of `s`. -/
structure Plain (s t : State) : Prop where
  sources : t.sources = s.sources
  zc : t.zc = s.zc
  sub : t.cp.sub = s.cp.sub
  pending : t.cp.pendingPrimary = s.cp.pendingPrimary
  deadline : t.cp.deadline = s.cp.deadline

/-- What an event makes of the sources, the picture and the output. -/
inductive Course (s : State) : State → Prop
  | plain {t : State} (h : Plain s t) (hp : t.link.part = s.link.part) : Course s t
  | drift {t : State} (h : Drift (Leaving s) s t) : Course s t
  | reset {t : State} (hsrc : t.sources = Four.fill Source.reset) (hzc : t.zc = ZoomCtl.reset)
      (hcp : t.cp = Compositor.reset) (hpart : t.link.part = .reset) : Course s t
  | config {t : State} (h : Plain s t) (hs : s.link.part ≠ .streaming) (ht : t.link.part ≠ .streaming) : Course s t
  | suspend {u t : State} (hs : s.link.part = .config) (h : Drift (fun _ => True) s u) (k : Plain u t)
      (ht : t.link.part = .suspended) : Course s t
  | free (i : Src) (h : s.freeableTarget i = true) (hr : (s.source i).state.isRole = false) : Course s (s.removeRecord.park i)
  | park (i : Src) (hr : s.rescueTarget i = false) (hf : s.freeableTarget i = false) : Course s (s.park i)
  | define (i : Src) (d : Description) (hs : (s.source i).state = .parked) (hl : s.onLadder i = false)
      (hd : d.badField = none) : Course s ((s.setSource i ((s.source i).describe d)).setWindow i none)
  | ladder {count : Byte} {rungs : List RungRec} {l : Ladder} (hs : s.link.part = .config)
      (hn : rungs ≠ []) (h : s.checkRungs rungs [] = .ok l) : Course s (s.takeLadder l)
  | zoomSet (target rate : Half) : Course s (s.zoomSet target rate).state
  | pin (on : Bool) (h : on = true → s.link.part = .streaming) : Course s (s.setPinned on)
  | disarm (h : s.link.part = .streaming) (hb : ¬ s.Blending) : Course s (s.removeRecord.setPinned true)
  | report (i : Src) : Course s (s.takeReport i)
  | tick : Course s s.tick
  | start (hs : s.link.part = .config) : Course s s.outputStart.state
  | stop (hs : s.link.part = .streaming) : Course s s.outputStop.state

theorem Course.refl (s : State) : Course s s := .plain ⟨rfl, rfl, rfl, rfl, rfl⟩ rfl

theorem course_powerPark (src : Byte) (s : State) : Course s (s.powerPark src).state := by
  unfold State.powerPark
  split
  · exact .refl s
  next i _ =>
    split_ifs
    · exact .refl s
    · exact .refl s
    · unfold State.parkKnown State.freeAndPark
      split_ifs with hrole _ htarget _ hfree
      · exact .refl s
      · exact .refl s
      · exact .refl s
      · exact .refl s
      · exact .free i hfree (by simpa using hrole)
      · exact .park i (by simpa using htarget) (by simpa using hfree)

theorem course_sourceDefine (src : Byte) (d : Description) (s : State) : Course s (s.sourceDefine src d).state := by
  unfold State.sourceDefine
  split
  · exact .refl s
  next i _ =>
    unfold State.define
    split_ifs with hs hl
    · exact .refl s
    · exact .refl s
    · exact .refl s
    · split
      · exact .refl s
      next hd => exact .define i d (not_not.mp hs) (by simpa using hl) hd

theorem course_ladderSet {count : Byte} {rungs : List RungRec} (queryOnly : Bool) (hs : s.link.part = .config)
    (hl : (Request.ladderSet count rungs).lengthAgrees = true) : Course s (s.ladderSet count rungs queryOnly).state := by
  unfold State.ladderSet
  split
  · exact .refl s
  next hc =>
    split
    · exact .refl s
    next l h =>
      cases queryOnly with
      | true => exact .refl s
      | false =>
        refine .ladder (count := count) hs ?_ h
        rintro rfl
        simp only [Request.lengthAgrees, List.length_nil, decide_eq_true_eq] at hl
        omega

theorem course_pinOn (s : State) : Course s s.pinOn.state := by
  unfold State.pinOn
  split_ifs with hs
  · unfold State.pinRunning
    split
    · exact .pin true fun _ => hs.1
    next r hr =>
      split_ifs with hb hp
      · exact .pin true fun _ => hs.1
      · exact .pin true fun _ => hs.1
      · exact .disarm hs.1 fun ⟨q, hq, hblend⟩ => hb (by rw [hr] at hq; cases hq; exact hblend)
  · exact .refl s

theorem plain_composeComplete (s : State) : Plain s s.composeComplete := by
  obtain ⟨hsub, hpend, hdead⟩ : s.composeComplete.cp.sub = s.cp.sub ∧
      s.composeComplete.cp.pendingPrimary = s.cp.pendingPrimary ∧ s.composeComplete.cp.deadline = s.cp.deadline := by
    unfold State.composeComplete
    split
    · exact ⟨rfl, rfl, rfl⟩
    next k _ =>
      split_ifs
      · simpa [State.completeLive] using output_setPicture s.cp k.buffer (some (s.compositeOf k))
      · exact ⟨rfl, rfl, rfl⟩
  exact ⟨by simp, by simp, hsub, hpend, hdead⟩

theorem course_suspend (hs : s.link.part = .config) : Course s s.suspend.state := by
  unfold State.suspend
  split_ifs
  · exact .refl s
  · exact .refl s
  · refine .suspend (t := s.suspendPart) hs (drift_parkAll s) ⟨?_, ?_, ?_, ?_, ?_⟩ ?_
    all_goals simp [State.suspendPart]

/-- What the owner of a request makes of the sources, the picture and the output. -/
theorem course_serve {q : Request} (queryOnly : Bool) (hp : s.link.part.passes q = true) (hl : q.lengthAgrees = true) :
    Course s (s.serve q queryOnly).state := by
  cases q
  case linkTest => exact .drift (drift_linkTest s)
  case suspend => exact course_suspend (by simpa [PartState.passes] using hp)
  case resume =>
    have hpart : s.link.part = .suspended := by simpa [PartState.passes] using hp
    exact .config ⟨rfl, rfl, rfl, rfl, rfl⟩ (by rw [hpart]; decide) (by simp [State.serve, State.resume])
  case sourceDefine => exact course_sourceDefine ..
  case sourcePower src action =>
    unfold State.serve
    dsimp only
    split_ifs
    · exact .drift (drift_powerWake src s)
    · exact course_powerPark src s
  case ladderSet => exact course_ladderSet queryOnly (by simpa [PartState.passes] using hp) hl
  case outputStart => exact .start (by simpa [PartState.passes] using hp)
  case outputStop => exact .stop (by simpa [PartState.passes] using hp)
  case zoomSet target rate => exact .zoomSet target rate
  case pinSource =>
    unfold State.serve
    dsimp only
    split_ifs
    · exact course_pinOn s
    · exact .pin false (by rintro ⟨⟩)
  case stillTake =>
    unfold State.serve
    dsimp only
    split_ifs
    · exact .plain (by constructor <;> simp) (by simp)
    · exact .plain (by constructor <;> simp) (by simp)
  case stillFlow =>
    unfold State.serve
    dsimp only
    split_ifs
    · exact .plain (by constructor <;> simp) (by simp)
    · exact .plain (by constructor <;> simp) (by simp)
    · exact .plain (by constructor <;> simp) (by simp)
  all_goals
    refine .plain ?_ ?_
    · constructor <;> simp [State.serve]
    · simp [State.serve]

/-- What an event makes of the sources, the picture and the output; lock is reached in RESET only. -/
theorem Event.course (h : Event s t) (hlock : s.cru.lock = .locking → s.link.part = .reset) : Course s t := by
  cases h with
  | served queryOnly hp _ hl => exact course_serve queryOnly hp hl
  | hardReset => exact .reset rfl rfl rfl rfl
  | linkReset => exact .reset rfl rfl rfl rfl
  | reachLock =>
    unfold State.reachLock
    split_ifs with hc
    · refine .config ⟨?_, ?_, ?_, ?_, ?_⟩ (by rw [hlock hc.2]; decide) (by simp [State.postReady])
      all_goals simp [State.postReady]
    · exact .refl s
  | endLinkReset =>
    unfold State.endLinkReset
    split_ifs with hc
    · refine .config ⟨?_, ?_, ?_, ?_, ?_⟩ (by rw [hc.1]; decide) (by simp [State.postReady])
      all_goals simp [State.postReady]
    · exact .refl s
  | frameStart i => exact .drift (drift_frameStart i s)
  | takeLine i pixels => exact .drift (drift_takeLine i pixels s)
  | frameEnd i => exact .drift (drift_frameEnd i s)
  | settleExpiry i => exact .drift (drift_settleExpiry i s)
  | syncExpiry i => exact .drift (drift_syncExpiry i s)
  | frameTimeout i => exact .drift (drift_frameTimeout i s)
  | idleExpiry i => exact .drift (drift_idleExpiry i s)
  | takeReport i => exact .report i
  | tick => exact .tick
  | composeComplete => exact .plain (plain_composeComplete s) (by simp)
  | release | endPulse | groupBegin | groupEnd | pauseTimeout | videoEnd | passMicrosecond =>
    exact .plain (by constructor <;> simp) (by simp)

end Sys2Proof.Machine
end

section
/-! SUPPORT. The law of the picture and the law of the idle timers through every event. -/

namespace Sys2Proof.Machine

variable {P : Src → Prop} {s t : State}

/-! Who may leave -/

/-- The target of a match is not parked by its own timers or its test: it is WARM with no idle timer, or in FAULT. -/
theorem not_leaving_of_matching (hsrc : SourceLaw s) (hidle : IdleLaw s) (hs : Scene s) {r : Transition}
    (hr : s.zc.record = some r) (hp : r.phase = .matching) : ¬ Leaving s r.taker := by
  have hstate : (s.source r.taker).state = .warm ∨ (s.source r.taker).state = .fault :=
    (hs.matching r hr hp).imp_right And.left
  rintro (htest | hrun)
  · rcases (hsrc r.taker).purpose htest with h | h <;> rcases hstate with hw | hw <;> rw [h] at hw <;> cases hw
  · have htarget : s.isTarget r.taker = true := by rw [isTarget_some hr]; exact decide_eq_true rfl
    rw [idle_none (hidle r.taker) (idleRuns_of_target htarget)] at hrun
    cases hrun

/-! The ladder -/

theorem checkRung_source {lower : Ladder} {x : RungRec} {r : Rung} (h : s.checkRung lower x = .ok r) :
    byteSource x.source = some r.source ∧ (∀ q ∈ lower, q.source ≠ r.source) := by
  unfold State.checkRung at h
  split at h
  · cases h
  next i hi =>
    split_ifs at h with hany
    have hnew : ∀ q ∈ lower, q.source ≠ i := by simpa using hany
    split at h
    · cases h; exact ⟨hi, hnew⟩
    · split at h
      · cases h
      · cases h; exact ⟨hi, hnew⟩

theorem checkRungs_nodup {rungs : List RungRec} : ∀ {lower l : Ladder}, s.checkRungs rungs lower = .ok l →
    (lower.map Rung.source).Nodup → (l.map Rung.source).Nodup := by
  induction rungs with
  | nil => rintro lower l ⟨⟩ hn; exact hn
  | cons x rest ih =>
    intro lower l h hn
    unfold State.checkRungs at h
    split at h
    · cases h
    next r hr =>
      refine ih h ?_
      rw [List.map_append, List.nodup_append]
      refine ⟨hn, by simp, fun a ha b hb => ?_⟩
      obtain ⟨q, hq, rfl⟩ := List.mem_map.mp ha
      rw [List.map_singleton, List.mem_singleton] at hb
      exact hb ▸ (checkRung_source hr).2 q hq

/-! The picture -/

theorem scene_of_reset (hsrc : t.sources = Four.fill Source.reset) (hzc : t.zc = ZoomCtl.reset)
    (hcp : t.cp = Compositor.reset) : Scene t := by
  have hsource (i : Src) : t.source i = Source.reset := by rw [State.source, hsrc, get_fill]
  have hreports (i : Src) : t.zc.reports.get i = [] := by rw [hzc]; exact get_fill ..
  refine scene_of_released (fun i => ?_) (by rw [hzc]; rfl) (by rw [hcp]; decide) ?_ ?_
  · refine ⟨by rw [hsource]; rfl, by rw [hreports]; simp⟩
  · rw [hcp]; rfl
  · rw [hzc]; rintro _ ⟨⟩

theorem plain_scene (h : Plain s t) (hs : Scene s) : Scene t := hs.sameParts h.sources h.zc h.sub h.pending

/-- A record toward a source that may be parked is no rescue, and its blend has not begun (R22). -/
theorem freeableTarget_iff {i : Src} : s.freeableTarget i = true ↔
    ∃ r, s.zc.record = some r ∧ r.kind ≠ .rescue ∧ r.phase ≠ .blending ∧ r.taker = i := by
  unfold State.freeableTarget
  cases s.zc.record with
  | none => simp
  | some r => simp

theorem notBlending_of_freeable {i : Src} (h : s.freeableTarget i = true) : ¬ s.Blending := by
  obtain ⟨r, hr, _, hp, _⟩ := freeableTarget_iff.mp h
  rintro ⟨q, hq, hb⟩
  rw [hr] at hq
  cases hq
  exact hp hb

/-- A MATCHING target that is not to be freed is not the source. -/
theorem taker_ne_of_not_freeable (hs : Scene s) {i : Src} (h : s.freeableTarget i = false) {r : Transition}
    (hr : s.zc.record = some r) (hp : r.phase = .matching) : ¬ r.taker = i := by
  intro hi
  have hkind : r.kind ≠ .rescue := fun hk => by
    obtain ⟨_, _, ha⟩ := hs.rescue r hr hk
    rw [hp] at ha
    cases ha
  have hfree : s.freeableTarget i = true := freeableTarget_iff.mpr ⟨r, hr, hkind, by rw [hp]; decide, hi⟩
  rw [h] at hfree
  cases hfree

theorem scene_define (hs : Scene s) (i : Src) (d : Description) :
    Scene ((s.setSource i ((s.source i).describe d)).setWindow i none) := by
  refine hs.same (fun j => ?_) rfl rfl rfl rfl rfl
  rw [source_setWindow, source_setSource]
  split_ifs with hj
  · rw [hj]; rfl
  · rfl

theorem scene_takeLadder (hs : Scene s) {l : Ladder} (hl : (l.map Rung.source).Nodup) : Scene (s.takeLadder l) where
  single := hs.single
  quiet := hs.quiet
  lone := hs.lone
  blend := hs.blend
  handoff := hs.handoff
  rescue := hs.rescue
  matching := hs.matching
  spoiled := hs.spoiled
  waiting := hs.waiting
  rungs := by rintro _ ⟨⟩; exact hl

theorem scene_zoomSet (hs : Scene s) (target rate : Half) : Scene (s.zoomSet target rate).state := by
  unfold State.zoomSet
  split_ifs
  · exact hs
  · exact hs.same (fun _ => rfl) rfl rfl rfl rfl rfl

/-- Every event keeps the law of the picture, under the laws of the sources and of the output. -/
theorem Course.scene (h : Course s t) (hsrc : SourceLaw s) (hout : OutputLaw s) (hidle : IdleLaw s) (hs : Scene s) :
    Scene t := by
  have hnone : s.link.part = .config → s.zc.record = none := fun hp => hout.record (by rw [hp]; decide)
  cases h with
  | plain h _ => exact plain_scene h hs
  | drift h => exact h.scene hs fun r hr hp => not_leaving_of_matching hsrc hidle hs hr hp
  | reset hsrc hzc hcp _ => exact scene_of_reset hsrc hzc hcp
  | config h _ _ => exact plain_scene h hs
  | suspend hp h k _ => exact plain_scene k (h.scene hs fun r hr => by rw [hnone hp] at hr; cases hr)
  | free i hf _ =>
    exact Drift.scene (P := fun _ => True) (.park .refl i trivial) (hs.removeRecord (notBlending_of_freeable hf))
      fun r hr => by simp at hr
  | park i _ hf => exact Drift.scene (P := (· = i)) (.park .refl i rfl) hs fun _ => taker_ne_of_not_freeable hs hf
  | define i d => exact scene_define hs i d
  | ladder _ _ hl => exact scene_takeLadder hs (checkRungs_nodup hl List.nodup_nil)
  | zoomSet target rate => exact scene_zoomSet hs target rate
  | pin on => exact hs.same (fun _ => rfl) rfl rfl rfl rfl rfl
  | disarm _ hb => exact (hs.removeRecord hb).same (fun _ => rfl) rfl rfl rfl rfl rfl
  | report i =>
    exact scene_takeReport hs i fun hp => ⟨hout.record hp, fun x hx => (hout.reports hp i x hx).1⟩
  | tick => exact scene_tick hs
  | start =>
    exact scene_outputStart hs hout.record fun hp => by simpa using mt hout.sub.mpr hp
  | stop => exact scene_outputStop hs

/-! The idle timers -/

theorem plain_idleLaw (h : Plain s t) (hs : IdleLaw s) : IdleLaw t := hs.same h.sources (by rw [h.zc]) h.sub h.pending

theorem idleLaw_of_reset (hsrc : t.sources = Four.fill Source.reset) : IdleLaw t := by
  intro i
  have hsource : t.source i = Source.reset := by rw [State.source, hsrc, get_fill]
  exact idleAt_of_none (by rw [hsource]; rfl) (idleRuns_of_not_warm (by rw [hsource]; decide))

/-- A description is given to a PARKED source, which has no idle timer. -/
theorem idleLaw_define (hs : IdleLaw s) {i : Src} (hp : (s.source i).state = .parked) (d : Description) :
    IdleLaw ((s.setSource i ((s.source i).describe d)).setWindow i none) := by
  have hset : IdleLaw (s.setSource i ((s.source i).describe d)) :=
    hs.setSource (idle_none (hs i) (idleRuns_of_not_warm (by rw [hp]; decide)))
      (show (s.source i).state ≠ .warm by rw [hp]; decide)
  exact hset.same rfl rfl rfl rfl

theorem idleLaw_zoomSet (hs : IdleLaw s) (target rate : Half) : IdleLaw (s.zoomSet target rate).state := by
  unfold State.zoomSet
  split_ifs
  · exact hs
  · exact hs.same rfl rfl rfl rfl

/-- Every event keeps the law of the idle timers, where no pending primary waits outside STREAMING. -/
theorem Course.idleLaw (h : Course s t) (hout : OutputLaw s) (hs : IdleLaw s) : IdleLaw t := by
  cases h with
  | plain h _ => exact plain_idleLaw h hs
  | drift h => exact h.idleLaw hs
  | reset hsrc _ _ _ => exact idleLaw_of_reset hsrc
  | config h _ _ => exact plain_idleLaw h hs
  | suspend _ h k _ => exact plain_idleLaw k (h.idleLaw hs)
  | free i => exact hs.removeRecord.park i
  | park i => exact hs.park i
  | define i d hp => exact idleLaw_define hs hp d
  | ladder => exact hs.same rfl rfl rfl rfl
  | zoomSet target rate => exact idleLaw_zoomSet hs target rate
  | pin on => exact hs.same rfl rfl rfl rfl
  | disarm => exact hs.removeRecord.same rfl rfl rfl rfl
  | report i => exact idleLaw_takeReport hs i
  | tick => exact idleLaw_tick hs
  | start => exact idleLaw_outputStart hs fun hp => by simpa using mt hout.sub.mpr hp
  | stop => exact idleLaw_outputStop hs

theorem Event.idleLaw (h : Event s t) (hout : OutputLaw s) (hs : IdleLaw s) : IdleLaw t :=
  (h.course fun hl => (hout.locking hl).1).idleLaw hout hs

theorem Event.scene (h : Event s t) (hsrc : SourceLaw s) (hout : OutputLaw s) (hidle : IdleLaw s) (hs : Scene s) :
    Scene t := (h.course fun hl => (hout.locking hl).1).scene hsrc hout hidle hs

theorem outputLaw_exchange (h : Exchange s t) (hs : OutputLaw s) : OutputLaw t := by
  obtain ⟨_, _, _, _, _, _, rfl⟩ := h
  exact ⟨hs.held, hs.locking, hs.sub, hs.deadline, hs.waiting, hs.record, hs.zoom, hs.roles, hs.reports⟩

theorem idleLaw_exchange (h : Exchange s t) (hs : IdleLaw s) : IdleLaw t := by
  obtain ⟨_, _, _, _, _, _, rfl⟩ := h
  exact hs

theorem scene_exchange (h : Exchange s t) (hs : Scene s) : Scene t := by
  obtain ⟨_, _, _, _, _, _, rfl⟩ := h
  exact ⟨hs.single, hs.quiet, hs.lone, hs.blend, hs.handoff, hs.rescue, hs.matching, hs.spoiled, hs.waiting, hs.rungs⟩

/-- Settles O52: every event is a chain of lawful moves of the source records, and restarts, stops or clears the idle
timer of each source whose condition it changes. -/
theorem sourceLawsKept : Obligations.SourceLawsKept :=
  ⟨kept_sourceLaw, fun s _ _ hout _ hidle h =>
    step_establishes (pre := fun s => OutputLaw s ∧ IdleLaw s)
      (fun h hs => ⟨outputLaw_exchange h hs.1, idleLaw_exchange h hs.2⟩) idleLaw_exchange And.right
      (fun h hs => h.idleLaw hs.1 hs.2) (s := s) ⟨hout, hidle⟩ h⟩

end Sys2Proof.Machine
end

section
/-! THEOREM. The law of the part state against the output (R3, R73, R87, R133, R175, R190), and with it the laws of the sources
and of the picture together (R3, R12, R15, R110). -/

namespace Sys2Proof.Machine

variable {P : Src → Prop} {s t : State}

/-! The output of a STREAMING part -/

/-- The output state of a STREAMING part: there is one, and a pending primary waits in STARTING only. -/
structure Showing (s : State) : Prop where
  sub : s.cp.sub ≠ .none
  waiting : s.cp.pendingPrimary.isSome = true → s.cp.sub = .starting

theorem Showing.same (h : Showing s) (hsub : t.cp.sub = s.cp.sub) (hpend : t.cp.pendingPrimary = s.cp.pendingPrimary) :
    Showing t := ⟨by rw [hsub]; exact h.sub, by rw [hsub, hpend]; exact h.waiting⟩

theorem Showing.output (h : Showing s) (hcp : t.cp = s.cp) : Showing t := h.same (by rw [hcp]) (by rw [hcp])

theorem showing_of_no_pending (hsub : t.cp.sub ≠ .none) (hpend : t.cp.pendingPrimary = none) : Showing t :=
  ⟨hsub, by rw [hpend]; rintro ⟨⟩⟩

theorem Showing.rescueTo (h : Showing s) (r : Transition) : Showing (s.rescueTo r) := by
  unfold State.rescueTo
  split_ifs
  · exact h.output (by simp)
  · exact showing_of_no_pending (by simp) (by simp)

theorem showing_giveUp (p : Src) (s : State) : Showing (s.giveUp p) :=
  showing_of_no_pending (by simp [State.giveUp]) (by simp [State.giveUp])

theorem Showing.freezeFor (h : Showing s) (faulted target : Src) : Showing (s.freezeFor faulted target) := by
  unfold State.freezeFor
  split_ifs with hs
  · exact showing_of_no_pending (by simpa using h.sub) (by simp)
  · refine showing_of_no_pending (by simp) ?_
    have hnone : s.cp.pendingPrimary = none := by simpa using mt h.waiting hs
    simpa using hnone

theorem Showing.rescue (h : Showing s) (p : Src) : Showing (s.rescue p) := by
  unfold State.rescue
  split
  · exact h.rescueTo _
  · split
    · exact Showing.freezeFor (h.output (by simp)) ..
    · exact showing_giveUp p s

theorem Showing.retarget (h : Showing s) (r : Transition) (q : Src) : Showing (s.retarget r q) := by
  unfold State.retarget
  dsimp only
  split_ifs
  · exact h.output (by simp)
  · exact h.output (by simp)

theorem Showing.tryOther (h : Showing s) (r : Transition) : Showing (s.tryOther r) := by
  unfold State.tryOther
  split_ifs
  · exact showing_giveUp ..
  · split
    · exact showing_giveUp ..
    · split
      · exact Showing.rescueTo (h.output (by simp)) _
      · exact h.retarget ..
      · exact h.retarget ..
      · exact h.retarget ..
      all_goals exact showing_giveUp ..

theorem Showing.primaryFault (h : Showing s) (p : Src) : Showing (s.primaryFault p) := by
  unfold State.primaryFault
  split
  · exact h.rescue p
  · exact Showing.rescue (h.output (by simp)) p

theorem Showing.handleFault (h : Showing s) (i : Src) (role : SrcState) : Showing (s.handleFault i role) := by
  unfold State.handleFault
  split
  · rw [reportOnRecord_eq]
    split_ifs
    · exact h.tryOther _
    · exact h
    · exact h.output (by simp)
    · exact h.output (by simp)
    · exact h
    · exact h.output (by simp)
    · exact h.primaryFault i
    · exact h
  · unfold State.reportAlone
    split_ifs
    · exact h.primaryFault i
    · exact h.rescue i
    · exact h

theorem Showing.takeBack (h : Showing s) (y : Spoiled) (cause : AbortCause) : Showing (s.takeBack y cause) := by
  unfold State.takeBack
  dsimp only
  split_ifs
  · exact Showing.rescue (h.output (by simp)) _
  · exact h.output (by simp)

theorem Showing.handleReport (h : Showing s) (i : Src) (x : Report) : Showing (s.handleReport i x) := by
  unfold State.handleReport
  split
  · exact h.handleFault ..
  · split_ifs
    · unfold State.settleTaker
      split
      · exact h.tryOther _
      · exact h.takeBack ..
      · exact h.takeBack ..
    · exact Showing.handleFault (h.output (by simp)) ..

theorem Showing.takeReport (h : Showing s) (i : Src) : Showing (s.takeReport i) := by
  unfold State.takeReport
  split
  · exact h
  · split_ifs
    · exact Showing.handleReport (h.output (by simp)) ..
    · exact h.output (by simp)

theorem Showing.recordWork (h : Showing s) (r : Transition) : Showing (s.recordWork r) := by
  rw [recordWork_eq]
  split_ifs
  · unfold State.rescueWork
    split_ifs
    · exact Showing.rescueTo (h.output (by simp)) r
    · exact h
  all_goals exact h.output (by simp)

theorem Showing.zoomStep (h : Showing s) : Showing s.zoomStep := by
  have hw : Showing s.zoomStages.wakePoints := h.output (by simp)
  unfold State.zoomStep State.handoffWork
  split
  · exact hw.recordWork _
  · split_ifs
    · split
      · exact hw
      · exact hw.output (by simp)
    · exact hw

theorem Showing.promotePending (h : Showing s) : Showing s.promotePending := by
  unfold State.promotePending
  split
  · split_ifs
    · exact showing_of_no_pending (by simp) (by simp [State.setPending])
    · exact h
  · exact h

theorem Showing.tickWork (h : Showing s) : Showing s.tickWork := by
  have hv : Showing s.videoSend := h.same (by simp) (by simp)
  unfold State.tickWork
  dsimp only
  split_ifs
  · exact hv.same (by simp) (by simp)
  · obtain ⟨hsub, hpend, _⟩ := output_composeBegin s.videoSend.promotePending.zoomStep
    exact hv.promotePending.zoomStep.same hsub hpend

theorem Showing.tick (h : Showing s) : Showing s.tick := by
  unfold State.tick
  split
  · exact Showing.tickWork (h.same (by simp) (by simp))
  · exact h

/-- The work of a tick leaves the deadline. -/
theorem deadline_tickWork (s : State) : s.tickWork.cp.deadline = s.cp.deadline := by
  unfold State.tickWork
  dsimp only
  split_ifs
  · simp
  · rw [(output_composeBegin _).2.2]
    simp

theorem deadline_tick (h : s.cp.deadline.isSome = true) : s.tick.cp.deadline.isSome = true := by
  unfold State.tick
  split
  · rw [deadline_tickWork]; rfl
  · exact h

/-! The part state against the output -/

/-- The law of the output but for the clock. -/
structure Staged (s : State) : Prop where
  sub : s.link.part = .streaming ↔ s.cp.sub ≠ .none
  deadline : s.link.part = .streaming ↔ s.cp.deadline.isSome = true
  waiting : s.cp.pendingPrimary.isSome = true → s.cp.sub = .starting
  record : s.link.part ≠ .streaming → s.zc.record = none
  zoom : s.link.part ≠ .streaming → s.zc.held = false ∧ s.zc.pinned = false
  released : s.link.part ≠ .streaming → ∀ i, s.Released i

theorem OutputLaw.staged (h : OutputLaw s) : Staged s :=
  ⟨h.sub, h.deadline, h.waiting, h.record, h.zoom, fun hp i => ⟨h.roles hp i, h.reports hp i⟩⟩

theorem staged_of_streaming (hp : t.link.part = .streaming) (hs : Showing t) (hd : t.cp.deadline.isSome = true) :
    Staged t :=
  ⟨iff_of_true hp hs.sub, iff_of_true hp hd, hs.waiting, fun h => absurd hp h, fun h => absurd hp h, fun h => absurd hp h⟩

theorem staged_of_off (hp : t.link.part ≠ .streaming) (hsub : t.cp.sub = .none) (hd : t.cp.deadline = none)
    (hpend : t.cp.pendingPrimary = none) (hrec : t.zc.record = none) (hzoom : t.zc.held = false ∧ t.zc.pinned = false)
    (hr : ∀ i, t.Released i) : Staged t :=
  ⟨iff_of_false hp (by simp [hsub]), iff_of_false hp (by simp [hd]), by simp [hpend], fun _ => hrec, fun _ => hzoom,
    fun _ => hr⟩

theorem Staged.showing (h : Staged s) (hp : s.link.part = .streaming) : Showing s := ⟨h.sub.mp hp, h.waiting⟩

/-- What the law says of a part that is not STREAMING. -/
theorem Staged.off (h : Staged s) (hp : s.link.part ≠ .streaming) :
    s.cp.sub = .none ∧ s.cp.deadline = none ∧ s.cp.pendingPrimary = none := by
  have hsub : s.cp.sub = .none := by simpa using mt h.sub.mpr hp
  refine ⟨hsub, by simpa using mt h.deadline.mpr hp, ?_⟩
  have hnot := mt h.waiting (by rw [hsub]; decide)
  simpa using hnot

theorem released_congr {i : Src} (hsrc : (t.source i).state = (s.source i).state) (hrep : t.zc.reports = s.zc.reports) :
    t.Released i ↔ s.Released i := by
  unfold State.Released
  rw [hsrc, hrep]

theorem Drift.released (h : Drift P s t) {i : Src} (hs : s.Released i) : t.Released i := by
  induction h with
  | refl => exact hs
  | same _ hsrc hzc _ _ ih => exact (released_congr (by rw [source_congr _ _ hsrc]) (by rw [hzc])).mpr ih
  | wake _ purpose j ih =>
    refine ⟨?_, by simpa using ih.2⟩
    rcases state_wake purpose j i _ with h | ⟨_, h⟩ <;> rw [h]
    · exact ih.1
    · rfl
  | sync _ j x _ ih =>
    refine ⟨?_, ih.2⟩
    rw [source_setSource]
    split_ifs
    · rfl
    · exact ih.1
  | warm _ j _ ih =>
    refine ⟨?_, by simpa using ih.2⟩
    rw [state_enterWarm]
    split_ifs
    · rfl
    · exact ih.1
  | ready _ j now ih => exact (released_congr (state_ready j i now _) rfl).mpr ih
  | park _ j _ ih =>
    refine ⟨?_, by simpa using ih.2⟩
    rcases state_park j i _ with h | ⟨_, _, h⟩ <;> rw [h]
    · exact ih.1
    · rfl
  | fault _ cause j _ ih =>
    refine ⟨?_, fun x hx => ?_⟩
    · rw [source_faultSource]
      split_ifs
      · rfl
      · exact ih.1
    · rw [reports_faultSource] at hx
      split_ifs at hx with hj
      · subst hj
        rcases List.mem_append.mp hx with hx | hx
        · exact ih.2 x hx
        · rw [List.mem_singleton.mp hx]; exact ⟨ih.1, rfl⟩
      · exact ih.2 x hx

/-- Outside STREAMING with the parts of the output and of the picture that the law speaks of unchanged. -/
theorem Staged.stays (h : Staged s) (hp : t.link.part = .streaming ↔ s.link.part = .streaming) (hsub : t.cp.sub = s.cp.sub)
    (hpend : t.cp.pendingPrimary = s.cp.pendingPrimary) (hd : t.cp.deadline = s.cp.deadline)
    (hrec : s.zc.record = none → t.zc.record = none)
    (hzoom : s.link.part ≠ .streaming → s.zc.held = false ∧ s.zc.pinned = false → t.zc.held = false ∧ t.zc.pinned = false)
    (hr : ∀ i, s.Released i → t.Released i) : Staged t := by
  refine ⟨?_, ?_, ?_, fun hn => hrec (h.record ?_), fun hn => hzoom ?_ (h.zoom ?_), fun hn i => hr i (h.released ?_ i)⟩
  · rw [hp, hsub]; exact h.sub
  · rw [hp, hd]; exact h.deadline
  · rw [hpend, hsub]; exact h.waiting
  all_goals exact mt hp.mpr hn

theorem plain_staged (h : Plain s t) (hp : t.link.part = .streaming ↔ s.link.part = .streaming) (hs : Staged s) : Staged t :=
  hs.stays hp h.sub h.pending h.deadline (by rw [h.zc]; exact id) (fun _ => by rw [h.zc]; exact id) fun i =>
    (released_congr (by rw [source_congr _ _ h.sources]) (by rw [h.zc])).mpr

theorem Drift.staged (h : Drift P s t) (hs : Staged s) : Staged t := by
  have hk := h.stands
  exact hs.stays (by rw [hk.part]) (by rw [hk.output]) (by rw [hk.output]) (by rw [hk.output]) (by rw [hk.record]; exact id)
    (fun _ => by rw [hk.held, hk.pinned]; exact id) fun i => h.released

theorem staged_zoomSet (hs : Staged s) (target rate : Half) : Staged (s.zoomSet target rate).state := by
  unfold State.zoomSet
  split_ifs
  · exact hs
  · exact hs.stays Iff.rfl rfl rfl rfl id (fun _ => id) fun _ => id

theorem staged_takeReport (hs : Staged s) (i : Src) : Staged (s.takeReport i) := by
  by_cases hp : s.link.part = .streaming
  · refine staged_of_streaming (by simpa using hp) ((hs.showing hp).takeReport i) ?_
    simpa using hs.deadline.mp hp
  · unfold State.takeReport
    split
    · exact hs
    next x rest hl =>
      rw [if_neg hp]
      refine hs.stays Iff.rfl rfl rfl rfl id (fun _ => id) fun j hj => ⟨hj.1, fun y hy => hj.2 y ?_⟩
      rw [reports_setReports] at hy
      split_ifs at hy with hji
      · rw [hji, hl]; exact List.mem_cons_of_mem x hy
      · exact hy

theorem staged_tick (hs : Staged s) : Staged s.tick := by
  by_cases hp : s.link.part = .streaming
  · exact staged_of_streaming (by simpa using hp) (hs.showing hp).tick (deadline_tick (hs.deadline.mp hp))
  · have htick : s.tick = s := by
      unfold State.tick
      split
      next h _ => exact absurd h hp
      · rfl
    rw [htick]
    exact hs

theorem showing_placePrimary {p : Src} (hr : (s.source p).state.isRole = false) (hf : (s.source p).state ≠ .fault)
    (hpend : s.cp.pendingPrimary = none) : Showing (s.placePrimary p) := by
  have hawait : Showing (s.awaitPrimary p) := ⟨by simp [State.awaitPrimary], fun _ => by simp [State.awaitPrimary]⟩
  unfold State.placePrimary
  split
  · exact showing_of_no_pending (by simp) (by simpa using hpend)
  · exact hawait.output (by simp)
  · exact hawait
  · exact hawait
  next h => rw [h] at hr; cases hr
  next h => rw [h] at hr; cases hr
  next h => rw [h] at hr; cases hr
  next h => exact absurd h hf

theorem staged_outputStart (hs : Staged s) : Staged s.outputStart.state := by
  unfold State.outputStart
  split_ifs with hp
  · exact hs
  · exact hs
  · have hoff : s.link.part ≠ .streaming := by rw [not_not.mp hp]; decide
    split
    · exact hs
    · split_ifs with hf
      · exact hs
      · refine staged_of_streaming (by simp [State.beginOutput]) ?_ (by simp [State.beginOutput])
        exact showing_placePrimary (hs.released hoff _).1 hf (hs.off hoff).2.2

theorem held_clearHeld (s : State) : s.clearHeld.zc.held = false := by
  unfold State.clearHeld
  split_ifs with h
  · rfl
  · simpa using h

theorem staged_outputStop (hs : Staged s) : Staged s.outputStop.state := by
  unfold State.outputStop
  split_ifs
  · refine staged_of_off (by simp [State.stopOutput, State.endOutput]) (by simp [State.stopOutput, State.endOutput])
      (by simp [State.stopOutput, State.endOutput]) (by simp [State.stopOutput, State.endOutput])
      (by simp [State.stopOutput, State.endOutput]) ⟨?_, by simp [State.stopOutput, State.endOutput]⟩ (released_stopOutput s)
    simpa [State.stopOutput, State.endOutput] using held_clearHeld s.removeRecord.dropPending.endRoles
  · exact hs

theorem staged_of_reset (hsrc : t.sources = Four.fill Source.reset) (hzc : t.zc = ZoomCtl.reset)
    (hcp : t.cp = Compositor.reset) (hpart : t.link.part = .reset) : Staged t := by
  refine staged_of_off (by rw [hpart]; decide) (by rw [hcp]; rfl) (by rw [hcp]; rfl) (by rw [hcp]; rfl) (by rw [hzc]; rfl)
    (by rw [hzc]; exact ⟨rfl, rfl⟩) fun i => ⟨?_, fun x hx => ?_⟩
  · rw [State.source, hsrc, get_fill]; rfl
  · rw [hzc, ZoomCtl.reset, get_fill] at hx
    cases hx

/-- Every event keeps the law of the output but for the clock. -/
theorem Course.staged (h : Course s t) (hs : Staged s) : Staged t := by
  have hparked (u : State) (i : Src) (hu : Staged u) : Staged (u.park i) :=
    Drift.staged (P := fun _ => True) (.park .refl i trivial) hu
  have hremoved : Staged s.removeRecord :=
    hs.stays (by simp) (by simp) (by simp) (by simp) (fun _ => record_removeRecord s) (fun _ => by simp) fun i =>
      (released_congr (state_removeRecord i s) (by simp)).mpr
  cases h with
  | plain h hp => exact plain_staged h (by rw [hp]) hs
  | drift h => exact h.staged hs
  | reset hsrc hzc hcp hpart => exact staged_of_reset hsrc hzc hcp hpart
  | config h hp ht => exact plain_staged h (iff_of_false ht hp) hs
  | suspend hp h k ht =>
    have hpart := h.stands.part
    exact plain_staged k (iff_of_false (by rw [ht]; decide) (by rw [hpart, hp]; decide)) (h.staged hs)
  | free i => exact hparked _ i hremoved
  | park i => exact hparked _ i hs
  | define i d hp =>
    refine hs.stays Iff.rfl rfl rfl rfl id (fun _ => id) fun j => (released_congr (s := s) ?_ (by rfl)).mpr
    rw [source_setWindow, source_setSource]
    split_ifs with hj
    · rw [hj]; rfl
    · rfl
  | ladder => exact hs.stays Iff.rfl rfl rfl rfl id (fun _ h => ⟨h.1, rfl⟩) fun _ => id
  | zoomSet target rate => exact staged_zoomSet hs target rate
  | pin on hon =>
    refine hs.stays Iff.rfl rfl rfl rfl id (fun hp h => ⟨h.1, ?_⟩) fun _ => id
    cases on with
    | false => rfl
    | true => exact absurd (hon rfl) hp
  | disarm hp _ =>
    exact hremoved.stays Iff.rfl rfl rfl rfl id (fun hn _ => absurd (by simpa using hp) hn) fun _ => id
  | report i => exact staged_takeReport hs i
  | tick => exact staged_tick hs
  | start => exact staged_outputStart hs
  | stop => exact staged_outputStop hs

/-! The time base before lock -/

theorem waitTimer_of_unlocked (h : s.cru.lock = .locking) (x : Timer) : s.waitTimer x = s := by
  simp [State.waitTimer, h]

theorem waitDeadline_of_unlocked (h : s.cru.lock = .locking) (d : Time) : s.waitDeadline d = s := by
  simp [State.waitDeadline, h]

/-- Until lock is reached an event leaves the time base, but for a hard reset. -/
theorem Event.time (h : Event s t) (hl : s.cru.lock = .locking) (ht : t.cru.lock = .locking) :
    t = s.hardReset ∨ t.cru.time = s.cru.time := by
  have htimer := waitTimer_of_unlocked hl
  cases h with
  | hardReset => exact .inl rfl
  | linkReset => exact .inr rfl
  | reachLock =>
    rcases reachLock_cases s with h | ⟨_, _, h, _⟩
    · rw [h]; exact .inr rfl
    · rw [h] at ht; cases ht
  | passMicrosecond => exact .inr (by simp [State.passMicrosecond, hl])
  | tick =>
    right
    unfold State.tick
    split
    · simp [waitDeadline_of_unlocked hl]
    · rfl
  | settleExpiry i =>
    right
    unfold State.settleExpiry
    split
    · rfl
    · split_ifs
      · simp [htimer]
      · rfl
  | syncExpiry i =>
    right
    unfold State.syncExpiry
    split
    · rfl
    · split_ifs
      · simp [htimer]
      · rfl
  | frameTimeout i =>
    right
    unfold State.frameTimeout
    split
    · rfl
    · split_ifs
      · simp [htimer]
      · rfl
  | idleExpiry i =>
    right
    unfold State.idleExpiry
    split
    · rfl
    · split_ifs
      · simp [htimer]
      · rfl
  | endPulse =>
    right
    unfold State.endPulse
    split
    · rfl
    · simp [htimer]
  | groupEnd =>
    right
    unfold State.groupEnd
    split
    · rfl
    · simp [htimer]
  | pauseTimeout =>
    right
    unfold State.pauseTimeout
    split
    · rfl
    · split
      · rfl
      · simp [htimer]
  | videoEnd =>
    right
    unfold State.videoEnd
    split
    · rfl
    · simp [htimer]
  | _ => exact .inr (by simp)

/-- The law of the output as far as it speaks of the clock. -/
structure Clocked (s : State) : Prop where
  held : s.cru.resetHeld = true → s.cru.lock = .locking
  locking : s.cru.lock = .locking → s.link.part = .reset ∧ s.cru.time = 0

theorem Event.clocked (h : Event s t) (hs : Clocked s) : Clocked t := by
  rcases h.staysReset with rfl | ⟨hheld, hlock, hpart⟩
  · exact ⟨fun _ => rfl, fun _ => ⟨rfl, rfl⟩⟩
  · refine ⟨fun hr => ?_, fun hl => ?_⟩
    · rcases hlock with hlock | ⟨hr', _⟩
      · rw [hlock, hs.held (hheld hr)]
      · rw [hheld hr] at hr'; cases hr'
    · rcases hlock with hlock | ⟨_, hlock⟩
      · obtain ⟨hp, htime⟩ := hs.locking (hlock ▸ hl)
        refine ⟨hpart hl hp, ?_⟩
        rcases h.time (hlock ▸ hl) hl with rfl | h
        · rfl
        · rw [h, htime]
      · rw [hlock] at hl; cases hl

theorem outputLaw_iff : OutputLaw s ↔ Clocked s ∧ Staged s := by
  refine ⟨fun h => ⟨⟨h.held, h.locking⟩, h.staged⟩, fun ⟨hc, hs⟩ => ?_⟩
  exact ⟨hc.held, hc.locking, hs.sub, hs.deadline, hs.waiting, hs.record, hs.zoom, fun hp i => (hs.released hp i).1,
    fun hp i => (hs.released hp i).2⟩

theorem Event.outputLaw (h : Event s t) (hs : OutputLaw s) : OutputLaw t :=
  outputLaw_iff.mpr ⟨h.clocked (outputLaw_iff.mp hs).1,
    (h.course fun hl => (hs.locking hl).1).staged (outputLaw_iff.mp hs).2⟩

theorem kept_outputLaw : Kept OutputLaw := kept_of_event outputLaw_exchange Event.outputLaw

/-! The first law of R3 -/

/-- With no report pending a source holds the role of its state. -/
theorem hold_of_quiet (h : ∀ i, s.zc.reports.get i = []) (i : Src) : s.hold i = roleOf (s.source i).state := by
  rw [State.hold, h i, holdOf_of_nil rfl]

/-- With no report pending a state that is a role is the role held. -/
theorem hold_eq_iff_of_quiet (h : ∀ i, s.zc.reports.get i = []) {x : SrcState} (hx : x.isRole = true) (i : Src) :
    s.hold i = some x ↔ (s.source i).state = x := by
  rw [hold_of_quiet h]
  exact ⟨fun hr => (isRole_of_roleOf hr).1, fun hs => by rw [hs, roleOf_of_role hx]⟩

/-- One source at most holds a role, and it does only in BLENDING: the shape of the law for OUTGOING and for INCOMING. -/
theorem blending_role_iff (h : Scene s) (hq : ∀ i, s.zc.reports.get i = []) {x : SrcState} (hx : x.isRole = true)
    (hne : x ≠ .primary) (who : Transition → Src)
    (hwho : ∀ r, s.zc.record = some r → r.phase = .blending → ∀ i, s.hold i = some x ↔ i = who r) :
    ((∃ i, (s.source i).state = x) ↔ s.Blending) ∧
      ∀ i j, (s.source i).state = x → (s.source j).state = x → i = j := by
  have hstate (i : Src) : s.hold i = some x ↔ (s.source i).state = x := hold_eq_iff_of_quiet hq hx i
  have hblend (i : Src) (hi : (s.source i).state = x) : s.Blending := by
    by_contra hb
    by_cases hsub : s.cp.sub = .running
    · obtain ⟨p, hp, hothers⟩ := h.lone hsub hb
      have hi' := (hstate i).mpr hi
      by_cases hip : i = p
      · rw [hip, hp] at hi'
        exact hne (Option.some.inj hi').symm
      · rw [hothers i hip] at hi'; cases hi'
    · exact vacant_ne (h.quiet hsub) ((hstate i).mpr hi)
  refine ⟨⟨fun ⟨i, hi⟩ => hblend i hi, fun ⟨r, hr, hp⟩ => ⟨who r, (hstate _).mp ((hwho r hr hp _).mpr rfl)⟩⟩,
    fun i j hi hj => ?_⟩
  obtain ⟨r, hr, hp⟩ := hblend i hi
  rw [(hwho r hr hp i).mp ((hstate i).mpr hi), (hwho r hr hp j).mp ((hstate j).mpr hj)]

theorem Duo.outgoing_iff {a b : Src} {hold : Src → Option SrcState} (h : Duo a b hold) (i : Src) :
    hold i = some .outgoing ↔ i = a := by
  obtain ⟨ha, hb, hothers⟩ := h
  refine ⟨fun hi => ?_, fun hi => hi ▸ ha⟩
  by_contra hia
  by_cases hib : i = b
  · rw [hib, hb] at hi; cases hi
  · rw [hothers i hia hib] at hi; cases hi

theorem Duo.incoming_iff {a b : Src} {hold : Src → Option SrcState} (h : Duo a b hold) (i : Src) :
    hold i = some .incoming ↔ i = b := by
  obtain ⟨ha, hb, hothers⟩ := h
  refine ⟨fun hi => ?_, fun hi => hi ▸ hb⟩
  by_contra hib
  by_cases hia : i = a
  · rw [hia, ha] at hi; cases hi
  · rw [hothers i hia hib] at hi; cases hi

theorem Duo.ne_primary {a b : Src} {hold : Src → Option SrcState} (h : Duo a b hold) (i : Src) :
    hold i ≠ some .primary := by
  obtain ⟨ha, hb, hothers⟩ := h
  intro hi
  by_cases hia : i = a
  · rw [hia, ha] at hi; cases hi
  · by_cases hib : i = b
    · rw [hib, hb] at hi; cases hi
    · rw [hothers i hia hib] at hi; cases hi

/-- The picture's law gives the first law of R3: with no report pending, the roles held are the states. -/
theorem Scene.firstLaw (h : Scene s) : FirstLaw s where
  primary := by
    intro hq i j hi hj
    have hprimary (k : Src) (hk : (s.source k).state = .primary) : s.hold k = some .primary :=
      (hold_eq_iff_of_quiet hq rfl k).mpr hk
    by_cases hsub : s.cp.sub = .running
    · by_cases hb : s.Blending
      · obtain ⟨r, hr, hp⟩ := hb
        obtain ⟨_, _, _, hduo⟩ := h.blend r hr hp
        exact absurd (hprimary i hi) (hduo.ne_primary i)
      · obtain ⟨p, _, hothers⟩ := h.lone hsub hb
        have heq (k : Src) (hk : (s.source k).state = .primary) : k = p := by
          by_contra hkp
          have hk' := hprimary k hk
          rw [hothers k hkp] at hk'
          cases hk'
        rw [heq i hi, heq j hj]
    · exact absurd (hprimary i hi) (vacant_ne (h.quiet hsub))
  outgoing := fun hq => blending_role_iff h hq rfl (by decide) Transition.giver fun r hr hp =>
    (h.blend r hr hp).2.2.2.outgoing_iff
  incoming := fun hq => blending_role_iff h hq rfl (by decide) Transition.taker fun r hr hp =>
    (h.blend r hr hp).2.2.2.incoming_iff
  blending := by
    rintro hq ⟨r, hr, hp⟩ i hi
    obtain ⟨_, _, _, hduo⟩ := h.blend r hr hp
    exact hduo.ne_primary i ((hold_eq_iff_of_quiet hq rfl i).mpr hi)

/-! The laws together -/

/-- The laws of the sources, of the output and of the picture. -/
structure Playing (s : State) : Prop where
  source : SourceLaw s
  output : OutputLaw s
  idle : IdleLaw s
  scene : Scene s

theorem Event.playing (h : Event s t) (hs : Playing s) : Playing t :=
  ⟨h.sourceLaw hs.source, h.outputLaw hs.output, h.idleLaw hs.output hs.idle, h.scene hs.source hs.output hs.idle hs.scene⟩

theorem playing_exchange (h : Exchange s t) (hs : Playing s) : Playing t :=
  ⟨sourceLaw_exchange h hs.source, outputLaw_exchange h hs.output, idleLaw_exchange h hs.idle, scene_exchange h hs.scene⟩

theorem kept_playing : Kept Playing := kept_of_event playing_exchange Event.playing

/-- Settles O56: outside STREAMING no event gives a role or a record, a start and a stop move all of them together, and
every operation of hand-off and rescue leads from one lawful picture to another. -/
theorem outputLawKept : Obligations.OutputLawKept := by
  refine ⟨kept_outputLaw, fun s t ⟨hsrc, hout, hidle, hpic, _⟩ h => ?_⟩
  have ht : Playing t := kept_playing s t ⟨hsrc, hout, hidle, pictureLaw_iff.mp hpic⟩ h
  exact ⟨ht.source, ht.output, ht.idle, pictureLaw_iff.mpr ht.scene, ht.scene.firstLaw⟩

end Sys2Proof.Machine
end

section
/-! SUPPORT. Every source with a part in the picture belongs to one set, whose zoom ranges lie within two limits, and so do T and
Z: the law of the ladder with the ladder and its limits fixed (R69, R74, R88). -/

namespace Sys2Proof.Machine

variable {P A : Src → Prop} {lo hi : Nat} {s t : State}

/-! The sources with a part in the picture -/

/-- The zoom range of a source lies within limits (R69). -/
structure Source.Fits (x : Source) (lo hi : Nat) : Prop where
  base : lo ≤ x.base
  range : x.base ≤ x.zcap
  cap : x.zcap ≤ hi

/-- A pending report concerns sources of `A` only. -/
def Report.Among (A : Src → Prop) (i : Src) (x : Report) : Prop :=
  (x.role.isRole = true → A i) ∧ ∀ y, x.spoiled = some y → A y.record.giver ∧ A y.record.taker

/-- Every source with a part in the picture, and every source of the ladder, is one of `A`, whose ranges lie within the
limits; T and Z do too. -/
structure Cast (A : Src → Prop) (lo hi : Nat) (s : State) : Prop where
  fits : ∀ i, A i → (s.source i).Fits lo hi
  ladder : ∀ l, s.zc.ladder = some l → ∀ r ∈ l, A r.source
  state : ∀ i, (s.source i).state.isRole = true → A i
  pending : ∀ i, s.cp.pendingPrimary = some i → A i
  record : ∀ r, s.zc.record = some r → A r.giver ∧ A r.taker
  reports : ∀ i, ∀ x ∈ s.zc.reports.get i, x.Among A i
  target : lo ≤ s.zc.target ∧ s.zc.target ≤ hi
  shown : lo ≤ s.zc.shown ∧ s.zc.shown ≤ hi

/-! One part changed -/

theorem Cast.same (h : Cast A lo hi s) (hsrc : t.sources = s.sources) (hl : t.zc.ladder = s.zc.ladder)
    (hp : t.cp.pendingPrimary = s.cp.pendingPrimary) (hr : t.zc.record = s.zc.record)
    (hrep : t.zc.reports = s.zc.reports) (ht : t.zc.target = s.zc.target) (hz : t.zc.shown = s.zc.shown) :
    Cast A lo hi t where
  fits := fun i => by rw [source_congr _ _ hsrc]; exact h.fits i
  ladder := by rw [hl]; exact h.ladder
  state := fun i => by rw [source_congr _ _ hsrc]; exact h.state i
  pending := by rw [hp]; exact h.pending
  record := by rw [hr]; exact h.record
  reports := by rw [hrep]; exact h.reports
  target := by rw [ht]; exact h.target
  shown := by rw [hz]; exact h.shown

theorem Cast.sameParts (h : Cast A lo hi s) (hsrc : t.sources = s.sources) (hzc : t.zc = s.zc)
    (hp : t.cp.pendingPrimary = s.cp.pendingPrimary) : Cast A lo hi t :=
  h.same hsrc (by rw [hzc]) hp (by rw [hzc]) (by rw [hzc]) (by rw [hzc]) (by rw [hzc])

/-- A source record replaced that keeps its range, in a role only where the source is one of `A`. -/
theorem Cast.source (h : Cast A lo hi s) {i : Src} {x : Source} (hx : (s.source i).Fits lo hi → x.Fits lo hi)
    (hr : x.state.isRole = true → A i) : Cast A lo hi (s.setSource i x) where
  fits := fun j hj => by
    rw [source_setSource]
    split_ifs with hij
    · exact hx (h.fits i (hij ▸ hj))
    · exact h.fits j hj
  ladder := h.ladder
  state := fun j => by
    rw [source_setSource]
    split_ifs with hij
    · rw [hij]; exact hr
    · exact h.state j
  pending := h.pending
  record := h.record
  reports := h.reports
  target := h.target
  shown := h.shown

theorem Cast.setRecord (h : Cast A lo hi s) (r : Option Transition) (hr : ∀ x, r = some x → A x.giver ∧ A x.taker) :
    Cast A lo hi (s.setRecord r) :=
  ⟨h.fits, h.ladder, h.state, h.pending, hr, h.reports, h.target, h.shown⟩

theorem Cast.setPending (h : Cast A lo hi s) (p : Option Src) (hp : ∀ i, p = some i → A i) :
    Cast A lo hi (s.setPending p) :=
  ⟨h.fits, h.ladder, h.state, hp, h.record, h.reports, h.target, h.shown⟩

theorem Cast.setShown (h : Cast A lo hi s) {z : Nat} (hz : lo ≤ z ∧ z ≤ hi) : Cast A lo hi (s.setShown z) :=
  ⟨h.fits, h.ladder, h.state, h.pending, h.record, h.reports, h.target, hz⟩

theorem Cast.setReports (h : Cast A lo hi s) (i : Src) {l : List Report} (hl : ∀ x ∈ l, x.Among A i) :
    Cast A lo hi (s.setReports i l) where
  fits := h.fits
  ladder := h.ladder
  state := h.state
  pending := h.pending
  record := h.record
  reports := fun j x hx => by
    rw [reports_setReports] at hx
    split_ifs at hx with hj
    · rw [hj]; exact hl x hx
    · exact h.reports j x hx
  target := h.target
  shown := h.shown

theorem Cast.post (h : Cast A lo hi s) (source : Option Src) (p : Payload) : Cast A lo hi (s.post source p) :=
  h.sameParts rfl rfl rfl

theorem Cast.postState (h : Cast A lo hi s) (i : Src) (purpose : Purpose) (new prev : SrcState) :
    Cast A lo hi (s.postState i purpose new prev) := h.sameParts (by simp) (by simp) (by simp)

/-! Sources -/

theorem Cast.restartIdle (h : Cast A lo hi s) (i : Src) : Cast A lo hi (s.restartIdle i) :=
  h.source (fun h => ⟨h.base, h.range, h.cap⟩) (h.state i)

theorem Cast.stopIdle (h : Cast A lo hi s) (i : Src) : Cast A lo hi (s.stopIdle i) :=
  h.source (fun h => ⟨h.base, h.range, h.cap⟩) (h.state i)

theorem Cast.wake (h : Cast A lo hi s) (purpose : Purpose) (i : Src) : Cast A lo hi (s.wake purpose i) := by
  unfold State.wake
  split_ifs
  · refine Cast.postState (h.source ?_ ?_) ..
    · exact fun h => ⟨h.base, h.range, h.cap⟩
    · rintro ⟨⟩
  · exact h

theorem Cast.park (h : Cast A lo hi s) (i : Src) : Cast A lo hi (s.park i) := by
  unfold State.park
  split_ifs
  · exact h
  · have hset : Cast A lo hi (s.setSource i (s.source i).parkedRec) :=
      h.source (fun h => ⟨h.base, h.range, h.cap⟩) (by rintro ⟨⟩)
    have hpurge : Cast A lo hi (State.purge i (s.setSource i (s.source i).parkedRec)) :=
      hset.sameParts (by simp) (by simp) (by simp)
    exact hpurge.postState ..

theorem Cast.enterWarm (h : Cast A lo hi s) (i : Src) : Cast A lo hi (s.enterWarm i) := by
  refine Cast.postState (Cast.restartIdle (h.source ?_ ?_) i) ..
  · exact fun h => ⟨h.base, h.range, h.cap⟩
  · rintro ⟨⟩

/-- The report of a fault names the role the source held. -/
theorem Cast.faultSource (h : Cast A lo hi s) (cause : FaultCause) (i : Src) : Cast A lo hi (s.faultSource cause i) := by
  have hset : Cast A lo hi (s.setSource i ((s.source i).faultRec cause)) :=
    h.source (fun h => ⟨h.base, h.range, h.cap⟩) (by rintro ⟨⟩)
  have hposted : Cast A lo hi (((s.setSource i ((s.source i).faultRec cause)).purge i).post (some i)
      (.sourceFault cause (s.source i).state s.cru.time)) := hset.sameParts (by simp) (by simp) (by simp)
  unfold State.faultSource State.raiseReport
  refine hposted.setReports i fun x hx => ?_
  rcases List.mem_append.mp hx with hx | hx
  · exact h.reports i x hx
  · rw [List.mem_singleton.mp hx]
    exact ⟨h.state i, by rintro _ ⟨⟩⟩

theorem Drift.cast (h : Drift P s t) (hs : Cast A lo hi s) : Cast A lo hi t := by
  induction h with
  | refl => exact hs
  | same _ hsrc hzc hcp _ ih => exact ih.sameParts hsrc hzc (by rw [hcp])
  | wake _ purpose i ih => exact ih.wake purpose i
  | sync _ i x _ ih => exact ih.source (fun h => ⟨h.base, h.range, h.cap⟩) (by rintro ⟨⟩)
  | warm _ i _ ih => exact ih.enterWarm i
  | ready _ i now ih => exact ih.source (fun h => ⟨h.base, h.range, h.cap⟩) (ih.state i)
  | park _ i _ ih => exact ih.park i
  | fault _ cause i _ ih => exact ih.faultSource cause i

/-! Role changes -/

theorem among_settled {i : Src} {x : Report} (h : x.Among A i) : x.settled.Among A i := ⟨by rintro ⟨⟩, h.2⟩

theorem among_shiftReports {i : Src} {l : List Report} (h : ∀ x ∈ l, x.Among A i) {role : SrcState} (hi : A i) :
    ∀ x ∈ shiftReports role l, x.Among A i := by
  induction l with
  | nil => rintro x ⟨⟩
  | cons y rest ih =>
    cases rest with
    | nil =>
      intro x hx
      rw [List.mem_singleton.mp hx]
      exact ⟨fun _ => hi, (h y List.mem_cons_self).2⟩
    | cons z rest =>
      intro x hx
      rcases List.mem_cons.mp hx with rfl | hx
      · exact among_settled (h y List.mem_cons_self)
      · exact ih (fun w hw => h w (List.mem_cons_of_mem y hw)) x hx

theorem among_spoilReports {i : Src} {l : List Report} (h : ∀ x ∈ l, x.Among A i) {y : Spoiled}
    (hy : A y.record.giver ∧ A y.record.taker) : ∀ x ∈ spoilReports y l, x.Among A i := by
  induction l with
  | nil => rintro x ⟨⟩
  | cons z rest ih =>
    cases rest with
    | nil =>
      intro x hx
      rw [List.mem_singleton.mp hx]
      exact ⟨(h z List.mem_cons_self).1, by rintro _ ⟨⟩; exact hy⟩
    | cons w rest =>
      intro x hx
      rcases List.mem_cons.mp hx with rfl | hx
      · exact h x List.mem_cons_self
      · exact ih (fun v hv => h v (List.mem_cons_of_mem z hv)) x hx

theorem Cast.settleReports (h : Cast A lo hi s) (i : Src) : Cast A lo hi (s.settleReports i) :=
  h.setReports i fun x hx => by
    obtain ⟨y, hy, rfl⟩ := List.mem_map.mp hx
    exact among_settled (h.reports i y hy)

theorem Cast.takeRole (h : Cast A lo hi s) (i : Src) {role : SrcState} (hr : role.isRole = true → A i) :
    Cast A lo hi (s.takeRole i role) := by
  unfold State.takeRole
  split_ifs
  · exact h
  · refine Cast.postState (Cast.restartIdle (h.source ?_ hr) i) ..
    exact fun h => ⟨h.base, h.range, h.cap⟩

theorem Cast.setRole (h : Cast A lo hi s) {i : Src} (hi' : A i) (role : SrcState) : Cast A lo hi (s.setRole i role) := by
  unfold State.setRole
  split_ifs
  · exact (h.settleReports i).takeRole i fun _ => hi'
  · exact h.setReports i (among_shiftReports (h.reports i) hi')

theorem Cast.spoil (h : Cast A lo hi s) (i : Src) {y : Spoiled} (hy : A y.record.giver ∧ A y.record.taker) :
    Cast A lo hi (s.spoil i y) := h.setReports i (among_spoilReports (h.reports i) hy)

/-! The record, the pending primary and the sub-state -/

theorem Cast.removeRecord (h : Cast A lo hi s) : Cast A lo hi s.removeRecord := by
  unfold State.removeRecord
  split
  · exact h
  · exact Cast.restartIdle (h.setRecord none (by rintro _ ⟨⟩)) _

theorem Cast.createRecord (h : Cast A lo hi s) {r : Transition} (hr : A r.giver ∧ A r.taker) :
    Cast A lo hi (s.createRecord r) :=
  Cast.stopIdle (h.removeRecord.setRecord (some r) (by rintro _ ⟨⟩; exact hr)) _

theorem Cast.dropPending (h : Cast A lo hi s) : Cast A lo hi s.dropPending := by
  unfold State.dropPending
  split
  · exact h
  · exact Cast.restartIdle (h.setPending none (by rintro _ ⟨⟩)) _

theorem Cast.setSub (h : Cast A lo hi s) (x : OutSub) : Cast A lo hi (s.setSub x) := h.sameParts rfl rfl rfl

/-! Zoom -/

theorem clamp_within {v a b : Nat} (ha : lo ≤ a ∧ a ≤ hi) (hb : lo ≤ b ∧ b ≤ hi) (hv : lo ≤ v ∧ v ≤ hi) :
    lo ≤ clamp v a b ∧ clamp v a b ≤ hi := by
  unfold clamp
  split_ifs
  · exact ha
  · exact hb
  · exact hv

/-- A step of Z stays between Z and where it goes (R78). -/
theorem zoomMove_within {z rate d : Nat} (hz : lo ≤ z ∧ z ≤ hi) (hd : lo ≤ d ∧ d ≤ hi) :
    lo ≤ zoomMove z rate d ∧ zoomMove z rate d ≤ hi := by
  unfold zoomMove
  split_ifs
  · exact hd
  · omega
  · omega
  · exact hz

theorem Cast.ends (h : Cast A lo hi s) {i : Src} (hi' : A i) :
    (lo ≤ (s.source i).base ∧ (s.source i).base ≤ hi) ∧ lo ≤ (s.source i).zcap ∧ (s.source i).zcap ≤ hi := by
  obtain ⟨hb, hr, hc⟩ := h.fits i hi'
  omega

theorem Cast.primary (h : Cast A lo hi s) {p : Src} (hp : s.primary = some p) : A p := by
  have hstate : (s.source p).state = .primary := by simpa using List.find?_some hp
  exact h.state p (by rw [hstate]; rfl)

theorem Cast.lostPrimary (h : Cast A lo hi s) {test : Report → Bool} {p : Src} (hp : s.lostPrimary test = some p) : A p := by
  have hany : ∃ x ∈ s.zc.reports.get p, x.role = .primary ∧ test x = true := by simpa using List.find?_some hp
  obtain ⟨x, hx, hr, _⟩ := hany
  exact (h.reports p x hx).1 (by rw [hr]; rfl)

theorem Cast.knownPrimary (h : Cast A lo hi s) {p : Src} (hp : s.knownPrimary = some p) : A p := by
  unfold State.knownPrimary at hp
  split at hp
  next q hq => cases hp; exact h.primary hq
  · exact h.lostPrimary hp

theorem Cast.pair (h : Cast A lo hi s) {r : Transition} (hr : s.zc.record = some r) : A r.pair.1 ∧ A r.pair.2 := by
  obtain ⟨hg, ht⟩ := h.record r hr
  unfold Transition.pair
  split
  · exact ⟨hg, ht⟩
  · exact ⟨ht, hg⟩
  · exact ⟨hg, ht⟩

/-- The bounds of a step lie within the limits (R77). -/
theorem Cast.stepBounds (h : Cast A lo hi s) {b : Bounds} (hb : s.stepBounds = some b) :
    (lo ≤ b.lo ∧ b.lo ≤ hi) ∧ lo ≤ b.hi ∧ b.hi ≤ hi := by
  have hknown (hb : s.knownPrimary.map s.rangeOf = some b) : (lo ≤ b.lo ∧ b.lo ≤ hi) ∧ lo ≤ b.hi ∧ b.hi ≤ hi := by
    obtain ⟨p, hp, rfl⟩ := Option.map_eq_some_iff.mp hb
    exact h.ends (h.knownPrimary hp)
  unfold State.stepBounds at hb
  split at hb
  · exact hknown hb
  next r _ hr =>
    split_ifs at hb
    · cases hb
      obtain ⟨hfst, hsnd⟩ := h.pair hr
      exact ⟨(h.ends hsnd).1, (h.ends hfst).2⟩
    · exact hknown hb
  · obtain ⟨p, hp, rfl⟩ := Option.map_eq_some_iff.mp hb
    exact h.ends (h.pending p hp)
  next r _ hr => cases hb; exact h.ends (h.record r hr).2
  · cases hb
  next r _ hr => cases hb; exact h.ends (h.record r hr).2
  · cases hb

theorem Cast.zoomStages (h : Cast A lo hi s) : Cast A lo hi s.zoomStages := by
  unfold State.zoomStages
  split
  · exact h.same rfl rfl rfl rfl rfl rfl rfl
  next b hb =>
    obtain ⟨hlo, hhi⟩ := h.stepBounds hb
    have hmoved := h.setShown (zoomMove_within (rate := s.zc.rate) h.shown (clamp_within hlo hhi h.target))
    refine hmoved.same (t := s.moveZoom b) ?_ ?_ ?_ ?_ ?_ ?_ ?_
    all_goals simp [State.moveZoom, State.setShown]

/-! The ladder -/

theorem Cast.rung (h : Cast A lo hi s) {l : Ladder} (hl : s.zc.ladder = some l) {k : Nat} {r : Rung} (hr : l[k]? = some r) :
    A r.source := h.ladder l hl r (List.mem_of_getElem? hr)

theorem Cast.rungOf (h : Cast A lo hi s) {l : Ladder} (hl : s.zc.ladder = some l) {p : Src} {k : Nat}
    (hk : rungOf l p = some k) : A p := by
  obtain ⟨hlt, hat, _⟩ := List.findIdx?_eq_some_iff_getElem.mp hk
  rw [← of_decide_eq_true hat]
  exact h.ladder l hl _ (List.getElem_mem hlt)

theorem Cast.lowerOf (h : Cast A lo hi s) {p q : Src} (hq : s.lowerOf p = some q) : A q := by
  unfold State.lowerOf at hq
  split at hq
  · cases hq
  next l hl =>
    split at hq
    · obtain ⟨r, hr, rfl⟩ := Option.map_eq_some_iff.mp hq
      exact h.rung hl hr
    · cases hq

theorem Cast.upperOf (h : Cast A lo hi s) {p q : Src} (hq : s.upperOf p = some q) : A q := by
  unfold State.upperOf at hq
  split at hq
  · cases hq
  next l hl =>
    obtain ⟨k, _, hq⟩ := Option.bind_eq_some_iff.mp hq
    obtain ⟨r, hr, rfl⟩ := Option.map_eq_some_iff.mp hq
    exact h.rung hl hr

theorem Cast.neighbour (h : Cast A lo hi s) {p q : Src} {test : SrcState → Bool} (hq : s.neighbour p test = some q) :
    A q := by
  unfold State.neighbour at hq
  split at hq
  next j hj => cases hq; exact h.lowerOf (candidate_eq_some hj).1
  next => exact h.upperOf (candidate_eq_some hq).1

theorem Cast.otherAdjacent (h : Cast A lo hi s) {p q tried : Src} (hq : s.otherAdjacent p tried = some q) : A q := by
  unfold State.otherAdjacent at hq
  split_ifs at hq
  · exact h.upperOf hq
  · exact h.lowerOf hq

theorem triggerTarget_eq_some {i p : Src} (h : s.triggerTarget i = some p) : i = p := by
  unfold State.triggerTarget at h
  split_ifs at h
  exact Option.some.inj h

theorem Cast.upTarget (h : Cast A lo hi s) {l : Ladder} (hl : s.zc.ladder = some l) {k : Nat} {q : Src}
    (hq : s.upTarget l k = some q) : A q := by
  unfold State.upTarget at hq
  split at hq
  · cases hq
  next r hr =>
    split_ifs at hq
    exact triggerTarget_eq_some hq ▸ h.rung hl hr

theorem Cast.downTarget (h : Cast A lo hi s) {l : Ladder} (hl : s.zc.ladder = some l) {k : Nat} {q : Src}
    (hq : s.downTarget l k = some q) : A q := by
  unfold State.downTarget at hq
  split at hq
  · split_ifs at hq
    split at hq
    · cases hq
    next r hr => exact triggerTarget_eq_some hq ▸ h.rung hl hr
  · cases hq

theorem Cast.trigger (h : Cast A lo hi s) {r : Transition} (hr : s.trigger = some r) : A r.giver ∧ A r.taker := by
  obtain ⟨l, k, p, q, hp, hfrom⟩ := trigger_eq_some hr
  unfold State.primaryRung at hp
  split at hp
  next l' p' hl _ =>
    obtain ⟨k', hk, heq⟩ := Option.map_eq_some_iff.mp hp
    cases heq
    rcases hfrom with ⟨rfl, hq⟩ | ⟨rfl, hq⟩
    · exact ⟨h.rungOf hl hk, h.upTarget hl hq⟩
    · exact ⟨h.rungOf hl hk, h.downTarget hl hq⟩
  · cases hp

/-! Hand-off -/

theorem Cast.passPicture (h : Cast A lo hi s) {r : Transition} (hr : A r.giver ∧ A r.taker) (change : SpoiledChange)
    (mode : HandMode) : Cast A lo hi (s.passPicture r change mode) := by
  have hp : Cast A lo hi (s.removeRecord.passRoles r) := (h.removeRecord.setRole hr.1 _).setRole hr.2 _
  unfold State.passPicture
  dsimp only
  split_ifs
  · exact hp.spoil _ hr
  · exact hp.spoil _ hr
  · exact hp.post ..

theorem Cast.advanceBlend (h : Cast A lo hi s) {r : Transition} (hr : A r.giver ∧ A r.taker) :
    Cast A lo hi (s.advanceBlend r) := h.setRecord _ (by rintro _ ⟨⟩; exact hr)

theorem Cast.startBlend (h : Cast A lo hi s) {r : Transition} (hr : A r.giver ∧ A r.taker) :
    Cast A lo hi (s.startBlend r) := ((h.setRole hr.1 _).setRole hr.2 _).advanceBlend hr

theorem Cast.armedWork (h : Cast A lo hi s) {r : Transition} (hr : A r.giver ∧ A r.taker) : Cast A lo hi (s.armedWork r) := by
  unfold State.armedWork
  split
  · exact h.wake ..
  · split_ifs
    · exact h.passPicture hr ..
    · exact h.setRecord _ (by rintro _ ⟨⟩; exact hr)
  all_goals exact h

theorem Cast.matchingWork (h : Cast A lo hi s) {r : Transition} (hr : A r.giver ∧ A r.taker) :
    Cast A lo hi (s.matchingWork r) := by
  obtain ⟨u, hu, hfrom⟩ := record_matchUpdate { r with ticks := min (r.ticks + 1) 255 } s
  have hru : A u.giver ∧ A u.taker := by rcases hfrom with rfl | ⟨_, _, _, _, rfl⟩ <;> exact hr
  have hm : Cast A lo hi (s.matchUpdate { r with ticks := min (r.ticks + 1) 255 }) :=
    (h.setRecord (some u) (by rintro _ ⟨⟩; exact hru)).same (by simp) (by simp) (by simp) (by simpa using hu) (by simp)
      (by simp) (by simp)
  unfold State.matchingWork
  simp only [hu]
  unfold State.decideMatch
  split_ifs
  · exact hm.startBlend hru
  · exact Cast.startBlend (hm.post ..) (r := { u with limited := true }) hru
  · exact hm

theorem Cast.wakePoints (h : Cast A lo hi s) : Cast A lo hi s.wakePoints := by
  have hupper (l : Ladder) (k : Nat) {t : State} (ht : Cast A lo hi t) : Cast A lo hi (t.wakeUpper l k) := by
    unfold State.wakeUpper
    split
    · exact ht
    · split_ifs
      · exact ht.wake ..
      · exact ht
  have hlower (l : Ladder) (k : Nat) {t : State} (ht : Cast A lo hi t) : Cast A lo hi (t.wakeLower l k) := by
    unfold State.wakeLower
    split
    · split_ifs
      · split
        · exact ht
        · exact ht.wake ..
      · exact ht
    · exact ht
  unfold State.wakePoints
  split_ifs
  · split
    · exact h
    · exact hlower _ _ (hupper _ _ h)
  · exact h

/-! Rescue -/

theorem Cast.rescueTo (h : Cast A lo hi s) {r : Transition} (hr : A r.giver ∧ A r.taker) : Cast A lo hi (s.rescueTo r) := by
  unfold State.rescueTo
  split_ifs
  · exact h.spoil _ hr
  · obtain ⟨hb, hc⟩ := h.ends hr.2
    exact Cast.post (Cast.setShown ((h.dropPending.setSub _).setRole hr.2 _) (clamp_within hb hc h.shown)) ..

theorem Cast.giveUp (h : Cast A lo hi s) (p : Src) : Cast A lo hi (s.giveUp p) := Cast.post (h.dropPending.setSub _) ..

theorem Cast.freezeFor (h : Cast A lo hi s) (faulted target : Src) : Cast A lo hi (s.freezeFor faulted target) := by
  unfold State.freezeFor
  split_ifs
  · exact h.dropPending
  · exact Cast.post (h.setSub _) ..

theorem Cast.rescue (h : Cast A lo hi s) {p : Src} (hp : A p) : Cast A lo hi (s.rescue p) := by
  unfold State.rescue
  split
  next q hq => exact h.rescueTo ⟨hp, h.neighbour hq⟩
  · split
    next q hq => exact ((h.createRecord ⟨hp, h.neighbour hq⟩).wake ..).freezeFor ..
    · exact h.giveUp p

theorem Cast.rescueFailed (h : Cast A lo hi s) (r : Transition) : Cast A lo hi (s.rescueFailed r) :=
  Cast.giveUp (h.removeRecord.post ..) _

theorem Cast.retarget (h : Cast A lo hi s) {r : Transition} {q : Src} (hg : A r.giver) (hq : A q) :
    Cast A lo hi (s.retarget r q) := by
  have hw : Cast A lo hi ((s.createRecord { r with taker := q, retargeted := true }).wake .normal q) :=
    Cast.wake (h.createRecord (r := { r with taker := q, retargeted := true }) ⟨hg, hq⟩) ..
  unfold State.retarget
  dsimp only
  split_ifs
  · exact hw.post ..
  · exact hw

theorem Cast.tryOther (h : Cast A lo hi s) {r : Transition} (hr : A r.giver ∧ A r.taker) : Cast A lo hi (s.tryOther r) := by
  unfold State.tryOther
  split_ifs
  · exact h.rescueFailed r
  · split
    · exact h.rescueFailed r
    next q hq =>
      have hA := h.otherAdjacent hq
      split
      · exact h.removeRecord.rescueTo ⟨hr.1, hA⟩
      · exact h.retarget hr.1 hA
      · exact h.retarget hr.1 hA
      · exact h.retarget hr.1 hA
      all_goals exact h.rescueFailed r

theorem Cast.primaryFault (h : Cast A lo hi s) {p : Src} (hp : A p) : Cast A lo hi (s.primaryFault p) := by
  unfold State.primaryFault
  split
  · exact h.rescue hp
  · exact Cast.rescue (h.removeRecord.post ..) hp

theorem Cast.recordWork (h : Cast A lo hi s) {r : Transition} (hr : A r.giver ∧ A r.taker) :
    Cast A lo hi (s.recordWork r) := by
  rw [recordWork_eq]
  split_ifs
  · unfold State.rescueWork
    split_ifs
    · exact h.removeRecord.rescueTo hr
    · exact h
  · exact h.advanceBlend hr
  · exact h.passPicture hr ..
  · exact h.removeRecord
  · exact h.matchingWork hr
  · exact h.armedWork hr

theorem Cast.handoffWork (h : Cast A lo hi s) : Cast A lo hi s.handoffWork := by
  unfold State.handoffWork
  split
  next r hr => exact h.recordWork (h.record r hr)
  · split_ifs
    · split
      · exact h
      next r hr => exact (h.createRecord (h.trigger hr)).armedWork (h.trigger hr)
    · exact h

theorem Cast.zoomStep (h : Cast A lo hi s) : Cast A lo hi s.zoomStep := h.zoomStages.wakePoints.handoffWork

/-! The tick -/

theorem Cast.promotePending (h : Cast A lo hi s) : Cast A lo hi s.promotePending := by
  unfold State.promotePending
  split
  next p _ hp =>
    split_ifs
    · exact ((h.setPending none (by rintro _ ⟨⟩)).setSub _).setRole (h.pending p hp) _
    · exact h
  · exact h

theorem Cast.tickWork (h : Cast A lo hi s) : Cast A lo hi s.tickWork := by
  have hv : Cast A lo hi s.videoSend := h.sameParts (by simp) (by simp) (by simp)
  unfold State.tickWork
  dsimp only
  split_ifs
  · exact hv.sameParts (by simp) (by simp) (by simp)
  · exact hv.promotePending.zoomStep.sameParts (by simp) (by simp) (output_composeBegin _).2.1

theorem Cast.tick (h : Cast A lo hi s) : Cast A lo hi s.tick := by
  unfold State.tick
  split
  · exact Cast.tickWork (h.sameParts (by simp) (by simp) (by simp))
  · exact h

/-! Fault reports -/

theorem Cast.handleFault (h : Cast A lo hi s) {i : Src} {role : SrcState} (hi' : role.isRole = true → A i) :
    Cast A lo hi (s.handleFault i role) := by
  unfold State.handleFault
  split
  next r hr =>
    obtain ⟨hg, ht⟩ := h.record r hr
    rw [reportOnRecord_eq]
    split_ifs with _ _ _ _ _ _ hp
    · exact h.tryOther ⟨hg, ht⟩
    · exact h
    · exact Cast.post (h.removeRecord.setRole hg _) ..
    · exact Cast.post (h.removeRecord.setRole ht _) ..
    · exact h
    · exact h.removeRecord.post ..
    · exact h.primaryFault (hi' (by rw [hp]; rfl))
    · exact h
  · unfold State.reportAlone
    split_ifs with hp hpend
    · exact h.primaryFault (hi' (by rw [hp.2]; rfl))
    · exact h.rescue (h.pending i (of_decide_eq_true hpend.1).2)
    · exact h

theorem Cast.takeBack (h : Cast A lo hi s) {y : Spoiled} (hy : A y.record.giver) (cause : AbortCause) :
    Cast A lo hi (s.takeBack y cause) := by
  have hb : Cast A lo hi ((s.setRole y.record.giver .primary).postAborted y.record cause y.time) :=
    (h.setRole hy _).post ..
  unfold State.takeBack
  dsimp only
  split_ifs
  · exact hb.rescue hy
  · exact hb

theorem Cast.handleReport (h : Cast A lo hi s) {i : Src} {x : Report} (hx : x.Among A i) :
    Cast A lo hi (s.handleReport i x) := by
  unfold State.handleReport
  split
  · exact h.handleFault hx.1
  next y hy =>
    obtain ⟨hg, ht⟩ := hx.2 y hy
    split_ifs
    · unfold State.settleTaker
      split
      · exact h.tryOther ⟨hg, ht⟩
      · exact h.takeBack hg _
      · exact h.takeBack hg _
    · exact Cast.handleFault (h.post ..) hx.1

theorem Cast.takeReport (h : Cast A lo hi s) (i : Src) : Cast A lo hi (s.takeReport i) := by
  unfold State.takeReport
  split
  · exact h
  next x rest hl =>
    have hset : Cast A lo hi (s.setReports i rest) :=
      h.setReports i fun y hy => h.reports i y (by rw [hl]; exact List.mem_cons_of_mem x hy)
    split_ifs
    · exact hset.handleReport (h.reports i x (by rw [hl]; exact List.mem_cons_self))
    · exact hset

/-! Output start and stop -/

theorem startingRung_mem {z : Nat} {l : Ladder} {p : Src} (h : startingRung z l = some p) : ∃ r ∈ l, r.source = p := by
  cases l with
  | nil => cases h
  | cons r rest =>
    cases h
    cases hl : (rest.filter fun q => decide (q.u ≤ z)).getLast? with
    | none => exact ⟨r, List.mem_cons_self, rfl⟩
    | some q => exact ⟨q, List.mem_cons_of_mem r (List.mem_filter.mp (List.mem_of_getLast? hl)).1, rfl⟩

theorem Cast.placePrimary (h : Cast A lo hi s) {p : Src} (hp : A p) : Cast A lo hi (s.placePrimary p) := by
  have hawait : Cast A lo hi (s.awaitPrimary p) :=
    Cast.stopIdle ((h.setSub _).setPending (some p) (by rintro _ ⟨⟩; exact hp)) _
  unfold State.placePrimary
  split
  · exact (h.setSub _).setRole hp _
  · exact hawait.wake ..
  · exact hawait
  · exact hawait
  all_goals exact h

theorem Cast.outputStart (h : Cast A lo hi s) : Cast A lo hi s.outputStart.state := by
  unfold State.outputStart
  split_ifs
  · exact h
  · exact h
  · split
    · exact h
    next p hp =>
      split_ifs
      · exact h
      · obtain ⟨l, hl, hstart⟩ := Option.bind_eq_some_iff.mp hp
        obtain ⟨r, hr, rfl⟩ := startingRung_mem hstart
        have hb : Cast A lo hi s.beginOutput := h.same rfl rfl rfl rfl rfl rfl rfl
        exact hb.placePrimary (h.ladder l hl r hr)

theorem Cast.endRole (h : Cast A lo hi s) (i : Src) : Cast A lo hi (s.endRole i) := by
  unfold State.endRole
  refine Cast.setReports ?_ i fun x hx => ?_
  · split_ifs
    · exact h.takeRole i (by rintro ⟨⟩)
    · exact h
  · obtain ⟨_, _, rfl⟩ := List.mem_map.mp hx
    exact ⟨by rintro ⟨⟩, by rintro _ ⟨⟩⟩

theorem Cast.outputStop (h : Cast A lo hi s) : Cast A lo hi s.outputStop.state := by
  unfold State.outputStop
  split_ifs
  · have hroles : Cast A lo hi s.removeRecord.dropPending.endRoles :=
      Cast.endRole (Cast.endRole (Cast.endRole (Cast.endRole h.removeRecord.dropPending _) _) _) _
    exact hroles.same (by simp [State.stopOutput, State.endOutput]) (by simp [State.stopOutput, State.endOutput])
      (by simp [State.stopOutput, State.endOutput]) (by simp [State.stopOutput, State.endOutput])
      (by simp [State.stopOutput, State.endOutput]) (by simp [State.stopOutput, State.endOutput])
      (by simp [State.stopOutput, State.endOutput])
  · exact h

end Sys2Proof.Machine
end

section
/-! THEOREM. The law of T and Z within the limits of the ladder (R69, R70, R74, R88). -/

namespace Sys2Proof.Machine

variable {A : Src → Prop} {lo hi : Nat} {s t : State}

/-! Who is involved -/

theorem believed_of_among {i : Src} (hstate : (s.source i).state.isRole = true → A i)
    (hrep : ∀ x ∈ s.zc.reports.get i, x.Among A i) (h : s.believed i = true) : A i := by
  unfold State.believed State.belief at h
  split at h
  · exact hstate h
  next x rest hl =>
    have hx : x ∈ s.roleReports i := by rw [hl]; exact List.mem_cons_self
    exact (hrep x (List.mem_filter.mp hx).1).1 h

theorem believed_of_report {i : Src} {x : Report} (hx : x ∈ s.zc.reports.get i) (hr : x.role.isRole = true) :
    s.believed i = true := by
  have hmem : x ∈ s.roleReports i := List.mem_filter.mpr ⟨hx, by simpa using hr⟩
  unfold State.believed State.belief
  split
  next hnil => rw [hnil] at hmem; cases hmem
  next y rest hl =>
    have hy : y ∈ s.roleReports i := by rw [hl]; exact List.mem_cons_self
    simpa using (List.mem_filter.mp hy).2

theorem Cast.involved (h : Cast A lo hi s) (i : Src) (hi' : s.Involved i) : A i := by
  rcases hi' with hstate | hpend | ⟨r, hr, hgt⟩ | ⟨j, x, hx, y, hy, hgt⟩ | hb
  · exact h.state i hstate
  · exact h.pending i hpend
  · obtain ⟨hg, ht⟩ := h.record r hr
    rcases hgt with rfl | rfl
    · exact hg
    · exact ht
  · obtain ⟨hg, ht⟩ := (h.reports j x hx).2 y hy
    rcases hgt with rfl | rfl
    · exact hg
    · exact ht
  · exact believed_of_among (h.state i) (h.reports i) hb

theorem le_zcap {x : Source} (h : 256 ≤ x.stretch) : x.base ≤ x.zcap := by
  unfold Source.zcap
  rw [Nat.le_div_iff_mul_le (by decide)]
  exact Nat.mul_le_mul_left _ h

/-- The involved sources are a cast, where ranges, T and Z are within limits. -/
theorem cast_of_involved (hon : ∀ i, s.Involved i → s.OnLadder i) (hfits : ∀ i, s.OnLadder i → (s.source i).Fits lo hi)
    (ht : lo ≤ s.zc.target ∧ s.zc.target ≤ hi) (hz : lo ≤ s.zc.shown ∧ s.zc.shown ≤ hi) : Cast s.OnLadder lo hi s where
  fits := hfits
  ladder := fun l hl r hr => ⟨l, hl, r, hr, rfl⟩
  state := fun i hi => hon i (.inl hi)
  pending := fun i hi => hon i (.inr (.inl hi))
  record := fun r hr => ⟨hon _ (.inr (.inr (.inl ⟨r, hr, .inl rfl⟩))), hon _ (.inr (.inr (.inl ⟨r, hr, .inr rfl⟩)))⟩
  reports := fun i x hx => ⟨fun hr => hon i (.inr (.inr (.inr (.inr (believed_of_report hx hr))))), fun y hy =>
    ⟨hon _ (.inr (.inr (.inr (.inl ⟨i, x, hx, y, hy, .inl rfl⟩)))),
      hon _ (.inr (.inr (.inr (.inl ⟨i, x, hx, y, hy, .inr rfl⟩))))⟩⟩
  target := ht
  shown := hz

/-- The law of the zoom as a cast: the sources of the ladder within its limits. -/
theorem ZoomLaw.cast (h : ZoomLaw s) : ∃ lo hi, Cast s.OnLadder lo hi s ∧
    ∀ l, s.zc.ladder = some l → lo = s.zmin l ∧ hi = s.zmax l := by
  cases hl : s.zc.ladder with
  | none =>
    refine ⟨0, max s.zc.target s.zc.shown, cast_of_involved h.involved ?_ ⟨Nat.zero_le _, Nat.le_max_left ..⟩ ⟨Nat.zero_le _, Nat.le_max_right ..⟩,
      by rintro _ ⟨⟩⟩
    rintro i ⟨l, hl', _⟩
    rw [hl] at hl'
    cases hl'
  | some l =>
    refine ⟨s.zmin l, s.zmax l, cast_of_involved h.involved ?_ (h.target l hl) (h.shown l hl), by rintro _ ⟨⟩; exact ⟨rfl, rfl⟩⟩
    rintro i ⟨l', hl', r, hr, rfl⟩
    rw [hl] at hl'
    cases hl'
    obtain ⟨hb, hc⟩ := h.rungs l hl r hr
    exact ⟨hb, le_zcap (h.stretch _), hc⟩

/-! What keeps the law -/

theorem zmin_congr (h : ∀ i, (t.source i).base = (s.source i).base) (l : Ladder) : t.zmin l = s.zmin l := by
  unfold State.zmin
  split
  · rfl
  · exact h _

theorem zmax_congr (h : ∀ i, (t.source i).zcap = (s.source i).zcap) (l : Ladder) : t.zmax l = s.zmax l := by
  unfold State.zmax
  split
  · rfl
  · exact h _

/-- The description of every source stands as far as the ladder goes by it. -/
def Described (s t : State) : Prop := ∀ i, (t.source i).base = (s.source i).base ∧ (t.source i).stretch = (s.source i).stretch

theorem described_of_same (h : t.sources = s.sources) : Described s t := fun i => by rw [source_congr _ _ h]; exact ⟨rfl, rfl⟩

theorem Chain.describes (h : Chain s t) : Described s t := fun i => by
  obtain ⟨_, hb, _, _, hs, _⟩ := h.described i
  exact ⟨hb, hs⟩

/-- What keeps the cast, the ladder and the descriptions keeps the law. -/
theorem ZoomLaw.keeps (h : ZoomLaw s) (hd : Described s t) (hl : t.zc.ladder = s.zc.ladder)
    (hcast : ∀ {A lo hi}, Cast A lo hi s → Cast A lo hi t) : ZoomLaw t := by
  obtain ⟨lo, hi, hs, hlim⟩ := h.cast
  have ht := hcast hs
  have hcap (i : Src) : (t.source i).zcap = (s.source i).zcap := by simp [Source.zcap, hd i]
  have hmin (l : Ladder) : t.zmin l = s.zmin l := zmin_congr (fun i => (hd i).1) l
  have hmax (l : Ladder) : t.zmax l = s.zmax l := zmax_congr hcap l
  refine ⟨fun i => by rw [(hd i).2]; exact h.stretch i, ?_, by rw [hl]; exact h.nonempty, ?_, ?_, fun i hi' => ?_⟩
  · rw [hl]
    intro l hl' r hr
    rw [hmin, hmax, hcap, (hd _).1]
    exact h.rungs l hl' r hr
  · rw [hl]
    intro l hl'
    obtain ⟨rfl, rfl⟩ := hlim l hl'
    rw [hmin, hmax]
    exact ht.shown
  · rw [hl]
    intro l hl'
    obtain ⟨rfl, rfl⟩ := hlim l hl'
    rw [hmin, hmax]
    exact ht.target
  · unfold State.OnLadder
    rw [hl]
    exact ht.involved i hi'

/-! Outside STREAMING nobody is involved -/

theorem not_involved (hr : ∀ i, s.Released i) (hrec : s.zc.record = none) (hpend : s.cp.pendingPrimary = none) (i : Src) :
    ¬ s.Involved i := by
  rintro (hstate | hp | ⟨r, hr', _⟩ | ⟨j, x, hx, y, hy, _⟩ | hb)
  · rw [(hr i).1] at hstate; cases hstate
  · rw [hpend] at hp; cases hp
  · rw [hrec] at hr'; cases hr'
  · rw [((hr j).2 x hx).2] at hy; cases hy
  · rw [believed_eq_false_iff.mpr (released_hold (hr i)).1] at hb; cases hb

theorem zoomLaw_of_reset (hsrc : t.sources = Four.fill Source.reset) (hzc : t.zc = ZoomCtl.reset)
    (hcp : t.cp = Compositor.reset) (hpart : t.link.part = .reset) : ZoomLaw t := by
  have hl : t.zc.ladder = none := by rw [hzc]; rfl
  have hs := staged_of_reset hsrc hzc hcp hpart
  have hoff : t.link.part ≠ .streaming := by rw [hpart]; decide
  refine ⟨fun i => ?_, ?_, ?_, ?_, ?_, fun i hi => absurd hi ?_⟩
  · rw [State.source, hsrc, get_fill]; decide
  all_goals rw [hl] at *
  · rintro _ ⟨⟩
  · rintro _ ⟨⟩
  · rintro _ ⟨⟩
  · rintro _ ⟨⟩
  · exact not_involved (hs.released hoff) (hs.record hoff) (hs.off hoff).2.2 i

/-! SOURCE_DEFINE -/

theorem onLadder_eq_false {i : Src} (h : s.onLadder i = false) {l : Ladder} (hl : s.zc.ladder = some l) :
    ∀ r ∈ l, r.source ≠ i := by
  unfold State.onLadder at h
  rw [hl] at h
  simpa using h

/-- A description is given to a source that no rung names. -/
theorem zoomLaw_define (h : ZoomLaw s) {i : Src} (hl : s.onLadder i = false) {d : Description} (hd : d.badField = none) :
    ZoomLaw ((s.setSource i ((s.source i).describe d)).setWindow i none) := by
  have hsource (j : Src) : ((s.setSource i ((s.source i).describe d)).setWindow i none).source j =
      if j = i then (s.source i).describe d else s.source j := by rw [source_setWindow, source_setSource]
  have hrung {l : Ladder} (hs : s.zc.ladder = some l) {r : Rung} (hr : r ∈ l) :
      ((s.setSource i ((s.source i).describe d)).setWindow i none).source r.source = s.source r.source := by
    rw [hsource, if_neg (onLadder_eq_false hl hs r hr)]
  have hmin {l : Ladder} (hs : s.zc.ladder = some l) :
      ((s.setSource i ((s.source i).describe d)).setWindow i none).zmin l = s.zmin l := by
    unfold State.zmin
    split
    · rfl
    next r hr => rw [hrung hs (List.mem_of_head? hr)]
  have hmax {l : Ladder} (hs : s.zc.ladder = some l) :
      ((s.setSource i ((s.source i).describe d)).setWindow i none).zmax l = s.zmax l := by
    unfold State.zmax
    split
    · rfl
    next r hr => rw [hrung hs (List.mem_of_getLast? hr)]
  refine ⟨fun j => ?_, fun l hs r hr => ?_, h.nonempty, fun l hs => ?_, fun l hs => ?_, fun j hj => ?_⟩
  · rw [hsource]
    split_ifs
    · unfold Description.badField at hd
      split_ifs at hd with _ _ _ hstretch
      exact not_lt.mp (not_or.mp hstretch).1
    · exact h.stretch j
  · rw [hmin hs, hmax hs, hrung hs hr]; exact h.rungs l hs r hr
  · rw [hmin hs, hmax hs]; exact h.shown l hs
  · rw [hmin hs, hmax hs]; exact h.target l hs
  · refine h.involved j ?_
    have hstate (k : Src) : (((s.setSource i ((s.source i).describe d)).setWindow i none).source k).state =
        (s.source k).state := by
      rw [hsource]
      split_ifs with hk
      · rw [hk]; rfl
      · rfl
    have hbelieved (k : Src) : ((s.setSource i ((s.source i).describe d)).setWindow i none).believed k = s.believed k := by
      unfold State.believed State.belief
      rw [hstate]
      rfl
    unfold State.Involved at hj ⊢
    rw [hstate, hbelieved] at hj
    exact hj

/-! LADDER_SET -/

/-- The rungs go up in base zoom and in zoom cap (R70). -/
def Rising (s : State) (l : Ladder) : Prop :=
  (l.Pairwise fun a b => (s.source a.source).base ≤ (s.source b.source).base) ∧
    l.Pairwise fun a b => (s.source a.source).zcap ≤ (s.source b.source).zcap

theorem le_last {α : Type} {f : α → Nat} {l : List α} (h : l.Pairwise fun a b => f a ≤ f b) {b : α} (hb : l.getLast? = some b) :
    ∀ a ∈ l, f a ≤ f b := by
  obtain ⟨init, rfl⟩ := List.getLast?_eq_some_iff.mp hb
  intro a ha
  rcases List.mem_append.mp ha with ha | ha
  · exact (List.pairwise_append.mp h).2.2 a ha b (List.mem_singleton.mpr rfl)
  · rw [List.mem_singleton.mp ha]

theorem head_le {α : Type} {f : α → Nat} {l : List α} (h : l.Pairwise fun a b => f a ≤ f b) {b : α} (hb : l.head? = some b) :
    ∀ a ∈ l, f b ≤ f a := by
  obtain ⟨rest, rfl⟩ := List.head?_eq_some_iff.mp hb
  intro a ha
  rcases List.mem_cons.mp ha with rfl | ha
  · exact le_refl _
  · exact List.rel_of_pairwise_cons h ha

theorem pairwise_snoc {α : Type} {f : α → Nat} {l : List α} (h : l.Pairwise fun a b => f a ≤ f b) {x : α}
    (hx : ∀ b, l.getLast? = some b → f b ≤ f x) : (l ++ [x]).Pairwise fun a b => f a ≤ f b := by
  refine List.pairwise_append.mpr ⟨h, List.pairwise_singleton .., fun a ha b hb => ?_⟩
  rw [List.mem_singleton.mp hb]
  obtain ⟨c, hc⟩ := Option.isSome_iff_exists.mp (List.getLast?_isSome.mpr (List.ne_nil_of_mem ha))
  exact (le_last h hc a ha).trans (hx c hc)

/-- A rung that passes the checks lies above the one below it (checks 5 and 6 of R70). -/
theorem checkRung_rises {lower : Ladder} {x : RungRec} {r below : Rung} (h : s.checkRung lower x = .ok r)
    (hb : lower.getLast? = some below) : (s.source below.source).base ≤ (s.source r.source).base ∧
      (s.source below.source).zcap ≤ (s.source r.source).zcap := by
  unfold State.checkRung at h
  rw [hb] at h
  split at h
  · cases h
  next i _ =>
    split_ifs at h
    dsimp only at h
    split at h
    · cases h
    next hp =>
      cases h
      unfold failedPointCheck at hp
      split_ifs at hp with hbase hcap
      exact ⟨hbase.le, hcap⟩

theorem checkRungs_rising {rungs : List RungRec} : ∀ {lower l : Ladder}, s.checkRungs rungs lower = .ok l →
    Rising s lower → Rising s l ∧ (lower ≠ [] ∨ rungs ≠ [] → l ≠ []) := by
  induction rungs with
  | nil => rintro lower l ⟨⟩ hr; exact ⟨hr, by simp⟩
  | cons x rest ih =>
    intro lower l h hr
    unfold State.checkRungs at h
    split at h
    · cases h
    next r hx =>
      have hrise : Rising s (lower ++ [r]) :=
        ⟨pairwise_snoc hr.1 fun b hb => (checkRung_rises hx hb).1, pairwise_snoc hr.2 fun b hb => (checkRung_rises hx hb).2⟩
      obtain ⟨hl, hne⟩ := ih h hrise
      exact ⟨hl, fun _ => hne (.inl (by simp))⟩

theorem Rising.within {l : Ladder} (h : Rising s l) {r : Rung} (hr : r ∈ l) :
    s.zmin l ≤ (s.source r.source).base ∧ (s.source r.source).zcap ≤ s.zmax l := by
  constructor
  · unfold State.zmin
    split
    · exact Nat.zero_le _
    next b hb => exact head_le (f := fun r => (s.source r.source).base) h.1 hb r hr
  · unfold State.zmax
    split
    next hn => rw [List.getLast?_eq_none_iff.mp hn] at hr; cases hr
    next b hb => exact le_last (f := fun r => (s.source r.source).zcap) h.2 hb r hr

theorem clamp_between {v a b : Nat} (h : a ≤ b) : a ≤ clamp v a b ∧ clamp v a b ≤ b := by
  unfold clamp
  split_ifs <;> omega

theorem zoomLaw_takeLadder (h : ZoomLaw s) (hnone : ∀ i, ¬ s.Involved i) {l : Ladder} (hr : Rising s l) (hne : l ≠ []) :
    ZoomLaw (s.takeLadder l) := by
  have hle : s.zmin l ≤ s.zmax l := by
    obtain ⟨r, hmem⟩ := List.exists_mem_of_ne_nil l hne
    obtain ⟨hb, hc⟩ := hr.within hmem
    exact hb.trans ((le_zcap (h.stretch _)).trans hc)
  refine ⟨h.stretch, ?_, ?_, ?_, ?_, fun i hi => absurd hi (hnone i)⟩
  · rintro _ ⟨⟩ r hmem; exact hr.within hmem
  · rintro _ ⟨⟩; exact hne
  · rintro _ ⟨⟩; exact clamp_between hle
  · rintro _ ⟨⟩; exact clamp_between hle

/-! ZOOM_SET -/

theorem zoomLaw_zoomSet (h : ZoomLaw s) (target rate : Half) : ZoomLaw (s.zoomSet target rate).state := by
  have hstored (l : Ladder) (hl : s.zc.ladder = some l) :
      s.zmin l ≤ s.storedTarget target.toNat ∧ s.storedTarget target.toNat ≤ s.zmax l := by
    unfold State.storedTarget
    rw [hl]
    exact clamp_between ((h.target l hl).1.trans (h.target l hl).2)
  unfold State.zoomSet
  split_ifs
  · exact h
  · refine ⟨h.stretch, h.rungs, h.nonempty, fun l hl => ?_, hstored, h.involved⟩
    show s.zmin l ≤ s.zoomSetShown target.toNat ∧ s.zoomSetShown target.toNat ≤ s.zmax l
    unfold State.zoomSetShown
    split_ifs
    · exact hstored l hl
    · exact h.shown l hl

/-! Every event -/

theorem plain_zoomLaw (h : Plain s t) (hs : ZoomLaw s) : ZoomLaw t :=
  hs.keeps (described_of_same h.sources) (by rw [h.zc]) fun hc => hc.sameParts h.sources h.zc h.pending

theorem Course.zoomLaw (h : Course s t) (hd : Described s t) (hout : OutputLaw s) (hs : ZoomLaw s) : ZoomLaw t := by
  cases h with
  | plain h _ => exact plain_zoomLaw h hs
  | drift h => exact hs.keeps hd h.stands.ladder h.cast
  | reset hsrc hzc hcp hpart => exact zoomLaw_of_reset hsrc hzc hcp hpart
  | config h _ _ => exact plain_zoomLaw h hs
  | suspend _ h k _ =>
    exact hs.keeps hd (by rw [k.zc, h.stands.ladder]) fun hc => (h.cast hc).sameParts k.sources k.zc k.pending
  | free i => exact hs.keeps hd (by simp) fun hc => hc.removeRecord.park i
  | park i => exact hs.keeps hd (by simp) fun hc => hc.park i
  | define i d _ hl hbad => exact zoomLaw_define hs hl hbad
  | ladder hp hn hl =>
    have hoff : s.link.part ≠ .streaming := by rw [hp]; decide
    have hst := hout.staged
    obtain ⟨hrise, hne⟩ := checkRungs_rising hl ⟨.nil, .nil⟩
    exact zoomLaw_takeLadder hs (not_involved (hst.released hoff) (hst.record hoff) (hst.off hoff).2.2) hrise (hne (.inr hn))
  | zoomSet target rate => exact zoomLaw_zoomSet hs target rate
  | pin on => exact hs.keeps hd rfl fun hc => hc.same rfl rfl rfl rfl rfl rfl rfl
  | disarm => exact hs.keeps hd (by simp) fun hc => hc.removeRecord.same rfl rfl rfl rfl rfl rfl rfl
  | report i => exact hs.keeps hd (by simp) fun hc => hc.takeReport i
  | tick => exact hs.keeps hd (by simp) Cast.tick
  | start => exact hs.keeps hd (by simp) Cast.outputStart
  | stop => exact hs.keeps hd (by simp) Cast.outputStop

theorem Event.zoomLaw (h : Event s t) (hout : OutputLaw s) (hs : ZoomLaw s) : ZoomLaw t := by
  have hcourse : Course s t := h.course fun hl => (hout.locking hl).1
  rcases h.chained with hc | hu
  · exact hcourse.zoomLaw hc.describes hout hs
  · cases hu with
    | define i d _ hl _ hd => exact zoomLaw_define hs hl hd
    | hardReset => exact zoomLaw_of_reset rfl rfl rfl rfl
    | linkReset => exact zoomLaw_of_reset rfl rfl rfl rfl
    | endPulse => exact hcourse.zoomLaw (described_of_same (by simp)) hout hs
    | release x => exact hcourse.zoomLaw (described_of_same (by simp)) hout hs
    | settings | noticeTake | noticeSetup => exact hcourse.zoomLaw (described_of_same rfl) hout hs

theorem zoomLaw_exchange (h : Exchange s t) (hs : ZoomLaw s) : ZoomLaw t := by
  obtain ⟨_, _, _, _, _, _, rfl⟩ := h
  exact ⟨hs.stretch, hs.rungs, hs.nonempty, hs.shown, hs.target, hs.involved⟩

/-- Settles O57: Z and T move between bounds of sources that have a part in the picture, and every such source is one of
the ladder. -/
theorem zoomLawKept : Obligations.ZoomLawKept :=
  kept_of_event (fun h hs => ⟨outputLaw_exchange h hs.1, zoomLaw_exchange h hs.2⟩) fun h hs =>
    ⟨h.outputLaw hs.1, h.zoomLaw hs.1 hs.2⟩

end Sys2Proof.Machine
end

section
/-! THEOREM. The queue and the step, resets and lock, and the laws at reset (chapters 9 and 11). -/

namespace Sys2Proof.Machine

variable {s t : State}

/-! The queue and the step -/

/-- Settles O1: a step on a queue that is not empty is defined so. -/
theorem stepTakesFrontCommand : Obligations.StepTakesFrontCommand := by
  unfold Obligations.StepTakesFrontCommand
  intros
  rfl

theorem Event.pending (h : Event s t) : t.pending = s.pending := by
  cases h with
  | hardReset | linkReset => rfl
  | _ => simp

theorem Taken.pending (h : Taken s t) : t.pending = s.pending := by
  cases h with
  | refused => rfl
  | served q queryOnly => exact (by simp : (s.serve q queryOnly).state.pending = s.pending)

theorem pending_endTransaction (n : Nat) {action : State → State} (ha : ∀ u, Taken u (action u)) (s : State) :
    (s.endTransaction n action).pending = s.pending := by
  unfold State.endTransaction
  split
  · rfl
  · split_ifs
    · simp
    · rfl
    · rw [(ha _).pending]; rfl
    · rfl

theorem Doing.pending (h : Doing s t) : t.pending = s.pending := by
  cases h with
  | nothing => rfl
  | event h => exact h.pending
  | begins => simp
  | ends n ha => exact pending_endTransaction n ha s
  | whole n ha => rw [pending_endTransaction n ha]; simp
  | forms => simp

/-- Every command has a meaning in every state. -/
theorem exec_completes (c : Instr) (s : State) : ∃ t, exec c s = .next t := by cases c <;> exact ⟨_, rfl⟩

theorem step_completes (s : State) : ∃ t, step s = .next t := by
  unfold step
  split
  · unfold idle
    split
    · exact ⟨_, rfl⟩
    · exact exec_completes ..
  · exact exec_completes ..

theorem step_of_empty (h : s.pending = []) : step s = idle s := by
  unfold step
  rw [h]

/-- Settles O2: no arm of the dispatch refuses or faults, and none touches the queue. -/
theorem everyStepCompletes : Obligations.EveryStepCompletes := by
  refine ⟨⟨fun c s => ?_, step_completes⟩, fun s hq => ⟨fun c rest hd => ?_, fun hd hl => ?_, fun hd hl => ?_⟩⟩
  · obtain ⟨t, ht⟩ := exec_completes c s
    exact ⟨t, ht, (exec_doing ht).pending⟩
  all_goals rw [step_of_empty hq, idle, hd]
  · simp [State.passMicrosecond, hl, State.setTime]
  · simp [State.passMicrosecond, hl]

/-! Resets -/

/-- A transaction that is to reset the part discards what was clocked in and takes the link reset (R179). -/
theorem endTransaction_resets {x : Txn} {n : Nat} (action : State → State) (h : s.link.txn = some x) (hn : n ≠ 0)
    (hr : x.resets = true) : s.endTransaction n action = (s.closeTransaction x n).linkReset := by
  simp [State.endTransaction, h, hn, hr]

/-- A transaction that takes its request acts on what was clocked in. -/
theorem endTransaction_takes {x : Txn} {n : Nat} (action : State → State) (h : s.link.txn = some x) (hn : n ≠ 0)
    (hr : x.resets = false) (ht : x.take = true) : s.endTransaction n action = action (s.closeTransaction x n) := by
  simp [State.endTransaction, h, hn, hr, ht]

/-- A transaction that discards its request only clocks out. -/
theorem endTransaction_discards {x : Txn} {n : Nat} (action : State → State) (h : s.link.txn = some x) (hn : n ≠ 0)
    (hr : x.resets = false) (ht : x.take = false) : s.endTransaction n action = s.closeTransaction x n := by
  simp [State.endTransaction, h, hn, hr, ht]

theorem exec_transactionEnd (bytes : List Byte) (s : State) :
    exec (.transactionEnd bytes) s = .next (s.endTransaction bytes.length (State.takeFrame bytes)) := rfl

theorem length_ne_zero {α : Type} {l : List α} (h : l ≠ []) : l.length ≠ 0 := by simpa using h

/-- Settles O3: both resets are built from the reset values, with what they keep put back. -/
theorem resetValues : Obligations.ResetValues := by
  refine ⟨fun s => ⟨s.hardReset, rfl, rfl, rfl, rfl, rfl, rfl, rfl, rfl, fun i => get_fill .., fun i => ?_, fun i => get_fill ..,
    fun i => ?_, fun i => get_fill .., rfl, rfl, rfl, rfl, rfl, rfl, rfl, rfl, rfl, rfl, rfl, rfl, rfl, rfl, rfl, rfl, rfl, rfl,
    rfl⟩, fun s r bytes ht hb => ?_⟩
  · have hr : s.hardReset.receiver i = Receiver.reset := get_fill ..
    rw [hr]
    exact ⟨rfl, rfl, rfl, rfl⟩
  · have hc : s.hardReset.gu.cal.get i = Vector.replicate 12 none := get_fill ..
    rw [hc]
    rfl
  · rw [exec_transactionEnd, endTransaction_resets _ ht (length_ne_zero hb) rfl]
    exact ⟨_, rfl, rfl, rfl, rfl, rfl, rfl, rfl, rfl, rfl, rfl, rfl, rfl, rfl, rfl, rfl, rfl, rfl, rfl, rfl, rfl, rfl, rfl, rfl, rfl,
      rfl, rfl, rfl, rfl, rfl⟩

/-- READY is the first entry of the empty queue, and raises the line (R183 to R187). -/
theorem post_ready (mode : AttnMode) (now : Time) (kind : ResetKind) (x : Straps) :
    NoticeQueue.post ⟨[], 0, 0, false, none⟩ mode now none (.ready kind x now) =
      { entries := [⟨.ready, none, .urgent, 1, now, .ready kind x now⟩], masked := 0, urgent := 0, attn := true,
        pulse := if mode = .pulse then some ⟨now, 2⟩ else none } := by
  cases mode <;> rfl

/-- Settles O4: the reset is left by the release of the pin, then by lock, or by the end of the link reset. -/
theorem resetIsLeft : Obligations.ResetIsLeft := by
  refine ⟨fun link attn clk1 clk0 s hr => ?_, fun s hr hl hq => ?_, fun s hp hl hq => ?_⟩
  · show Host.Outcome.next (s.release (strapsOf link attn clk1 clk0)) = _
    rw [State.release, if_pos hr]
    cases clk1 <;> cases clk0 <;> rfl
  · show Host.Outcome.next s.reachLock = _
    rw [State.reachLock, if_pos ⟨hr, hl⟩, State.postReady, State.post, hq]
    dsimp only
    rw [post_ready]
  · show Host.Outcome.next s.endLinkReset = _
    rw [State.endLinkReset, if_pos ⟨hp, hl⟩, State.postReady, State.post, hq]
    dsimp only
    rw [post_ready]

/-! The laws at reset -/

theorem calLaw_reset : CalLaw State.reset := by
  intro i
  have hc : State.reset.gu.cal.get i = Vector.replicate 12 none := get_fill ..
  rw [hc]
  exact ⟨by decide, by decide⟩

/-- Settles O51: at reset nothing runs, nothing waits and nobody is in the picture. -/
theorem lawsHoldAtReset : Obligations.LawsHoldAtReset := by
  have hscene : Scene State.reset := scene_of_reset rfl rfl rfl
  refine ⟨sourceLaw_of_reset rfl, idleLaw_of_reset rfl, ringLaw_of_reset rfl rfl rfl, calLaw_reset, recordLaw_of_reset rfl rfl,
    outputLaw_iff.mpr ⟨⟨fun _ => rfl, fun _ => ⟨rfl, rfl⟩⟩, staged_of_reset rfl rfl rfl rfl⟩, pictureLaw_iff.mpr hscene,
    hscene.firstLaw, zoomLaw_of_reset rfl rfl rfl rfl, linkLaw_of_reset rfl, noticeLaw_of_reset rfl,
    ⟨fun _ => rfl, fun _ => rfl, fun _ => atRest_hardReset State.reset⟩, rfl, rfl⟩

end Sys2Proof.Machine
end

section
/-! THEOREM. The control link: transactions, frames and the CRC (R166 to R173, R179, R180, R196). -/

namespace Sys2Proof.Machine

variable {s t : State}

/-! Transactions -/

theorem exec_transactionStart (s : State) : exec .transactionStart s = .next s.beginTransaction := rfl

theorem beginTransaction_free (hr : s.cru.resetHeld = false) (ht : s.link.txn = none) :
    s.beginTransaction = if s.link.part = .reset then s.setTxn (some ⟨.empty, false, false⟩) else s.decideTxn := by
  simp [State.beginTransaction, hr, ht]

theorem setTxn_none (h : s.link.txn = none) : s.setTxn none = s := by
  unfold State.setTxn
  rw [← h]

/-- A transaction that is released before its first whole byte leaves the machine as it was (R167, log 8). -/
theorem begin_undo (hr : s.cru.resetHeld = false) (ht : s.link.txn = none) (action : State → State) :
    s.beginTransaction.endTransaction 0 action = s := by
  have hundo (x : Txn) (hx : x.out = .empty ∨ x.out = .busy) : (s.setTxn (some x)).endTransaction 0 action = s := by
    have h0 : (s.setTxn (some x)).endTransaction 0 action = (s.setTxn (some x)).undoTransaction x := rfl
    rw [h0, State.undoTransaction]
    rcases hx with hx | hx <;> rw [hx] <;> exact setTxn_none ht
  rw [beginTransaction_free hr ht]
  split_ifs
  · exact hundo _ (.inl rfl)
  · unfold State.decideTxn
    split
    · exact hundo _ (.inl rfl)
    · exact hundo _ (.inr rfl)
    · split
      next r hs =>
        show ({ s with link := { s.link with slot := some r, txn := none } } : State) = s
        rw [← hs, ← ht]
      · exact hundo _ (.inl rfl)

/-- Settles O5: the start is decided by the part state, the phase and the slot; the end by the transaction and its bytes. -/
theorem transactionDecisions : Obligations.TransactionDecisions := by
  refine ⟨⟨fun s hr => ?_, fun s hr ht => ⟨fun hp => ?_, fun hp hf => ?_, fun hp hf => ?_, fun r hp hf hs => ?_⟩⟩,
    fun s out bytes ht hb => ?_, fun s hr ht => ?_⟩
  · rw [exec_transactionStart, State.beginTransaction, if_pos (.inl hr)]
  · rw [exec_transactionStart, beginTransaction_free hr ht, if_pos hp]
    rfl
  · rw [exec_transactionStart, beginTransaction_free hr ht, if_neg hp, State.decideTxn, hf]
    rfl
  · rw [exec_transactionStart, beginTransaction_free hr ht, if_neg hp, State.decideTxn, hf]
    rfl
  · rw [exec_transactionStart, beginTransaction_free hr ht, if_neg hp, State.decideTxn, hf]
    dsimp only
    rw [hs]
    have hd : (!r.isResetPart) = decide (¬(r.code = 0x04 ∧ r.result = .ok)) := (decide_not ..).symm
    simp only [State.deliver, hd]
    rfl
  · rw [exec_transactionEnd, endTransaction_discards _ ht (length_ne_zero hb) rfl rfl]
    rfl
  · exact ⟨_, rfl, congrArg _ (begin_undo hr ht _)⟩

/-! The reply -/

theorem Taken.sdo (h : Taken s t) : t.link.sdo = s.link.sdo := by
  cases h with
  | refused => rfl
  | served q queryOnly => exact (by simp : (s.serve q queryOnly).state.link.sdo = s.link.sdo)

/-- Settles O6: the reply being formed fills the slot, and its frame is what the transaction that delivers it clocks out. -/
theorem replyFormedAndSent : Obligations.ReplyFormedAndSent := by
  refine ⟨fun s e hp hc => ?_, fun s r bytes ht hb => ?_⟩
  · show Host.Outcome.next s.formReply = _
    simp [State.formReply, hp, hc]
  · rw [exec_transactionEnd, endTransaction_takes _ ht (length_ne_zero hb) rfl rfl]
    refine ⟨_, rfl, ?_⟩
    rw [(taken_takeFrame bytes _).sdo]
    simp [State.closeTransaction, LinkOut.bytes, Reply.frame, Config.replySync, Config.emptyMarker]

/-! Frames -/

theorem half_bytes (c : Half) : half (c.extractLsb' 8 8) (c.extractLsb' 0 8) = c :=
  BitVec.extractLsb'_append_extractLsb' (w := 8) (len := 8)

theorem be16_half (hi lo : Byte) : be16 (half hi lo) = [hi, lo] := by
  have hhigh : (half hi lo).extractLsb' 8 8 = hi :=
    (BitVec.extractLsb'_append_eq_of_le (xhi := hi) (xlo := lo) le_rfl).trans BitVec.extractLsb'_eq_self
  have hlow : (half hi lo).extractLsb' 0 8 = lo :=
    (BitVec.extractLsb'_append_eq_of_add_le (xhi := hi) (xlo := lo) le_rfl).trans BitVec.extractLsb'_eq_self
  rw [be16, hhigh, hlow]

theorem toNat_half (hi lo : Byte) : (half hi lo).toNat = hi.toNat * 256 + lo.toNat := by
  have h : (half hi lo).toNat = hi.toNat <<< 8 ||| lo.toNat := BitVec.toNat_append hi lo
  rw [h, ← Nat.shiftLeft_add_eq_or_of_lt lo.isLt, Nat.shiftLeft_eq]

theorem frameCheck_badSync {bytes : List Byte} (h : bytes.head? ≠ some 0xA5) : frameCheck bytes = some .badSync := by
  have hsync : bytes[0]?.getD 0 ≠ Config.requestSync := by
    cases bytes with
    | nil => decide
    | cons b rest => simpa [Config.requestSync] using h
  rw [frameCheck, if_pos hsync]

/-- The fields of bytes laid out as a frame: length, body, CRC and fill (R169, R170). -/
theorem frame_fields {len : Byte} {body fill bytes : List Byte} {c : Half} (hlen : body.length = len.toNat + 3)
    (hb : bytes = 0xA5 :: len :: (body ++ be16 c ++ fill)) :
    frameLength bytes = len.toNat ∧ frameBody bytes = len :: body ∧ frameCrc bytes = c ∧ len.toNat + 7 ≤ bytes.length := by
  subst hb
  have hl : frameLength (0xA5 :: len :: (body ++ be16 c ++ fill)) = len.toNat := rfl
  have htail (k : Nat) : (body ++ be16 c ++ fill)[len.toNat + 3 + k]? = (be16 c ++ fill)[k]? := by
    rw [List.append_assoc, List.getElem?_append_right (by omega), hlen, Nat.add_sub_cancel_left]
  refine ⟨hl, ?_, ?_, ?_⟩
  · rw [frameBody, hl, List.drop_one, List.tail_cons, List.take_succ_cons, List.append_assoc, ← hlen, List.take_left]
  · rw [frameCrc, hl]
    show half (((body ++ be16 c ++ fill)[len.toNat + 3 + 0]?).getD 0) (((body ++ be16 c ++ fill)[len.toNat + 3 + 1]?).getD 0) = c
    rw [htail, htail]
    exact half_bytes c
  · simp only [List.length_cons, List.length_append, hlen, be16, List.length_nil]
    omega

/-- The checks of R169 on bytes whose first byte is the sync byte. -/
theorem frameCheck_sync {bytes : List Byte} (h : bytes[0]?.getD 0 = 0xA5) : frameCheck bytes =
    if bytes.length < 2 ∨ 250 < frameLength bytes then some .badLengthField
    else if bytes.length < frameLength bytes + 7 then some .short
    else if frameCrc bytes ≠ crc (frameBody bytes) then some .badCrc else none := by
  have hsync : ¬ bytes[0]?.getD 0 ≠ Config.requestSync := not_not.mpr h
  rw [frameCheck, if_neg hsync]
  rfl

/-- The last check of R169 on bytes laid out as a frame. -/
theorem frameCheck_frame {len : Byte} {body fill bytes : List Byte} {c : Half} (hmax : len.toNat ≤ 250)
    (hlen : body.length = len.toNat + 3) (hb : bytes = 0xA5 :: len :: (body ++ be16 c ++ fill)) :
    frameCheck bytes = if c = crc (len :: body) then none else some .badCrc := by
  obtain ⟨hl, hbody, hcrc, hlong⟩ := frame_fields hlen hb
  rw [frameCheck_sync (by rw [hb]; rfl), hl, hbody, hcrc, if_neg (by omega), if_neg (by omega)]
  by_cases hc : c = crc (len :: body) <;> simp [hc]

theorem takeFrame_failed {bytes : List Byte} {cause : FrameCause} (h : frameCheck bytes = some cause) (s : State) :
    s.takeFrame bytes = s.forming none ⟨0, 0, .frameError, [cause.code]⟩ := by
  unfold State.takeFrame
  rw [h]
  rfl

/-- A transaction on a free link, of the bytes of a list that is not empty. -/
theorem transaction_bytes (h : LinkReady s) {bytes : List Byte} (hb : bytes ≠ []) (action : State → State) :
    s.beginTransaction.endTransaction bytes.length action = action (s.delivered bytes.length) := by
  obtain ⟨n, hn⟩ := Nat.exists_eq_succ_of_ne_zero (length_ne_zero hb)
  rw [hn]
  exact transaction_ready h n action

/-- Settles O7: a frame that fails a check is answered so, and the checks are those of the bytes' layout. -/
theorem frameErrors : Obligations.FrameErrors := by
  refine ⟨fun s bytes cause h hb hc => ?_, fun bytes => ⟨frameCheck_badSync, fun hb => ?_, fun len rest hb => ⟨fun hl => ?_,
    fun hl hs => ?_, fun hl body fill c hlen hr => ?_⟩⟩⟩
  · show Host.Outcome.next (s.beginTransaction.endTransaction bytes.length (State.takeFrame bytes)) = _
    rw [transaction_bytes h hb, takeFrame_failed hc]
  · rw [hb]; rfl
  all_goals have hsync : bytes[0]?.getD 0 = 0xA5 := by rw [hb]; rfl
  all_goals have hfield : frameLength bytes = len.toNat := by rw [hb]; rfl
  · rw [frameCheck_sync hsync, hfield, if_pos (.inr hl)]
  · have hlong : 2 ≤ bytes.length := by rw [hb]; simp
    rw [frameCheck_sync hsync, hfield, if_neg (by omega), if_pos hs]
  · exact frameCheck_frame hl hlen (by rw [hb, hr])

/-! The round trip and the CRC -/

theorem frame_append (q : RawRequest) (fill : List Byte) : q.frame ++ fill =
    0xA5 :: u8 q.payload.length :: ((q.code :: q.tag :: q.modifier :: q.payload) ++
      be16 (crc (u8 q.payload.length :: q.code :: q.tag :: q.modifier :: q.payload)) ++ fill) := by
  simp [RawRequest.frame, Config.requestSync]

theorem u8_toNat {n : Nat} (h : n ≤ 250) : (u8 n).toNat = n := by
  rw [u8, BitVec.toNat_ofNat, Nat.mod_eq_of_lt (by omega)]

/-- The frame of a request passes the checks and is read back (R169, R170). -/
theorem frame_read {q : RawRequest} (h : q.payload.length ≤ 250) (fill : List Byte) :
    frameCheck (q.frame ++ fill) = none ∧ frameRequest (q.frame ++ fill) = q := by
  have hlen : (q.code :: q.tag :: q.modifier :: q.payload).length = (u8 q.payload.length).toNat + 3 := by
    rw [u8_toNat h]; rfl
  constructor
  · rw [frameCheck_frame (by rw [u8_toNat h]; exact h) hlen (frame_append q fill), if_pos rfl]
  · obtain ⟨hl, _, _, _⟩ := frame_fields hlen (frame_append q fill)
    rw [frameRequest, hl, u8_toNat h, frame_append]
    simp

/-- Bytes that pass the checks are laid out as a frame. -/
theorem layout_of_check {bytes : List Byte} (h : frameCheck bytes = none) :
    ∃ (len : Byte) (body fill : List Byte), len.toNat ≤ 250 ∧ body.length = len.toNat + 3 ∧
      bytes = 0xA5 :: len :: (body ++ be16 (crc (len :: body)) ++ fill) := by
  unfold frameCheck at h
  split_ifs at h with hsync hlen hshort hcrc
  obtain ⟨hlong, hmax⟩ := not_or.mp hlen
  rcases bytes with _ | ⟨b0, _ | ⟨len, rest⟩⟩
  · exact absurd Nat.two_pos hlong
  · exact absurd Nat.one_lt_two hlong
  have hfield : frameLength (b0 :: len :: rest) = len.toNat := rfl
  rw [hfield] at hshort hmax
  simp only [List.length_cons] at hshort
  have hb0 : b0 = 0xA5 := not_not.mp hsync
  have hbody : (rest.take (len.toNat + 3)).length = len.toNat + 3 := by rw [List.length_take]; omega
  obtain ⟨hi, lo, fill, hdrop⟩ : ∃ hi lo fill, rest.drop (len.toNat + 3) = hi :: lo :: fill := by
    have hd : (rest.drop (len.toNat + 3)).length = rest.length - (len.toNat + 3) := List.length_drop
    rcases hdrop : rest.drop (len.toNat + 3) with _ | ⟨hi, _ | ⟨lo, fill⟩⟩
    · rw [hdrop, List.length_nil] at hd; omega
    · rw [hdrop, List.length_singleton] at hd; omega
    · exact ⟨hi, lo, fill, rfl⟩
  have hlayout : b0 :: len :: rest = 0xA5 :: len :: (rest.take (len.toNat + 3) ++ be16 (half hi lo) ++ fill) := by
    rw [be16_half, List.append_assoc, List.cons_append, List.cons_append, List.nil_append, ← hdrop, List.take_append_drop, hb0]
  obtain ⟨_, hcovered, hcarried, _⟩ := frame_fields hbody hlayout
  rw [hcovered, hcarried] at hcrc
  refine ⟨len, rest.take (len.toNat + 3), fill, not_lt.mp hmax, hbody, ?_⟩
  rw [← not_not.mp hcrc]
  exact hlayout

/-- Bytes that pass the checks are a request's frame and fill. -/
theorem frame_of_check {bytes : List Byte} (h : frameCheck bytes = none) :
    ∃ (q : RawRequest) (fill : List Byte), q.payload.length ≤ 250 ∧ bytes = q.frame ++ fill := by
  obtain ⟨len, body, fill, hmax, hlen, rfl⟩ := layout_of_check h
  rcases body with _ | ⟨code, _ | ⟨tag, _ | ⟨modifier, payload⟩⟩⟩
  · rw [List.length_nil] at hlen; omega
  · rw [List.length_singleton] at hlen; omega
  · simp only [List.length_cons, List.length_nil] at hlen; omega
  have hpay : payload.length = len.toNat := by simpa using hlen
  have hu8 : u8 payload.length = len := by rw [u8, hpay, BitVec.ofNat_toNat, BitVec.setWidth_eq]
  refine ⟨⟨code, tag, modifier, payload⟩, fill, by rw [hpay]; exact hmax, ?_⟩
  rw [frame_append, hu8]

/-- A shift of the register out of which no one leaves (R170). -/
theorem crcShift_of_lt {c : Half} (h : c.toNat < 2 ^ 15) : (crcShift c).toNat = 2 * c.toNat := by
  have hm : c.msb = false := by
    rw [BitVec.msb_eq_decide]
    exact decide_eq_false (by omega)
  rw [crcShift, hm, if_neg Bool.false_ne_true, BitVec.toNat_shiftLeft, Nat.shiftLeft_eq]
  omega

/-- The high byte of the register takes it to the low byte alone. -/
theorem crcByte_high (hi lo : Byte) : crcByte (half hi lo) hi = half lo 0 := by
  have hx : half hi lo ^^^ (hi ++ (0 : Byte)) = half 0 lo :=
    (BitVec.xor_append (x₁ := hi) (x₂ := hi) (y₁ := lo) (y₂ := 0)).trans (by rw [BitVec.xor_self]; exact congrArg _ BitVec.xor_zero)
  have hlt : (half 0 lo).toNat = lo.toNat := by simp [toNat_half]
  have hlo := lo.isLt
  apply BitVec.eq_of_toNat_eq
  have htarget : (half lo 0).toNat = 256 * lo.toNat := by simp [toNat_half, Nat.mul_comm]
  unfold crcByte
  rw [hx, htarget]
  generalize half 0 lo = c at hlt
  have h1 := crcShift_of_lt (c := c) (by omega)
  have h2 := crcShift_of_lt (c := crcShift c) (by omega)
  have h3 := crcShift_of_lt (c := crcShift (crcShift c)) (by omega)
  have h4 := crcShift_of_lt (c := crcShift (crcShift (crcShift c))) (by omega)
  have h5 := crcShift_of_lt (c := crcShift (crcShift (crcShift (crcShift c)))) (by omega)
  have h6 := crcShift_of_lt (c := crcShift (crcShift (crcShift (crcShift (crcShift c))))) (by omega)
  have h7 := crcShift_of_lt (c := crcShift (crcShift (crcShift (crcShift (crcShift (crcShift c)))))) (by omega)
  have h8 := crcShift_of_lt (c := crcShift (crcShift (crcShift (crcShift (crcShift (crcShift (crcShift c))))))) (by omega)
  omega

theorem crcByte_low (lo : Byte) : crcByte (half lo 0) lo = 0 := by
  have hx : half lo 0 ^^^ (lo ++ (0 : Byte)) = 0 := BitVec.xor_self
  unfold crcByte
  rw [hx]
  decide

theorem crc_append (bytes more : List Byte) : crc (bytes ++ more) = more.foldl crcByte (crc bytes) := by
  unfold crc
  rw [List.foldl_append]

/-- A register fed its own two bytes ends at 0 (R170). -/
theorem crc_own (bytes : List Byte) : crc (bytes ++ be16 (crc bytes)) = 0 := by
  rw [crc_append]
  generalize crc bytes = c
  rw [← half_bytes c, be16_half]
  generalize c.extractLsb' 8 8 = hi, c.extractLsb' 0 8 = lo
  show crcByte (crcByte (half hi lo) hi) lo = 0
  rw [crcByte_high, crcByte_low]

/-- Settles O8: the layout of a frame decides its check and its reading. -/
theorem frameRoundTrip : Obligations.FrameRoundTrip :=
  ⟨⟨fun _ fill h => frame_read h fill, fun _ => frame_of_check⟩, by decide +kernel, crc_own⟩

end Sys2Proof.Machine
end

section
/-! THEOREM. Requests as frames carry them, the checks of R171 and the acceptance table (R169, R171, R176, R197). -/

namespace Sys2Proof.Machine

variable {s t : State}

/-! Reading what was written -/

theorem word_bytes (x : Word) :
    word (x.extractLsb' 24 8) (x.extractLsb' 16 8) (x.extractLsb' 8 8) (x.extractLsb' 0 8) = x := by
  have h24 : x.extractLsb' 24 8 ++ x.extractLsb' 16 8 = x.extractLsb' 16 16 :=
    BitVec.extractLsb'_append_extractLsb'_eq_extractLsb' rfl
  have h16 : x.extractLsb' 16 16 ++ x.extractLsb' 8 8 = x.extractLsb' 8 24 :=
    BitVec.extractLsb'_append_extractLsb'_eq_extractLsb' rfl
  have h8 : x.extractLsb' 8 24 ++ x.extractLsb' 0 8 = x := BitVec.extractLsb'_append_extractLsb' (w := 24) (len := 8)
  unfold word
  rw [h24, h16, h8]

theorem readPoints_bytes (points : List PointRec) : readPoints (points.flatMap PointRec.bytes) = points := by
  induction points with
  | nil => rfl
  | cons p rest ih =>
    simp only [List.flatMap_cons, PointRec.bytes, be16, List.cons_append, List.nil_append, readPoints, half_bytes] at ih ⊢
    rw [ih]

theorem readRungs_bytes (rungs : List RungRec) : readRungs (rungs.flatMap RungRec.bytes) = rungs := by
  induction rungs with
  | nil => rfl
  | cons r rest ih =>
    simp only [List.flatMap_cons, RungRec.bytes, be16, List.cons_append, List.nil_append, readRungs, half_bytes] at ih ⊢
    rw [ih]

theorem length_pointBytes (points : List PointRec) : (points.flatMap PointRec.bytes).length = 6 * points.length := by
  simp [List.length_flatMap, PointRec.bytes, be16, Nat.mul_comm]

theorem length_rungBytes (rungs : List RungRec) : (rungs.flatMap RungRec.bytes).length = 9 * rungs.length := by
  simp [List.length_flatMap, RungRec.bytes, be16, Nat.mul_comm]

theorem readCalRun_payload {src start dir count : Byte} {points : List PointRec}
    (h : (Request.calRun src start dir count points).lengthAgrees = true) :
    readCalRun (Request.calRun src start dir count points).payload = some (.calRun src start dir count points) := by
  have hl : 12 < count.toNat ∨ points.length = pointsNamed count := of_decide_eq_true h
  simp only [Request.payload, readCalRun, length_pointBytes, readPoints_bytes]
  rw [if_neg]
  omega

theorem readLadder_payload {count : Byte} {rungs : List RungRec} (h : (Request.ladderSet count rungs).lengthAgrees = true) :
    readLadder (Request.ladderSet count rungs).payload = some (.ladderSet count rungs) := by
  have hl : count.toNat < 1 ∨ 4 < count.toNat ∨ rungs.length = count.toNat := of_decide_eq_true h
  simp only [Request.payload, readLadder, length_rungBytes, readRungs_bytes]
  rw [if_neg]
  omega

/-- The payload of a request whose length agrees is read back. -/
theorem readPayload_payload {q : Request} (h : q.lengthAgrees = true) : readPayload q.code q.payload = some q := by
  cases q
  case calRun => exact readCalRun_payload h
  case ladderSet => exact readLadder_payload h
  case sourceDefine =>
    simp [readPayload, Request.code, Request.payload, readDefine, be16, be32, half_bytes, word_bytes]
  case outputSet =>
    simp [readPayload, Request.code, Request.payload, readOutputSet, be16, be32, half_bytes, word_bytes]
  case zoomSet => simp [readPayload, Request.code, Request.payload, readZoomSet, be16, half_bytes]
  case noticeSetup => simp [readPayload, Request.code, Request.payload, readNoticeSetup, be16, half_bytes]
  all_goals rfl

theorem knownCode_code (q : Request) : knownCode q.code = true := by cases q <;> rfl

theorem queryCode_code (q : Request) : queryCode q.code = q.mayQuery := by cases q <;> rfl

/-- A request is read back from its frame's fields (R171). -/
theorem readRequest_raw {q : Request} (tag : Byte) {queryOnly : Bool} (h : q.lengthAgrees = true)
    (hq : queryOnly = true → q.mayQuery = true) :
    readRequest (q.raw tag (modifierByte queryOnly)) = .ok (q, queryOnly) := by
  have hquery : ¬ (modifierByte queryOnly = 1 ∧ queryCode q.code = false) := by
    rw [queryCode_code]
    cases queryOnly with
    | false => rintro ⟨hm, _⟩; cases hm
    | true => rw [hq rfl]; rintro ⟨_, hf⟩; cases hf
  have hmod : ¬ 1 < (modifierByte queryOnly).toNat := by cases queryOnly <;> decide
  have hone : decide (modifierByte queryOnly = 1) = queryOnly := by cases queryOnly <;> rfl
  unfold readRequest Request.raw
  dsimp only
  rw [knownCode_code, if_neg (by decide), if_neg hmod, if_neg hquery, readPayload_payload h, hone]

/-- The bytes of a frame that passes the checks are taken as the request it carries. -/
theorem takeFrame_frame {q : RawRequest} (h : q.payload.length ≤ 250) (fill : List Byte) (s : State) :
    s.takeFrame (q.frame ++ fill) = s.takeRaw q := by
  obtain ⟨hcheck, hread⟩ := frame_read h fill
  unfold State.takeFrame
  rw [hcheck, hread]

theorem takeRaw_raw {q : Request} (tag : Byte) {queryOnly : Bool} (h : q.lengthAgrees = true)
    (hq : queryOnly = true → q.mayQuery = true) (s : State) :
    s.takeRaw (q.raw tag (modifierByte queryOnly)) = s.takeRequest tag queryOnly q := by
  unfold State.takeRaw
  rw [readRequest_raw tag h hq]
  rfl

/-- Settles O9: a frame built from a request is read back as that request, so both transactions act alike. -/
theorem requestRowIsItsFrame : Obligations.RequestRowIsItsFrame := by
  refine ⟨fun s q tag queryOnly fill hl hq hmax hlen => ⟨_, rfl, ?_⟩, fun q tag queryOnly hl hq => readRequest_raw tag hl hq⟩
  have htake : State.takeFrame ((q.raw tag (modifierByte queryOnly)).frame ++ fill) = State.takeRequest tag queryOnly q := by
    funext u
    rw [takeFrame_frame hmax, takeRaw_raw tag hl hq]
  rw [exec_transactionEnd, htake, hlen]
  rfl

/-! The checks of R171 -/

theorem takeRaw_refused {raw : RawRequest} {result : Result} (h : readRequest raw = .error result) (s : State) :
    s.takeRaw raw = s.forming (some raw) ⟨raw.code, raw.tag, result, []⟩ := by
  unfold State.takeRaw
  rw [h]
  rfl

theorem readRequest_unknown {raw : RawRequest} (h : knownCode raw.code = false) : readRequest raw = .error .unknown := by
  rw [readRequest, if_pos h]

theorem readRequest_badModifier {raw : RawRequest} (hk : knownCode raw.code = true)
    (h : 1 < raw.modifier.toNat ∨ (raw.modifier = 1 ∧ queryCode raw.code = false)) : readRequest raw = .error .badModifier := by
  rw [readRequest, if_neg (by rw [hk]; decide)]
  rcases h with h | h
  · rw [if_pos h]
  · rw [if_neg (by rw [h.1]; decide), if_pos h]

theorem readRequest_badLength {raw : RawRequest} (hk : knownCode raw.code = true)
    (h : raw.modifier = 0 ∨ (raw.modifier = 1 ∧ queryCode raw.code = true)) (hp : readPayload raw.code raw.payload = none) :
    readRequest raw = .error .badLength := by
  have hmod : ¬ 1 < raw.modifier.toNat := by rcases h with h | ⟨h, _⟩ <;> rw [h] <;> decide
  have hquery : ¬ (raw.modifier = 1 ∧ queryCode raw.code = false) := by
    rintro ⟨hm, hf⟩
    rcases h with h | ⟨_, h⟩
    · rw [h] at hm; cases hm
    · rw [h] at hf; cases hf
  rw [readRequest, if_neg (by rw [hk]; decide), if_neg hmod, if_neg hquery, hp]

/-- A transaction that takes its request refuses what the checks of R171 refuse. -/
theorem transactionEnd_refused {q : RawRequest} {out : LinkOut} {result : Result} (ht : s.link.txn = some ⟨out, true, false⟩)
    (hmax : q.payload.length ≤ 250) (hr : readRequest q = .error result) (fill : List Byte) :
    exec (.transactionEnd (q.frame ++ fill)) s =
      .next ({ s with link := { s.link with txn := none, sdo := out.bytes (q.frame ++ fill).length } }.forming (some q)
        ⟨q.code, q.tag, result, []⟩) := by
  have hlen : (q.frame ++ fill).length ≠ 0 := by rw [frame_append]; exact Nat.succ_ne_zero _
  rw [exec_transactionEnd, endTransaction_takes _ ht hlen rfl rfl, takeFrame_frame hmax, takeRaw_refused hr]
  rfl

theorem knownCode_of_range {code : Byte} (h1 : 1 ≤ code.toNat) (h2 : code.toNat ≤ 0x16) : knownCode code = true :=
  decide_eq_true ⟨h1, h2⟩

/-! The payload lengths (R171, R197) -/

theorem readNone_isSome (q : Request) (payload : List Byte) : (readNone q payload).isSome = true ↔ payload.length = 0 := by
  cases payload <;> simp [readNone]

theorem readOne_isSome (f : Byte → Request) (payload : List Byte) :
    (readOne f payload).isSome = true ↔ payload.length = 1 := by
  refine ⟨fun h => ?_, fun h => ?_⟩
  · unfold readOne at h
    split at h
    · rfl
    · cases h
  · match payload, h with
    | [_], _ => rfl

theorem readTwo_isSome (f : Byte → Byte → Request) (payload : List Byte) :
    (readTwo f payload).isSome = true ↔ payload.length = 2 := by
  refine ⟨fun h => ?_, fun h => ?_⟩
  · unfold readTwo at h
    split at h
    · rfl
    · cases h
  · match payload, h with
    | [_, _], _ => rfl

theorem readDefine_isSome (payload : List Byte) : (readDefine payload).isSome = true ↔ payload.length = 14 := by
  refine ⟨fun h => ?_, fun h => ?_⟩
  · unfold readDefine at h
    split at h
    · rfl
    · cases h
  · match payload, h with
    | [_, _, _, _, _, _, _, _, _, _, _, _, _, _], _ => rfl

theorem readOutputSet_isSome (payload : List Byte) : (readOutputSet payload).isSome = true ↔ payload.length = 10 := by
  refine ⟨fun h => ?_, fun h => ?_⟩
  · unfold readOutputSet at h
    split at h
    · rfl
    · cases h
  · match payload, h with
    | [_, _, _, _, _, _, _, _, _, _], _ => rfl

theorem readZoomSet_isSome (payload : List Byte) : (readZoomSet payload).isSome = true ↔ payload.length = 4 := by
  refine ⟨fun h => ?_, fun h => ?_⟩
  · unfold readZoomSet at h
    split at h
    · rfl
    · cases h
  · match payload, h with
    | [_, _, _, _], _ => rfl

theorem readNoticeSetup_isSome (payload : List Byte) : (readNoticeSetup payload).isSome = true ↔ payload.length = 8 := by
  refine ⟨fun h => ?_, fun h => ?_⟩
  · unfold readNoticeSetup at h
    split at h
    · rfl
    · cases h
  · match payload, h with
    | [_, _, _, _, _, _, _, _], _ => rfl

theorem readCalRun_isSome (src start dir count : Byte) (rest : List Byte) :
    (readCalRun (src :: start :: dir :: count :: rest)).isSome = true ↔
      12 < count.toNat ∨ rest.length = 6 * (if count = 0 then 12 else count.toNat) := by
  show (if count.toNat ≤ 12 ∧ rest.length ≠ 6 * pointsNamed count then none else some _).isSome = true ↔
    12 < count.toNat ∨ rest.length = 6 * pointsNamed count
  split_ifs with h
  · simp only [Option.isSome_none, Bool.false_eq_true, false_iff]; omega
  · simp only [Option.isSome_some, true_iff]; omega

theorem readLadder_isSome (count : Byte) (rest : List Byte) : (readLadder (count :: rest)).isSome = true ↔
    count = 0 ∨ 4 < count.toNat ∨ rest.length = 9 * count.toNat := by
  have hzero : count = 0 ↔ count.toNat = 0 := by rw [← BitVec.toNat_inj]; rfl
  rw [hzero]
  show (if 1 ≤ count.toNat ∧ count.toNat ≤ 4 ∧ rest.length ≠ 9 * count.toNat then none else some _).isSome = true ↔ _
  split_ifs with h
  · simp only [Option.isSome_none, Bool.false_eq_true, false_iff]; omega
  · simp only [Option.isSome_some, true_iff]; omega

/-- The codes of one payload length. -/
theorem readPayload_isSome {code n : Byte} {payload : List Byte}
    (h : (code, n) ∈ ([(0x01, 0), (0x02, 0), (0x03, 0), (0x04, 0), (0x05, 0), (0x06, 0), (0x07, 14), (0x08, 2), (0x09, 1),
      (0x0B, 1), (0x0D, 10), (0x0E, 0), (0x0F, 0), (0x10, 4), (0x11, 0), (0x12, 1), (0x13, 2), (0x14, 1), (0x15, 0),
      (0x16, 8)] : List (Byte × Byte))) : (readPayload code payload).isSome = true ↔ payload.length = n.toNat := by
  simp only [List.mem_cons, Prod.mk.injEq, List.not_mem_nil, or_false] at h
  rcases h with ⟨rfl, rfl⟩ | ⟨rfl, rfl⟩ | ⟨rfl, rfl⟩ | ⟨rfl, rfl⟩ | ⟨rfl, rfl⟩ | ⟨rfl, rfl⟩ | ⟨rfl, rfl⟩ | ⟨rfl, rfl⟩ | ⟨rfl, rfl⟩ |
    ⟨rfl, rfl⟩ | ⟨rfl, rfl⟩ | ⟨rfl, rfl⟩ | ⟨rfl, rfl⟩ | ⟨rfl, rfl⟩ | ⟨rfl, rfl⟩ | ⟨rfl, rfl⟩ | ⟨rfl, rfl⟩ | ⟨rfl, rfl⟩ | ⟨rfl, rfl⟩ |
    ⟨rfl, rfl⟩
  · exact readNone_isSome _ payload
  · exact readNone_isSome _ payload
  · exact readNone_isSome _ payload
  · exact readNone_isSome _ payload
  · exact readNone_isSome _ payload
  · exact readNone_isSome _ payload
  · exact readDefine_isSome payload
  · exact readTwo_isSome _ payload
  · exact readOne_isSome _ payload
  · exact readOne_isSome _ payload
  · exact readOutputSet_isSome payload
  · exact readNone_isSome _ payload
  · exact readNone_isSome _ payload
  · exact readZoomSet_isSome payload
  · exact readNone_isSome _ payload
  · exact readOne_isSome _ payload
  · exact readTwo_isSome _ payload
  · exact readOne_isSome _ payload
  · exact readNone_isSome _ payload
  · exact readNoticeSetup_isSome payload

/-- The acceptance table (R176), by the code of the request. -/
theorem passes_table (q : Request) :
    (q.code ∈ [0x01, 0x02, 0x04, 0x15, 0x16, 0x09, 0x11, 0x0B] →
      PartState.config.passes q = true ∧ PartState.streaming.passes q = true ∧ PartState.suspended.passes q = true) ∧
    (q.code = 0x06 →
      PartState.config.passes q = false ∧ PartState.streaming.passes q = false ∧ PartState.suspended.passes q = true) ∧
    (q.code ∈ [0x07, 0x08, 0x0A, 0x10, 0x12, 0x13, 0x14] →
      PartState.config.passes q = true ∧ PartState.streaming.passes q = true ∧ PartState.suspended.passes q = false) ∧
    (q.code ∈ [0x05, 0x0C, 0x0D, 0x0E, 0x03] →
      PartState.config.passes q = true ∧ PartState.streaming.passes q = false ∧ PartState.suspended.passes q = false) ∧
    (q.code = 0x0F →
      PartState.config.passes q = false ∧ PartState.streaming.passes q = true ∧ PartState.suspended.passes q = false) := by
  cases q <;> simp [Request.code, PartState.passes]

/-- A request that the table stops on a free link is answered WRONG_STATE (R176). -/
theorem hostRequest_stopped (h : LinkReady s) {q : Request} (tag : Byte) (queryOnly : Bool) (hl : q.lengthAgrees = true)
    (hp : s.link.part.passes q = false) :
    s.hostRequest tag queryOnly q = (s.delivered 257).answered tag queryOnly q .wrongState [] := by
  have ha : (s.delivered 257).answer q queryOnly = (s.delivered 257).refuse .wrongState [] := by
    rw [State.answer, if_neg (by rw [hl]; decide)]
    exact if_pos hp
  rw [hostRequest_ready h]
  exact takeRequest_of_answer ha tag

theorem knownCode_eq_false {code : Byte} (h : code = 0 ∨ 0x16 < code.toNat) : knownCode code = false := by
  refine decide_eq_false fun ⟨h1, h2⟩ => ?_
  rcases h with rfl | h
  · exact absurd h1 (by decide)
  · omega

theorem queryCode_eq_false {code : Byte} (h1 : code ≠ 0x0A) (h2 : code ≠ 0x0C) (h3 : code ≠ 0x0D) : queryCode code = false :=
  decide_eq_false (not_or.mpr ⟨h1, not_or.mpr ⟨h2, h3⟩⟩)

/-- Settles O10: the code, the modifier, the length and the part state are checked in that order, before any owner. -/
theorem requestsRefusedOrPassed : Obligations.RequestsRefusedOrPassed := by
  refine ⟨⟨fun s code tag modifier payload h hc => ?_, fun s q out fill ht hmax h1 h2 => ⟨fun hm => ?_, fun hm hp => ?_⟩⟩,
    ⟨passes_table, fun s q tag queryOnly h hl hp => hostRequest_stopped h tag queryOnly hl hp⟩,
    fun code n payload h => readPayload_isSome h, fun payload hl => ?_, readCalRun_isSome, rfl, readLadder_isSome⟩
  · show Host.Outcome.next (s.beginTransaction.endTransaction Config.wholeTransaction
      (State.takeRaw ⟨code, tag, modifier, payload⟩)) = _
    rw [show Config.wholeTransaction = 256 + 1 from rfl, transaction_ready h,
      takeRaw_refused (readRequest_unknown (knownCode_eq_false hc))]
  · refine transactionEnd_refused ht hmax (readRequest_badModifier (knownCode_of_range h1 h2) ?_) fill
    exact hm.imp_right fun ⟨hone, ha, hc, hd⟩ => ⟨hone, queryCode_eq_false ha hc hd⟩
  · refine transactionEnd_refused ht hmax (readRequest_badLength (knownCode_of_range h1 h2) ?_ hp) fill
    exact hm.imp_right fun ⟨hone, hcode⟩ => ⟨hone, decide_eq_true hcode⟩
  · match payload, hl with
    | [], _ => rfl
    | [_], _ => rfl
    | [_, _], _ => rfl
    | [_, _, _], _ => rfl

end Sys2Proof.Machine
end

section
/-! THEOREM. A refusal changes no state (R173). -/

namespace Sys2Proof.Machine

variable {s t : State}

/-- An answer that either did what was asked, wholly or in part, or left the machine as it was. -/
def Answer.Honest (a : Answer) (s : State) : Prop :=
  (a.result = .ok ∨ a.result = .accepted ∨ a.result = .partialDone) ∨ a.state = s

theorem honest_refuse (s : State) (result : Result) (payload : List Byte) : (s.refuse result payload).Honest s := .inr rfl

theorem honest_ok (t : State) (payload : List Byte) (s : State) : (⟨t, .ok, payload⟩ : Answer).Honest s := .inl (.inl rfl)

theorem honest_accepted (t : State) (payload : List Byte) (s : State) : (⟨t, .accepted, payload⟩ : Answer).Honest s :=
  .inl (.inr (.inl rfl))

theorem honest_flowAnswer (s : State) (result : Result) : (s.flowAnswer result).Honest s := .inr rfl

theorem honest_sourceDefine (src : Byte) (d : Description) (s : State) : (s.sourceDefine src d).Honest s := by
  unfold State.sourceDefine State.define
  split
  · exact honest_refuse ..
  · split_ifs
    · exact honest_refuse ..
    · exact honest_refuse ..
    · exact honest_refuse ..
    · split
      · exact honest_refuse ..
      · exact honest_ok ..

theorem honest_powerWake (src : Byte) (s : State) : (s.powerWake src).Honest s := by
  unfold State.powerWake State.wakeKnown
  split
  · exact honest_refuse ..
  · split_ifs
    · exact honest_refuse ..
    · exact honest_refuse ..
    · split
      · exact honest_refuse ..
      · exact honest_accepted ..
      all_goals exact honest_ok ..

theorem honest_powerPark (src : Byte) (s : State) : (s.powerPark src).Honest s := by
  unfold State.powerPark State.parkKnown
  split
  · exact honest_refuse ..
  · split_ifs
    · exact honest_refuse ..
    · exact honest_refuse ..
    · exact honest_refuse ..
    · exact honest_refuse ..
    · exact honest_refuse ..
    · exact honest_ok ..
    · exact honest_ok ..

theorem honest_sourceQuery (src : Byte) (s : State) : (s.sourceQuery src).Honest s := by
  unfold State.sourceQuery
  split
  · exact honest_refuse ..
  · exact honest_ok ..

theorem honest_calRead (src : Byte) (s : State) : (s.calRead src).Honest s := by
  unfold State.calRead
  split
  · exact honest_refuse ..
  · exact honest_ok ..

/-- The outcome of a run that breaks the order (R54). -/
theorem runOutcome_offends {l : CalList} {start : Nat} {up : Bool} {points : List PointRec} {p : Nat}
    (h : orderCheck (writePass up points start l).list = some p) :
    runOutcome l start up points = ⟨l, .badValue, runBytes (writePass up points start l).count (some p)⟩ := by
  simp [runOutcome, h]

/-- The outcome of a run that keeps the order (R53, R54). -/
theorem runOutcome_passes {l : CalList} {start : Nat} {up : Bool} {points : List PointRec}
    (h : orderCheck (writePass up points start l).list = none) :
    runOutcome l start up points =
      ⟨(writePass up points start l).list,
        if (writePass up points start l).count = points.length then .ok else .partialDone,
        runBytes (writePass up points start l).count none⟩ := by
  simp [runOutcome, h]

theorem setCal_same (i : Src) (s : State) : s.setCal i (s.gu.cal.get i) = s := by rw [State.setCal, set_get]

/-- A run that is refused leaves the list, and with it the machine, as it was (R54). -/
theorem honest_run (i : Src) (start : Nat) (up : Bool) (points : List PointRec) (queryOnly : Bool) (s : State) :
    (⟨if queryOnly then s else s.setCal i (runOutcome (s.gu.cal.get i) start up points).list,
      (runOutcome (s.gu.cal.get i) start up points).result,
      (runOutcome (s.gu.cal.get i) start up points).payload⟩ : Answer).Honest s := by
  cases h : orderCheck (writePass up points start (s.gu.cal.get i)).list with
  | some p =>
    rw [runOutcome_offends h]
    right
    show (if queryOnly then s else s.setCal i (s.gu.cal.get i)) = s
    rw [setCal_same]
    exact ite_self s
  | none =>
    rw [runOutcome_passes h]
    left
    dsimp only
    split_ifs
    · exact .inl rfl
    · exact .inr (.inr rfl)

theorem honest_calRun (src start dir count : Byte) (points : List PointRec) (queryOnly : Bool) (s : State) :
    (s.calRun src start dir count points queryOnly).Honest s := by
  unfold State.calRun State.calRunOn
  split
  · exact honest_refuse ..
  · split
    · exact honest_refuse ..
    · split
      · exact honest_refuse ..
      · split
        · exact honest_refuse ..
        · split
          · exact honest_refuse ..
          · exact honest_run ..

theorem honest_ladderSet (count : Byte) (rungs : List RungRec) (queryOnly : Bool) (s : State) :
    (s.ladderSet count rungs queryOnly).Honest s := by
  unfold State.ladderSet
  split
  · exact honest_refuse ..
  · split
    · exact honest_refuse ..
    · exact honest_ok ..

theorem honest_outputSet (x : Settings) (queryOnly : Bool) (s : State) : (s.outputSet x queryOnly).Honest s := by
  unfold State.outputSet
  split
  · exact honest_refuse ..
  · exact honest_ok ..

theorem honest_outputStart (s : State) : s.outputStart.Honest s := by
  unfold State.outputStart
  split_ifs
  · exact honest_refuse ..
  · exact honest_refuse ..
  · split
    · exact honest_refuse ..
    · split_ifs
      · exact honest_refuse ..
      · exact honest_ok ..

theorem honest_pinRunning (s : State) : s.pinRunning.Honest s := by
  unfold State.pinRunning
  split
  · exact honest_ok ..
  · split
    · exact honest_ok ..
    · exact honest_ok ..

theorem honest_pinOn (s : State) : s.pinOn.Honest s := by
  unfold State.pinOn
  split
  · exact honest_pinRunning s
  · exact honest_refuse ..

theorem honest_stillTakeSource (src : Byte) (s : State) : (s.stillTakeSource src).Honest s := by
  unfold State.stillTakeSource State.stillTakeKnown
  split
  · exact honest_refuse ..
  · split_ifs
    · exact honest_refuse ..
    · exact honest_refuse ..
    · split
      · exact honest_refuse ..
      · exact honest_accepted ..

theorem honest_stillTakeFused (s : State) : s.stillTakeFused.Honest s := by
  unfold State.stillTakeFused
  split_ifs
  · exact honest_refuse ..
  · exact honest_refuse ..
  · exact honest_accepted ..

theorem honest_flowPause (s : State) : s.flowPause.Honest s := by
  unfold State.flowPause
  split
  · exact honest_flowAnswer ..
  · split
    · exact honest_flowAnswer ..
    · exact honest_ok ..
    · exact honest_flowAnswer ..
    · exact honest_flowAnswer ..

theorem honest_flowResume (s : State) : s.flowResume.Honest s := by
  unfold State.flowResume
  split
  · exact honest_flowAnswer ..
  · split
    · exact honest_flowAnswer ..
    · exact honest_flowAnswer ..
    · exact honest_ok ..
    · exact honest_flowAnswer ..

theorem honest_flowAbort (s : State) : s.flowAbort.Honest s := by
  unfold State.flowAbort
  split
  · exact honest_flowAnswer ..
  · split
    · exact honest_ok ..
    · exact honest_ok ..
    · exact honest_ok ..
    · exact honest_flowAnswer ..

theorem honest_ite {p : Prop} [Decidable p] {a b : Answer} (ha : a.Honest s) (hb : b.Honest s) :
    (if p then a else b).Honest s := by
  split_ifs
  · exact ha
  · exact hb

/-- No owner changes the machine under a refusal. -/
theorem honest_serve (q : Request) (queryOnly : Bool) (s : State) : (s.serve q queryOnly).Honest s := by
  cases q
  case linkTest =>
    show s.linkTest.Honest s
    unfold State.linkTest
    exact honest_ite (honest_refuse ..) (honest_accepted ..)
  case suspend =>
    show s.suspend.Honest s
    unfold State.suspend
    exact honest_ite (honest_refuse ..) (honest_ite (honest_refuse ..) (honest_ok ..))
  case sourceDefine => exact honest_sourceDefine ..
  case sourcePower => exact honest_ite (honest_powerWake ..) (honest_powerPark ..)
  case sourceQuery => exact honest_sourceQuery ..
  case calRun => exact honest_calRun ..
  case calRead => exact honest_calRead ..
  case ladderSet => exact honest_ladderSet ..
  case outputSet => exact honest_outputSet ..
  case outputStart => exact honest_outputStart s
  case outputStop => exact honest_ite (honest_ok ..) (honest_refuse ..)
  case zoomSet => exact honest_ite (honest_refuse ..) (honest_ok ..)
  case pinSource => exact honest_ite (honest_pinOn s) (honest_ok ..)
  case stillTake => exact honest_ite (honest_stillTakeSource ..) (honest_stillTakeFused s)
  case stillFlow => exact honest_ite (honest_flowPause s) (honest_ite (honest_flowResume s) (honest_flowAbort s))
  case noticeSetup =>
    show (s.noticeSetup _ _ _ _).Honest s
    unfold State.noticeSetup
    split
    · exact honest_refuse ..
    · exact honest_ok ..
  all_goals exact honest_ok ..

/-- Settles O11: every owner, and every check before it, refuses by leaving the machine as it was. -/
theorem refusalsChangeNothing : Obligations.RefusalsChangeNothing := by
  intro s q queryOnly hok hacc hpart
  have hhonest : (s.answer q queryOnly).Honest s :=
    honest_ite (honest_refuse ..) (honest_ite (honest_refuse ..) (honest_ite (honest_refuse ..) (honest_serve q queryOnly s)))
  rcases hhonest with (h | h | h) | h
  · exact absurd h hok
  · exact absurd h hacc
  · exact absurd h hpart
  · exact h

end Sys2Proof.Machine
end

section
/-! THEOREM. The requests that only report (R23, R57, R85, R181, R193, R198, R199). -/

namespace Sys2Proof.Machine

variable {s t : State}

/-! Lengths of fields -/

theorem length_u16 (n : Nat) : (u16 n).length = 2 := rfl

theorem length_u32 (n : Nat) : (u32 n).length = 4 := rfl

theorem length_lastReadyBytes (t : Option Time) : (lastReadyBytes t).length = 5 := by cases t <;> rfl

theorem length_newestBytes (r : Option FrameRec) : (newestBytes r).length = 7 := by cases r <;> rfl

theorem length_timerBytes (now : Time) (x : Option (Byte × Timer)) : (timerBytes now x).length = 5 := by
  cases x <;> rfl

theorem length_sourceBytes (s : State) (i : Src) : (s.sourceBytes i).length = 40 := by
  simp [State.sourceBytes, length_u16, length_u32, length_lastReadyBytes, length_newestBytes, length_timerBytes]

theorem length_positionBytes (p : Option CalPoint) : (positionBytes p).length = 6 := by cases p <;> rfl

theorem length_calBytes (l : CalList) : (l.toList.flatMap positionBytes).length = 72 := by
  simp [List.length_flatMap, length_positionBytes]

theorem length_rungBytes_item (r : Option Rung) : (rungBytes r).length = 9 := by cases r <;> rfl

theorem length_ladderItem (s : State) : s.ladderItem.length = 42 := by
  unfold State.ladderItem
  split <;> simp [length_u16, length_rungBytes_item]

theorem length_boundsItem (s : State) : s.boundsItem.length = 5 := by
  unfold State.boundsItem
  split
  · rfl
  · split_ifs <;> rfl

theorem length_recordItem (r : Option Transition) : (recordItem r).length = 25 := by
  cases r with
  | none => rfl
  | some r =>
    have hb : r.blendBytes.length = 8 := by
      unfold Transition.blendBytes
      split_ifs <;> rfl
    simp [recordItem, Gains.bytes, length_u16, hb]

theorem length_windowEntry (s : State) (i : Option Src) : (s.windowEntry i).length = 17 := by
  have hw (w : Option ComposeWindow) : (windowFields w).length = 16 := by cases w <;> rfl
  cases i <;> simp [State.windowEntry, hw]

theorem length_zoomBytes (s : State) : s.zoomBytes.length = 117 := by
  simp [State.zoomBytes, length_u16, length_ladderItem, length_boundsItem, length_recordItem, length_windowEntry]

/-! Sources named by a byte -/

theorem byteSource_eq_none {src : Byte} (h : 3 < src.toNat) : byteSource src = none := by
  unfold byteSource Src.ofNum
  split
  case h_5 => rfl
  all_goals omega

theorem sourceByte_of_byteSource {src : Byte} {i : Src} (h : byteSource src = some i) : sourceByte (some i) = src := by
  unfold byteSource Src.ofNum at h
  apply BitVec.eq_of_toNat_eq
  split at h <;> cases h <;> simp_all [sourceByte, u8, Src.num]

/-! A request row that reaches its owner -/

/-- A request row that reaches its owner completes with what the owner answers on the machine as the delivery leaves it. -/
theorem row_served (h : LinkReady s) {q : Request} (hl : q.lengthAgrees = true) (hp : s.link.part.passes q = true)
    (he : q.encodingGood = true) {queryOnly : Bool} {result : Result} {payload : List Byte}
    (ha : (s.delivered 257).serve q queryOnly = ⟨t, result, payload⟩) (tag : Byte) :
    (Host.Outcome.next (s.hostRequest tag queryOnly q) : Host.Outcome State Fault Refusal) =
      .next (t.answered tag queryOnly q result payload) :=
  congrArg Host.Outcome.next (hostRequest_served h hl hp he tag queryOnly ha)

/-- The rows that the table passes in every part state but RESET. -/
theorem exec_nop (h : LinkReady s) (tag : Byte) :
    exec (.nop tag) s = .next ((s.delivered 257).answered tag false .nop .ok s.nopBytes) :=
  row_served (q := .nop) h rfl (decide_eq_true h.part) rfl rfl tag

theorem exec_ident (h : LinkReady s) (tag : Byte) :
    exec (.ident tag) s = .next ((s.delivered 257).answered tag false .ident .ok s.cru.straps.identBytes) :=
  row_served (q := .ident) h rfl (decide_eq_true h.part) rfl rfl tag

theorem exec_resetPart (h : LinkReady s) (tag : Byte) :
    exec (.resetPart tag) s = .next ((s.delivered 257).answered tag false .resetPart .ok []) :=
  row_served (q := .resetPart) h rfl (decide_eq_true h.part) rfl rfl tag

theorem exec_zoomQuery (h : LinkReady s) (tag : Byte) :
    exec (.zoomQuery tag) s = .next ((s.delivered 257).answered tag false .zoomQuery .ok s.zoomBytes) :=
  row_served (q := .zoomQuery) h rfl (decide_eq_true h.part) rfl rfl tag

theorem exec_sourceQuery (h : LinkReady s) (tag : Byte) {src : Byte} {i : Src} (hi : byteSource src = some i) :
    exec (.sourceQuery tag src) s =
      .next ((s.delivered 257).answered tag false (.sourceQuery src) .ok (s.sourceBytes i)) := by
  refine row_served (q := .sourceQuery src) h rfl (decide_eq_true h.part) rfl ?_ tag
  show (s.delivered 257).sourceQuery src = _
  rw [State.sourceQuery, hi]
  rfl

theorem exec_sourceQuery_none (h : LinkReady s) (tag : Byte) {src : Byte} (hi : byteSource src = none) :
    exec (.sourceQuery tag src) s =
      .next ((s.delivered 257).answered tag false (.sourceQuery src) .badValue []) := by
  refine row_served (q := .sourceQuery src) h rfl (decide_eq_true h.part) rfl ?_ tag
  show (s.delivered 257).sourceQuery src = _
  rw [State.sourceQuery, hi]
  rfl

theorem exec_calRead (h : LinkReady s) (tag : Byte) {src : Byte} {i : Src} (hi : byteSource src = some i) :
    exec (.calRead tag src) s = .next ((s.delivered 257).answered tag false (.calRead src) .ok
      ((s.gu.cal.get i).toList.flatMap positionBytes)) := by
  refine row_served (q := .calRead src) h rfl (decide_eq_true h.part) rfl ?_ tag
  show (s.delivered 257).calRead src = _
  rw [State.calRead, hi]
  rfl

theorem exec_calRead_none (h : LinkReady s) (tag : Byte) {src : Byte} (hi : byteSource src = none) :
    exec (.calRead tag src) s = .next ((s.delivered 257).answered tag false (.calRead src) .badValue []) := by
  refine row_served (q := .calRead src) h rfl (decide_eq_true h.part) rfl ?_ tag
  show (s.delivered 257).calRead src = _
  rw [State.calRead, hi]
  rfl

/-! The items of the replies, field by field -/

theorem timerBytes_runningTimer (now : Time) (x : Source) : timerBytes now x.runningTimer =
    (match x.settle, x.sync, x.idle, x.frame with
      | some y, _, _, _ => 1 :: u32 (y.len - (now - y.start).toNat)
      | none, some y, _, _ => 2 :: u32 (y.len - (now - y.start).toNat)
      | none, none, some y, _ => 4 :: u32 (y.len - (now - y.start).toNat)
      | none, none, none, some y => 3 :: u32 (y.len - (now - y.start).toNat)
      | none, none, none, none => [0, 0, 0, 0, 0]) := by
  obtain ⟨_, _, _, _, _, _, _, _, _, _, _, _, _, settle, sync, frame, idle⟩ := x
  cases settle with
  | some _ => rfl
  | none => cases sync with
    | some _ => rfl
    | none => cases idle with
      | some _ => rfl
      | none => cases frame <;> rfl

theorem causeByte_eq (c : Option FaultCause) : causeByte c =
    (match c with
      | none => 0
      | some .noSync => 1
      | some .frameTimeout => 2
      | some .link => 3) := by
  cases c with
  | none => rfl
  | some c => cases c <;> rfl

theorem lastReadyBytes_eq (t : Option Time) : lastReadyBytes t =
    (match t with
      | none => [0, 0, 0, 0, 0]
      | some y => 1 :: be32 y) := by
  cases t <;> rfl

theorem newestBytes_eq (l : List FrameRec) : newestBytes (newestReady l) =
    (match (l.filter fun r => decide (r.state = .ready)).getLast? with
      | none => [0, 0, 0, 0, 0, 0, 0]
      | some r => 1 :: (u16 (r.focus.getD 0) ++ be32 r.start)) := by
  show newestBytes (l.filter fun r => decide (r.state = .ready)).getLast? = _
  cases (l.filter fun r => decide (r.state = .ready)).getLast? <;> rfl

/-- Settles O12: every report is its owner's reply, item by item. -/
theorem reportsAnswer : Obligations.ReportsAnswer := by
  refine ⟨fun s tag h => ⟨exec_nop h tag, exec_ident h tag, ?_, exec_resetPart h tag⟩, fun s tag src h => ⟨fun i hi => ?_,
    fun hsrc => ?_, exec_zoomQuery h tag, length_zoomBytes s⟩, fun s tag src i h hi => ?_, fun s tag h => ?_⟩
  · have hlt := Config.revisionLessOne.isLt
    rw [Config.revision, BitVec.toNat_ofNat, Nat.mod_eq_of_lt (by omega)]
    exact Nat.le_add_left 1 _
  · refine ⟨exec_sourceQuery h tag hi, length_sourceBytes s i, ?_, length_calBytes _⟩
    rw [exec_calRead h tag hi]
    congr 4
  · have hnone := byteSource_eq_none hsrc
    exact ⟨exec_sourceQuery_none h tag hnone, exec_calRead_none h tag hnone⟩
  · rw [exec_sourceQuery h tag hi]
    dsimp only [State.sourceBytes]
    rw [timerBytes_runningTimer, sourceByte_of_byteSource hi, causeByte_eq, lastReadyBytes_eq, newestBytes_eq]
    rfl
  · intro named rung ladder bounding bounds record shown window
    have hrung : ∀ x, rungBytes x = rung x := fun x => by cases x <;> rfl
    have hladder : s.ladderItem = ladder := by
      show s.ladderItem = (match s.zc.ladder with | none => _ | some l => _)
      unfold State.ladderItem
      cases s.zc.ladder with
      | none => rfl
      | some l => simp only [hrung, List.cons_append, List.nil_append, List.append_assoc]
    have hbounds : s.boundsItem = bounds := by
      show s.boundsItem = (match s.zc.bounds with | none => _ | some b => _)
      unfold State.boundsItem
      cases s.zc.bounds with
      | none => rfl
      | some b => split_ifs <;> rfl
    have hrecord : recordItem s.zc.record = record := by
      show recordItem s.zc.record = (match s.zc.record with | none => _ | some r => _)
      cases s.zc.record with
      | none => rfl
      | some r =>
        dsimp only [recordItem, Transition.blendBytes]
        by_cases hblend : r.phase = .blending
        · rw [if_pos hblend, if_pos hblend]
          rfl
        · rw [if_neg hblend, if_neg hblend]
          rfl
    have hshown : s.participants = shown := by
      show s.participants = if s.cp.sub = .running then (match s.zc.record with | none => _ | some r => _) else []
      unfold State.participants
      cases s.cp.sub <;> cases s.zc.record <;> rfl
    have hwindow : ∀ x, s.windowEntry x = window x := fun x => by
      cases x with
      | none => rfl
      | some i =>
        show _ :: windowFields (s.gu.windows.get i) = [_] ++ (match s.gu.windows.get i with | none => _ | some w => _)
        cases s.gu.windows.get i <;> rfl
    rw [exec_zoomQuery h tag, State.zoomBytes, hladder, hbounds, hrecord, hshown, hwindow, hwindow]
    rfl

end Sys2Proof.Machine
end

section
/-! THEOREM. SOURCE_DEFINE and SOURCE_POWER, wake (R1, R5, R6, R18 to R21). -/

namespace Sys2Proof.Machine

variable {s t : State} {i : Src}

/-! The first field out of its range -/

/-- The first failed check of a list: the checks are read in order. -/
theorem findIdx_not_cons (p : Prop) [Decidable p] (l : List Bool) :
    (decide p :: l).findIdx? not = if p then (l.findIdx? not).map (· + 1) else some 0 := by
  rw [List.findIdx?_cons]
  split_ifs <;> simp_all

theorem description_badField (base width stretch : Half) (period : Word) (settle sync idle : Byte) :
    Description.badField ⟨base.toNat, width.toNat, period.toNat, stretch.toNat, settle.toNat, sync.toNat, idle.toNat⟩ =
      ([decide (64 ≤ base.toNat ∧ base.toNat ≤ 4096),
        decide (640 ≤ width.toNat ∧ width.toNat ≤ 4096 ∧ width.toNat % 16 = 0),
        decide (8333 ≤ period.toNat ∧ period.toNat ≤ 100000), decide (256 ≤ stretch.toNat ∧ stretch.toNat ≤ 1024),
        decide (1 ≤ settle.toNat), decide (1 ≤ sync.toNat ∧ sync.toNat ≤ 200)].findIdx? not).map (· + 1) := by
  have hsettle := settle.isLt
  have hidle := idle.isLt
  simp only [Description.badField, findIdx_not_cons, List.findIdx?_nil]
  grind

/-! SOURCE_DEFINE (R20) -/

theorem sourceDefine_none {src : Byte} (h : byteSource src = none) (d : Description) (s : State) :
    s.sourceDefine src d = s.refuse .badValue [] := by
  simp [State.sourceDefine, h]

theorem sourceDefine_some {src : Byte} (h : byteSource src = some i) (d : Description) (s : State) :
    s.sourceDefine src d = s.define i d := by
  simp [State.sourceDefine, h]

theorem onLadder_iff (s : State) (i : Src) : s.onLadder i = true ↔ s.OnLadder i := by
  unfold State.onLadder State.OnLadder
  cases s.zc.ladder <;> simp

theorem stillHolds_iff (s : State) (i : Src) : s.stillHolds i = true ↔ ∃ r ∈ s.ring i, r.heldS = true := by
  simp [State.stillHolds]

theorem define_powered (h : (s.source i).state ≠ .parked) (d : Description) :
    s.define i d = s.refuse .wrongState [] := if_pos h

theorem define_onLadder (h : (s.source i).state = .parked) (hl : s.OnLadder i) (d : Description) :
    s.define i d = s.refuse .wrongRole [] := by
  simp [State.define, h, (onLadder_iff s i).mpr hl]

/-- A PARKED source off the ladder with no record under the still hold is described or its first bad field is named. -/
theorem define_open (h : (s.source i).state = .parked) (hl : ¬ s.OnLadder i) (d : Description) :
    s.define i d = if s.stillHolds i = true then s.refuse .stillActive [] else match d.badField with
      | some k => s.refuse .badValue [u8 k]
      | none => ⟨(s.setSource i ((s.source i).describe d)).setWindow i none, .ok, []⟩ := by
  have hoff : s.onLadder i = false := Bool.eq_false_iff.mpr fun hon => hl ((onLadder_iff s i).mp hon)
  unfold State.define
  simp only [h, hoff]
  rfl

theorem define_stillHeld (h : (s.source i).state = .parked) (hl : ¬ s.OnLadder i) (hs : ∃ r ∈ s.ring i, r.heldS = true)
    (d : Description) : s.define i d = s.refuse .stillActive [] := by
  rw [define_open h hl, if_pos ((stillHolds_iff s i).mpr hs)]

theorem define_free (h : (s.source i).state = .parked) (hl : ¬ s.OnLadder i) (hs : ∀ r ∈ s.ring i, r.heldS = false)
    (d : Description) : s.define i d = match d.badField with
      | some k => s.refuse .badValue [u8 k]
      | none => ⟨(s.setSource i ((s.source i).describe d)).setWindow i none, .ok, []⟩ := by
  have hfree : ¬ s.stillHolds i = true := fun hon => by
    obtain ⟨r, hr, hh⟩ := (stillHolds_iff s i).mp hon
    simp [hs r hr] at hh
  rw [define_open h hl, if_neg hfree]

/-- Settles O13: the checks in their order, each on the machine as the delivery leaves it. -/
theorem sourceDefineTaken : Obligations.SourceDefineTaken := by
  intro s tag src base width period stretch settle sync idle h hp answers inRange
  have hserved : ∀ (t : State) (result : Result) (payload : List Byte),
      (s.delivered 257).sourceDefine src ⟨base.toNat, width.toNat, period.toNat, stretch.toNat, settle.toNat, sync.toNat,
        idle.toNat⟩ = ⟨t.delivered 257, result, payload⟩ → answers t result payload := fun t result payload ha =>
    row_served (q := .sourceDefine src base width period stretch settle sync idle) h rfl (decide_eq_true hp) rfl ha tag
  refine ⟨fun hsrc => hserved _ _ _ (sourceDefine_none hsrc ..), fun i hi => ?_⟩
  have hdefined (t : State) (result : Result) (payload : List Byte) (ha : (s.delivered 257).define i
      ⟨base.toNat, width.toNat, period.toNat, stretch.toNat, settle.toNat, sync.toNat, idle.toNat⟩ =
        ⟨t.delivered 257, result, payload⟩) : answers t result payload :=
    hserved _ _ _ ((sourceDefine_some hi ..).trans ha)
  refine ⟨fun hs => hdefined _ _ _ (define_powered (s := s.delivered 257) hs _), fun hs hl => hdefined _ _ _ (define_onLadder (s := s.delivered 257) hs hl _),
    fun hs hl hh => hdefined _ _ _ (define_stillHeld (s := s.delivered 257) hs hl hh _), fun hs hl hh => ⟨fun k hk => hdefined _ _ _ ?_,
      fun hk => hdefined _ _ _ ?_⟩⟩
  · rw [define_free (s := s.delivered 257) hs hl hh, description_badField base width stretch period settle sync idle, hk]
    rfl
  · rw [define_free (s := s.delivered 257) hs hl hh, description_badField base width stretch period settle sync idle, hk]
    rfl

/-! SOURCE_POWER (wake) (R6, R21) -/

theorem powerWake_none {src : Byte} (h : byteSource src = none) (s : State) : s.powerWake src = s.refuse .badValue [] := by
  simp [State.powerWake, h]

theorem powerWake_undefined {src : Byte} (h : byteSource src = some i) (hd : (s.source i).defined = false) :
    s.powerWake src = s.refuse .noSource [] := by
  simp [State.powerWake, h, hd]

theorem powerWake_underTest {src : Byte} (h : byteSource src = some i) (hd : (s.source i).defined = true)
    (ht : s.underTest i = true) : s.powerWake src = s.refuse .wrongState [] := by
  simp [State.powerWake, h, hd, ht]

theorem powerWake_known {src : Byte} (h : byteSource src = some i) (hd : (s.source i).defined = true)
    (ht : s.underTest i = false) : s.powerWake src = s.wakeKnown i := by
  simp [State.powerWake, h, hd, ht]

theorem wakeKnown_parked (h : (s.source i).state = .parked) : s.wakeKnown i = ⟨s.wake .normal i, .accepted, []⟩ := by
  simp [State.wakeKnown, h]

theorem wakeKnown_fault (h : (s.source i).state = .fault) : s.wakeKnown i = s.refuse .wrongState [] := by
  simp [State.wakeKnown, h]

theorem wakeKnown_powered (hp : (s.source i).state ≠ .parked) (hf : (s.source i).state ≠ .fault) :
    s.wakeKnown i = ⟨s, .ok, []⟩ := by
  unfold State.wakeKnown
  cases h : (s.source i).state
  case parked => exact absurd h hp
  case fault => exact absurd h hf
  all_goals rfl

/-- The wake of a PARKED defined source for normal use (R6, R18). -/
theorem wake_parked (h : (s.source i).state = .parked) (hd : (s.source i).defined = true) :
    s.wake .normal i = (s.setSource i (s.wokenRec i)).post (some i) (.sourceState .waking .parked s.cru.time) := by
  rw [State.wake, if_pos ⟨h, hd⟩]
  rfl

/-- Settles O14: the checks in their order; only a PARKED source is woken. -/
theorem sourceWakeTaken : Obligations.SourceWakeTaken := by
  have served (s t : State) (tag src : Byte) (h : LinkReady s) (hp : s.link.part = .config ∨ s.link.part = .streaming)
      (result : Result) (ha : (s.delivered 257).powerWake src = ⟨t.delivered 257, result, []⟩) :
      exec (.sourcePowerWake tag src) s =
        .next ((t.delivered 257).answered tag false (.sourcePower src 1) result []) :=
    row_served (q := .sourcePower src 1) h rfl (decide_eq_true hp) rfl ha tag
  refine ⟨fun s tag src i h hp hi => ⟨fun hd ht hs => ?_, fun hd ht hs hf => ?_, fun hd hbusy => ?_, fun hd => ?_⟩,
    fun s tag src h hp hi => served s s tag src h hp .badValue (powerWake_none hi _)⟩
  · refine served s ((s.setSource i (s.wokenRec i)).post (some i) (.sourceState .waking .parked s.cru.time)) tag src h hp
      .accepted ?_
    rw [powerWake_known (s := s.delivered 257) hi hd ht, wakeKnown_parked (s := s.delivered 257) hs,
      wake_parked (s := s.delivered 257) hs hd]
    rfl
  · refine served s s tag src h hp .ok ?_
    rw [powerWake_known (s := s.delivered 257) hi hd ht, wakeKnown_powered (s := s.delivered 257) hs hf]
  · refine served s s tag src h hp .wrongState ?_
    cases ht : s.underTest i with
    | true => exact powerWake_underTest (s := s.delivered 257) hi hd ht
    | false =>
      have hf : (s.source i).state = .fault := hbusy.resolve_left (by simp [ht])
      rw [powerWake_known (s := s.delivered 257) hi hd ht, wakeKnown_fault (s := s.delivered 257) hf]
      rfl
  · exact served s s tag src h hp .noSource (powerWake_undefined (s := s.delivered 257) hi hd)

end Sys2Proof.Machine
end

section
/-! THEOREM. Notices and the attention line (R182 to R189). -/

namespace Sys2Proof.Machine

variable {s t : State}

/-! An occurrence at the queue (R183) -/

theorem met_of_not_named {source : Option Src} {p : Payload} {e : Notice} (h : ¬ (e.kind = p.kind ∧ e.source = source)) :
    e.met source p = e := by
  simp [Notice.met, Notice.named, h]

theorem met_of_named {source : Option Src} {p : Payload} {e : Notice} (h : e.kind = p.kind ∧ e.source = source) :
    e.met source p = e.coalesce p := by
  simp [Notice.met, Notice.named, h]

theorem map_met_of_not_named {source : Option Src} {p : Payload} {l : List Notice}
    (h : ∀ x ∈ l, ¬ (x.kind = p.kind ∧ x.source = source)) : l.map (Notice.met source p) = l :=
  (List.map_congr_left fun x hx => met_of_not_named (h x hx)).trans (List.map_id' l)

theorem post_named {q : NoticeQueue} {source : Option Src} {p : Payload} {e : Notice} (he : e ∈ q.entries)
    (h : e.kind = p.kind ∧ e.source = source) (mode : AttnMode) (now : Time) :
    q.post mode now source p = { q with entries := q.entries.map (Notice.met source p) } :=
  if_pos (List.any_eq_true.mpr ⟨e, he, by simp [Notice.named, h]⟩)

theorem not_any_named {l : List Notice} {k : NoticeKind} {source : Option Src}
    (h : ∀ x ∈ l, ¬ (x.kind = k ∧ x.source = source)) : ¬ l.any (fun e => e.named k source) = true := by
  simpa [Notice.named] using h

theorem post_masked {q : NoticeQueue} {source : Option Src} {p : Payload}
    (h : ∀ x ∈ q.entries, ¬ (x.kind = p.kind ∧ x.source = source)) (hm : q.isMasked p.kind = true) (mode : AttnMode)
    (now : Time) : q.post mode now source p = q := by
  rw [NoticeQueue.post, if_neg (not_any_named h), if_pos hm]

theorem post_create {q : NoticeQueue} {source : Option Src} {p : Payload}
    (h : ∀ x ∈ q.entries, ¬ (x.kind = p.kind ∧ x.source = source)) (hm : q.isMasked p.kind = false) (mode : AttnMode)
    (now : Time) :
    q.post mode now source p = q.create mode now ⟨p.kind, source, q.classOf p.kind, 1, now, p⟩ := by
  rw [NoticeQueue.post, if_neg (not_any_named h), if_neg (by simp [hm])]

/-- A new entry stands after the last of its class (R184). -/
theorem insertNotice_classes {urgents routines : List Notice} (hu : ∀ x ∈ urgents, x.cls = .urgent)
    (hr : ∀ x ∈ routines, x.cls = .routine) (e : Notice) :
    insertNotice e (urgents ++ routines) =
      if e.cls = .urgent then urgents ++ e :: routines else urgents ++ routines ++ [e] := by
  have hurgent : ∀ x ∈ urgents, x.isUrgent = true := fun x hx => by simp [Notice.isUrgent, hu x hx]
  have htake : routines.takeWhile Notice.isUrgent = [] := by
    cases routines with
    | nil => rfl
    | cons x _ => simp [Notice.isUrgent, hr x List.mem_cons_self]
  have hdrop : routines.dropWhile Notice.isUrgent = routines := by
    cases routines with
    | nil => rfl
    | cons x _ => simp [Notice.isUrgent, hr x List.mem_cons_self]
  unfold insertNotice
  rw [List.takeWhile_append_of_pos hurgent, List.dropWhile_append_of_pos hurgent, htake, hdrop]
  simp [Notice.isUrgent]

theorem pulse_of_mode (mode : AttnMode) (now : Time) (q : NoticeQueue) (e : Notice) :
    (q.create mode now e).pulse = if mode = .pulse then some ⟨now, 2⟩ else q.pulse := by
  cases mode <;> rfl

/-- A timed event that is due is taken now (log 2). -/
theorem waitTimer_due {x : Timer} (h : x.expired s.cru.time = true) : s.waitTimer x = s := by
  simp [State.waitTimer, h]

/-- Settles O47: the three cases of an occurrence, and the end of a pulse. -/
theorem noticePosted : Obligations.NoticePosted := by
  refine ⟨fun q mode now source p => ?_, fun s x hx hdue => ?_⟩
  refine ⟨fun pre post e hq he hrest => ?_, fun hnone hfixed hmask => ?_,
    fun hnone hopen urgents routines hq hu hr => ?_⟩
  · have hmem : e ∈ q.entries := by simp [hq]
    rw [post_named hmem he, hq, List.map_append, List.map_cons, met_of_named he,
      map_met_of_not_named fun x hx => hrest x (List.mem_append_left _ hx),
      map_met_of_not_named fun x hx => hrest x (List.mem_append_right _ hx)]
    rfl
  · exact post_masked hnone (by simp [NoticeQueue.isMasked, hfixed, hmask]) mode now
  · have hm : q.isMasked p.kind = false := by
      rcases hopen with h | h <;> simp [NoticeQueue.isMasked, h]
    rw [post_create hnone hm]
    have hpulse := pulse_of_mode mode now q ⟨p.kind, source, q.classOf p.kind, 1, now, p⟩
    have hentries : (q.create mode now ⟨p.kind, source, q.classOf p.kind, 1, now, p⟩).entries =
        if p.kind.fixedUrgent = true ∨ q.urgent.has p.kind = true
          then urgents ++ ⟨p.kind, source, .urgent, 1, now, p⟩ :: routines
          else urgents ++ routines ++ [⟨p.kind, source, .routine, 1, now, p⟩] := by
      show insertNotice _ q.entries = _
      rw [hq, insertNotice_classes hu hr]
      by_cases hcls : p.kind.fixedUrgent = true ∨ q.urgent.has p.kind = true
      · simp [NoticeQueue.classOf, hcls]
      · simp [NoticeQueue.classOf, hcls]
    rw [← hpulse, ← hentries]
    rfl
  · show Host.Outcome.next s.endPulse = _
    unfold State.endPulse
    rw [hx]
    dsimp only
    rw [waitTimer_due hdue]

/-! NOTICE_TAKE (R188) -/

theorem exec_noticeTake (h : LinkReady s) (tag : Byte) :
    exec (.noticeTake tag) s = .next (({ s with nq := s.nq.takeHead s.cru.straps.attnMode }.delivered 257).answered tag
      false .noticeTake .ok s.nq.headBytes) :=
  row_served (q := .noticeTake) h rfl (decide_eq_true h.part) rfl rfl tag

/-- In level mode the line falls with the last entry (R186). -/
theorem takeHead_cons {q : NoticeQueue} {e : Notice} {rest : List Notice} (h : q.entries = e :: rest) (mode : AttnMode) :
    q.takeHead mode =
      { q with entries := rest, attn := if mode = .level ∧ rest = [] then false else q.attn } := by
  unfold NoticeQueue.takeHead
  rw [h]
  cases mode <;> cases rest <;> simp

theorem takeHead_nil {q : NoticeQueue} (h : q.entries = []) (mode : AttnMode) : q.takeHead mode = q := by
  rw [NoticeQueue.takeHead, h]

/-! NOTICE_SETUP (R189) -/

theorem badKindSet_eq_false {set : KindSet} (h : set &&& 0xC000 = 0) : badKindSet set = false :=
  decide_eq_false fun hne => hne h

/-- The sets of a NOTICE_SETUP name kinds only. -/
theorem noticeSetup_encoded {mask unmask urgent routine : KindSet}
    (h : (mask ||| unmask ||| urgent ||| routine) &&& 0xC000 = 0) :
    (Request.noticeSetup mask unmask urgent routine).encodingGood = true := by
  simp only [BitVec.and_or_distrib_right] at h
  obtain ⟨hthree, hroutine⟩ := BitVec.or_eq_zero_iff.mp h
  obtain ⟨htwo, hurgent⟩ := BitVec.or_eq_zero_iff.mp hthree
  obtain ⟨hmask, hunmask⟩ := BitVec.or_eq_zero_iff.mp htwo
  simp [Request.encodingGood, badKindSet_eq_false hmask, badKindSet_eq_false hunmask, badKindSet_eq_false hurgent,
    badKindSet_eq_false hroutine]

theorem first_zero : KindSet.first 0 = none := by
  simp [KindSet.first]

theorem first_eq_some {set : KindSet} {k : Nat} (hk : k < 14) (hset : set.getLsbD k = true)
    (hbelow : ∀ j, j < k → set.getLsbD j = false) : set.first = some (k + 1) := by
  have hfind : (List.range 14).find? (fun j => set.getLsbD j) = some k :=
    List.find?_range_eq_some.mpr ⟨hset, List.mem_range.mpr hk, fun j hj => by simp [hbelow j hj]⟩
  simp [KindSet.first, hfind]

theorem num_sub_lt (k : NoticeKind) : k.num - 1 < 16 := by cases k <;> decide

theorem has_fixed (k : NoticeKind) : KindSet.fixed.has k = k.fixedUrgent := by cases k <;> decide

theorem has_setup (old on off : KindSet) (k : NoticeKind) :
    KindSet.has (((old ||| on) &&& ~~~off) &&& ~~~KindSet.fixed) k =
      ((old.has k || on.has k) && !off.has k && !k.fixedUrgent) := by
  rw [← has_fixed]
  simp [KindSet.has, num_sub_lt]

/-- A settable kind is as the last set naming it left it. -/
theorem has_setup_settable {old on off : KindSet} {k : NoticeKind} (hk : k.fixedUrgent = false)
    (h : (on &&& off).getLsbD (k.num - 1) = false) :
    KindSet.has (((old ||| on) &&& ~~~off) &&& ~~~KindSet.fixed) k =
      if on.has k then true else if off.has k then false else old.has k := by
  rw [has_setup, hk]
  rw [BitVec.getLsbD_and] at h
  unfold KindSet.has at *
  cases hon : on.getLsbD (k.num - 1) <;> cases hoff : off.getLsbD (k.num - 1) <;> simp_all

theorem exec_noticeSetup (h : LinkReady s) (tag : Byte) {mask unmask urgent routine : KindSet} {result : Result}
    {payload : List Byte} (he : (Request.noticeSetup mask unmask urgent routine).encodingGood = true)
    (ha : (s.delivered 257).noticeSetup mask unmask urgent routine = ⟨t, result, payload⟩) :
    exec (.noticeSetup tag mask unmask urgent routine) s = .next (t.answered tag false
      (.noticeSetup mask unmask urgent routine) result payload) :=
  row_served (q := .noticeSetup mask unmask urgent routine) h rfl (decide_eq_true h.part) he ha tag

theorem noticeSetup_agrees {mask unmask urgent routine : KindSet}
    (h : (mask &&& unmask) ||| (urgent &&& routine) = 0) (s : State) :
    s.noticeSetup mask unmask urgent routine = ⟨{ s with nq := s.nq.setup mask unmask urgent routine }, .ok,
      (s.nq.setup mask unmask urgent routine).setupBytes⟩ := by
  rw [State.noticeSetup, conflictSet, h, first_zero]

theorem noticeSetup_conflicts {mask unmask urgent routine : KindSet} {k : Nat}
    (h : KindSet.first ((mask &&& unmask) ||| (urgent &&& routine)) = some k) (s : State) :
    s.noticeSetup mask unmask urgent routine = s.refuse .badValue [u8 k] := by
  rw [State.noticeSetup, conflictSet, h]

theorem setupBytes_setup (q : NoticeQueue) (mask unmask urgent routine : KindSet) :
    (q.setup mask unmask urgent routine).setupBytes =
      be16 (q.setup mask unmask urgent routine).masked ++ be16 ((q.setup mask unmask urgent routine).urgent ||| 0x0405) := by
  have hmasked : (q.setup mask unmask urgent routine).masked &&& ~~~KindSet.fixed =
      (q.setup mask unmask urgent routine).masked := by
    show (_ &&& ~~~KindSet.fixed) &&& ~~~KindSet.fixed = _ &&& ~~~KindSet.fixed
    rw [BitVec.and_assoc, BitVec.and_self]
  rw [NoticeQueue.setupBytes, hmasked]
  rfl

/-- Settles O48: NOTICE_TAKE by the shape of the queue, NOTICE_SETUP bit by bit. -/
theorem noticeRequests : Obligations.NoticeRequests := by
  intro s tag h
  refine ⟨fun e rest hq => ?_, fun hq => ?_, fun mask unmask urgent routine henc => ⟨fun hagree => ?_, fun k hk hbit hlow => ?_⟩⟩
  · rw [exec_noticeTake h, takeHead_cons hq, NoticeQueue.headBytes, hq]
    rfl
  · rw [exec_noticeTake h, takeHead_nil hq, NoticeQueue.headBytes, hq]
    rfl
  · obtain ⟨hmask, hurgent⟩ := BitVec.or_eq_zero_iff.mp hagree
    refine ⟨(s.nq.setup mask unmask urgent routine).masked, (s.nq.setup mask unmask urgent routine).urgent, ?_,
      fun k => ⟨fun hk => ?_, fun hk => ⟨?_, ?_⟩⟩⟩
    · rw [← setupBytes_setup]
      exact exec_noticeSetup h tag (noticeSetup_encoded henc)
        (noticeSetup_agrees hagree _)
    · exact (has_setup ..).trans (by simp [hk])
    · exact has_setup_settable hk (by simp [hmask])
    · exact has_setup_settable hk (by simp [hurgent])
  · exact exec_noticeSetup h tag (noticeSetup_encoded henc) (noticeSetup_conflicts (first_eq_some hk hbit hlow) _)

/-! What an occurrence does to the entries -/

theorem mem_create {q : NoticeQueue} {mode : AttnMode} {now : Time} {e x : Notice} :
    x ∈ (q.create mode now e).entries ↔ x = e ∨ x ∈ q.entries :=
  (insertNotice_perm e q.entries).mem_iff.trans List.mem_cons

theorem met_kind (source : Option Src) (p : Payload) (e : Notice) : (e.met source p).kind = e.kind := by
  unfold Notice.met
  split_ifs <;> rfl

/-- An occurrence leaves the entries of every other kind alone. -/
theorem mem_post_other {q : NoticeQueue} {mode : AttnMode} {now : Time} {source : Option Src} {p : Payload} {e : Notice}
    (h : e.kind ≠ p.kind) : e ∈ (q.post mode now source p).entries ↔ e ∈ q.entries := by
  have hmet (x : Notice) (hx : x.kind ≠ p.kind) : x.met source p = x := met_of_not_named fun hn => hx hn.1
  rcases post_cases q mode now source p with ⟨_, heq⟩ | heq | ⟨_, heq⟩ <;> rw [heq]
  · refine List.mem_map.trans ⟨fun ⟨x, hx, he⟩ => ?_, fun he => ⟨e, he, hmet e h⟩⟩
    rw [← he, met_kind] at h
    rw [← he, hmet x h]
    exact hx
  · rw [mem_create]
    exact ⟨fun he => he.resolve_left fun heq => h (by rw [heq]), .inr⟩

/-- An occurrence stands in the queue with its payload, unless its kind is masked (R183). -/
theorem posted_post (q : NoticeQueue) (mode : AttnMode) (now : Time) (source : Option Src) (p : Payload) :
    q.isMasked p.kind = true ∨ ∃ e ∈ (q.post mode now source p).entries, e.kind = p.kind ∧ e.payload = p := by
  by_cases hname : ∃ e ∈ q.entries, e.kind = p.kind ∧ e.source = source
  · obtain ⟨e, he, hn⟩ := hname
    refine .inr ⟨e.coalesce p, ?_, hn.1, rfl⟩
    rw [post_named he hn]
    exact List.mem_map.mpr ⟨e, he, met_of_named hn⟩
  · have hnone : ∀ x ∈ q.entries, ¬ (x.kind = p.kind ∧ x.source = source) := fun x hx hn => hname ⟨x, hx, hn⟩
    cases hm : q.isMasked p.kind with
    | true => exact .inl rfl
    | false =>
      refine .inr ⟨⟨p.kind, source, q.classOf p.kind, 1, now, p⟩, ?_, rfl, rfl⟩
      rw [post_create hnone hm]
      exact mem_create.mpr (.inl rfl)

theorem masked_post (q : NoticeQueue) (mode : AttnMode) (now : Time) (source : Option Src) (p : Payload) :
    (q.post mode now source p).masked = q.masked := by
  rcases post_cases q mode now source p with ⟨_, heq⟩ | heq | ⟨_, heq⟩ <;>
    exact (congrArg NoticeQueue.masked heq).trans rfl

end Sys2Proof.Machine
end

section
/-! SUPPORT. Which occurrences stand after a run of operations (R183). -/

namespace Sys2Proof.Machine

variable {s t u : State} {k : NoticeKind} {p : Payload} {i : Src}

/-- Nothing of this kind was posted on the way from `s` to `t`, and the masks stand. -/
def Spares (k : NoticeKind) (s t : State) : Prop :=
  t.nq.masked = s.nq.masked ∧ ∀ e : Notice, e.kind = k → (e ∈ t.nq.entries ↔ e ∈ s.nq.entries)

theorem Spares.refl (k : NoticeKind) (s : State) : Spares k s s := ⟨rfl, fun _ _ => Iff.rfl⟩

theorem Spares.same (h : Spares k s t) (hn : u.nq = t.nq) : Spares k s u := by
  rw [Spares, hn]
  exact h

theorem Spares.post (h : Spares k s t) {source : Option Src} (hp : p.kind ≠ k) : Spares k s (t.post source p) :=
  ⟨(masked_post ..).trans h.1, fun e he => (mem_post_other (by rw [he]; exact hp.symm)).trans (h.2 e he)⟩

theorem Spares.notPosted (h : Spares k s t) : NotPosted s t k := fun e he hk => (h.2 e hk).mp he

/-- An occurrence that is posted, with nothing of its kind before or after it, is posted on the whole way. -/
theorem Spares.posted (h : Spares p.kind s t) {source : Option Src} (hu : Spares p.kind (t.post source p) u) : Posted s u p := by
  rcases posted_post t.nq t.cru.straps.attnMode t.cru.time source p with hm | ⟨e, he, hk, hp⟩
  · left
    rw [NoticeQueue.isMasked, h.1] at hm
    exact hm
  · exact .inr ⟨e, (hu.2 e hk).mpr he, hk, hp⟩

/-! Operations that post SOURCE_STATE only -/

theorem Spares.postState (h : Spares k s t) (hk : k ≠ .sourceState) (i : Src) (purpose : Purpose) (new prev : SrcState) :
    Spares k s (t.postState i purpose new prev) := by
  cases purpose with
  | normal => exact h.post hk.symm
  | test => exact h

theorem Spares.wake (h : Spares k s t) (hk : k ≠ .sourceState) (purpose : Purpose) (i : Src) :
    Spares k s (t.wake purpose i) := by
  unfold State.wake
  split_ifs
  · exact (h.same (by rfl)).postState hk ..
  · exact h

theorem Spares.park (h : Spares k s t) (hk : k ≠ .sourceState) (i : Src) : Spares k s (t.park i) := by
  unfold State.park
  split_ifs
  · exact h
  · exact (h.same (by rfl)).postState hk ..

theorem Spares.takeRole (h : Spares k s t) (hk : k ≠ .sourceState) (i : Src) (role : SrcState) :
    Spares k s (t.takeRole i role) := by
  unfold State.takeRole
  split_ifs
  · exact h
  · exact (h.same (by rfl)).postState hk ..

theorem Spares.setRole (h : Spares k s t) (hk : k ≠ .sourceState) (i : Src) (role : SrcState) :
    Spares k s (t.setRole i role) := by
  unfold State.setRole
  split_ifs
  · exact (h.same (by rfl)).takeRole hk ..
  · exact h.same rfl

/-! Operations that post nothing -/

theorem nq_removeRecord (s : State) : s.removeRecord.nq = s.nq := by simp

theorem Spares.removeRecord (h : Spares k s t) : Spares k s t.removeRecord := h.same (nq_removeRecord t)

end Sys2Proof.Machine
end

section
/-! THEOREM. SOURCE_POWER, park (R4, R10, R16, R19, R22, R26, R94). -/

namespace Sys2Proof.Machine

variable {s t : State} {i : Src}

/-! The park of one source (R10, R16) -/

theorem purged_eq (x : Receiver) : x.purged =
    { intake := if x.intake = .between then .between else .discarding, lines := x.lines, run := 0, last := none,
      sums := ⟨0, 0, 0⟩ } := by
  obtain ⟨intake, _, _, _, _⟩ := x
  cases intake <;> rfl

theorem park_normal (hs : (s.source i).state ≠ .parked) (hr : (s.source i).state.isRole = false)
    (hp : (s.source i).purpose = .normal) :
    s.park i = ((s.setSource i (s.source i).parkedRec).purge i).post (some i)
      (.sourceState .parked (s.source i).state s.cru.time) := by
  have hgo : ¬ ((s.source i).state = .parked ∨ (s.source i).state.isRole = true) := by simp [hs, hr]
  rw [State.park, if_neg hgo, hp]
  rfl

theorem ring_park (i : Src) (s : State) (hs : (s.source i).state ≠ .parked) (hr : (s.source i).state.isRole = false) :
    (s.park i).ring i = (s.ring i).filter FrameRec.held := by
  have hgo : ¬ ((s.source i).state = .parked ∨ (s.source i).state.isRole = true) := by simp [hs, hr]
  rw [State.park, if_neg hgo]
  cases (s.source i).purpose <;> simp [State.postState]

/-- The four states a park acts on. -/
theorem parkable_iff (x : SrcState) :
    (x = .waking ∨ x = .syncing ∨ x = .warm ∨ x = .fault) ↔ x ≠ .parked ∧ x.isRole = false := by
  cases x <;> simp [SrcState.isRole]

/-! The checks (R22) -/

theorem powerPark_none {src : Byte} (h : byteSource src = none) (s : State) : s.powerPark src = s.refuse .badValue [] := by
  simp [State.powerPark, h]

theorem powerPark_undefined {src : Byte} (h : byteSource src = some i) (hd : (s.source i).defined = false) :
    s.powerPark src = s.refuse .noSource [] := by
  simp [State.powerPark, h, hd]

theorem powerPark_underTest {src : Byte} (h : byteSource src = some i) (hd : (s.source i).defined = true)
    (ht : s.underTest i = true) : s.powerPark src = s.refuse .wrongState [] := by
  simp [State.powerPark, h, hd, ht]

theorem powerPark_known {src : Byte} (h : byteSource src = some i) (hd : (s.source i).defined = true)
    (ht : s.underTest i = false) : s.powerPark src = s.parkKnown i := by
  simp [State.powerPark, h, hd, ht]

/-- A source the picture holds on to: in a role, the pending primary, or the target of a RESCUE record. -/
def State.Wanted (s : State) (i : Src) : Prop :=
  (s.source i).state.isRole = true ∨ (s.cp.sub = .starting ∧ s.cp.pendingPrimary = some i) ∨
    ∃ r, s.zc.record = some r ∧ r.kind = .rescue ∧ r.taker = i

theorem isPending_iff (s : State) (i : Src) :
    s.isPending i = true ↔ s.cp.sub = .starting ∧ s.cp.pendingPrimary = some i := by
  simp [State.isPending]

theorem rescueTarget_iff (s : State) (i : Src) :
    s.rescueTarget i = true ↔ ∃ r, s.zc.record = some r ∧ r.kind = .rescue ∧ r.taker = i := by
  unfold State.rescueTarget
  cases s.zc.record <;> simp

theorem parkKnown_wanted (h : s.Wanted i) : s.parkKnown i = s.refuse .wrongRole [] := by
  unfold State.parkKnown
  split_ifs with hrole hpending hrescue
  · rfl
  · rfl
  · rfl
  · exact absurd ((rescueTarget_iff s i).mpr ((h.resolve_left hrole).resolve_left
      fun hp => hpending ((isPending_iff s i).mpr hp))) hrescue
  · exact absurd ((rescueTarget_iff s i).mpr ((h.resolve_left hrole).resolve_left
      fun hp => hpending ((isPending_iff s i).mpr hp))) hrescue

theorem parkKnown_unwanted (h : ¬ s.Wanted i) :
    s.parkKnown i = if (s.source i).state = .parked then ⟨s, .ok, []⟩ else ⟨s.freeAndPark i, .ok, []⟩ := by
  unfold State.parkKnown
  rw [if_neg fun hr => h (.inl hr), if_neg fun hp => h (.inr (.inl ((isPending_iff s i).mp hp))),
    if_neg fun hr => h (.inr (.inr ((rescueTarget_iff s i).mp hr)))]

theorem parkKnown_parked (h : ¬ s.Wanted i) (hs : (s.source i).state = .parked) : s.parkKnown i = ⟨s, .ok, []⟩ := by
  rw [parkKnown_unwanted h, if_pos hs]

theorem parkKnown_awake (h : ¬ s.Wanted i) (hs : (s.source i).state ≠ .parked) :
    s.parkKnown i = ⟨s.freeAndPark i, .ok, []⟩ := by
  rw [parkKnown_unwanted h, if_neg hs]

theorem not_wanted (hr : (s.source i).state.isRole = false) (hp : s.isPending i = false)
    (ht : ∀ r, s.zc.record = some r → r.taker = i → r.kind ≠ .rescue) : ¬ s.Wanted i := by
  rintro (h | h | ⟨r, hrec, hkind, htaker⟩)
  · simp [hr] at h
  · simp [(isPending_iff s i).mpr h] at hp
  · exact ht r hrec htaker hkind

theorem freeAndPark_untargeted (h : s.isTarget i = false) : s.freeAndPark i = s.park i := by
  refine if_neg fun hf => ?_
  unfold State.isTarget at h
  unfold State.freeableTarget at hf
  cases hrec : s.zc.record <;> simp_all

theorem freeAndPark_targeted {r : Transition} (hrec : s.zc.record = some r) (hk : r.kind ≠ .rescue)
    (hp : r.phase ≠ .blending) : s.freeAndPark r.taker = s.removeRecord.park r.taker :=
  if_pos (by simp [State.freeableTarget, hrec, hk, hp])

theorem not_isTarget {r : Transition} (h : s.isTarget i = false) (hrec : s.zc.record = some r) : r.taker ≠ i := by
  simpa [State.isTarget, hrec] using h

theorem exec_powerPark (h : LinkReady s) (hp : s.link.part = .config ∨ s.link.part = .streaming) (tag : Byte) {src : Byte}
    {result : Result} (ha : (s.delivered 257).powerPark src = ⟨t, result, []⟩) :
    exec (.sourcePowerPark tag src) s = .next (t.answered tag false (.sourcePower src 0) result []) :=
  row_served (q := .sourcePower src 0) h rfl (decide_eq_true hp) rfl ha tag

/-- Settles O15: the checks in their order, then the park, a record toward the source being removed first. -/
theorem sourceParkTaken : Obligations.SourceParkTaken := by
  refine ⟨fun s tag src i h hp hi hd ht hn hs hpend htarget => ?_, fun s tag src i r h hp hi hd ht hs hpend hrec htaker hk hphase => ?_,
    fun s tag src h hp => ?_⟩
  · obtain ⟨hparked, hrole⟩ := (parkable_iff _).mp hs
    have hfree : ¬ s.Wanted i := not_wanted hrole hpend fun r hrec htaker => absurd htaker (not_isTarget htarget hrec)
    rw [← purged_eq]
    refine exec_powerPark h hp tag ?_
    rw [powerPark_known (s := s.delivered 257) hi hd ht, parkKnown_awake (s := s.delivered 257) hfree hparked,
      freeAndPark_untargeted (s := s.delivered 257) htarget, park_normal (s := s.delivered 257) hparked hrole hn]
    rfl
  · obtain ⟨hparked, hrole⟩ := (parkable_iff _).mp hs
    have hfree : ¬ s.Wanted i := not_wanted hrole hpend fun q hq _ => by
      rw [hrec] at hq
      exact Option.some.inj hq ▸ hk
    subst htaker
    have hstate : ((s.delivered 257).removeRecord.source r.taker).state = (s.source r.taker).state :=
      state_removeRecord ..
    have hlaw : ((s.delivered 257).removeRecord.park r.taker).source r.taker =
        ((s.delivered 257).removeRecord.source r.taker).parkedRec := by
      rw [source_park, if_pos ⟨rfl, by rwa [hstate], by rwa [hstate]⟩]
    refine ⟨((s.delivered 257).removeRecord.park r.taker).answered tag false (.sourcePower src 0) .ok [],
      exec_powerPark h (.inr hp) tag ?_, ?_, ?_, ?_, ?_, ?_, ?_⟩
    · rw [powerPark_known (s := s.delivered 257) hi hd ht, parkKnown_awake (s := s.delivered 257) hfree hparked,
        freeAndPark_targeted (s := s.delivered 257) hrec hk hphase]
    · show ((s.delivered 257).removeRecord.park r.taker).zc.record = none
      simp [State.removeRecord, hrec]
    · exact congrArg Source.state hlaw
    · exact congrArg Source.enable hlaw
    · exact congrArg Source.idle hlaw
    · refine (ring_park r.taker _ (by rwa [hstate]) (by rwa [hstate])).trans ?_
      rw [ring_congr s _ (by simp)]
    · have hspares (k : NoticeKind) (hk : k ≠ .sourceState) : Spares k s ((s.delivered 257).removeRecord.park r.taker) :=
        (((Spares.refl k s).same (u := s.delivered 257) rfl).removeRecord).park hk _
      rintro e he (hkind | hkind)
      · exact (hspares .handoffDone (by decide)).notPosted e he hkind
      · exact (hspares .handoffAborted (by decide)).notPosted e he hkind
  · refine ⟨fun hi => exec_powerPark h hp tag (powerPark_none hi _), fun i hi => ?_⟩
    refine ⟨fun hd => ?_, fun hd ht => ?_, fun hd ht hw => ?_, fun hd ht hw hs => ?_⟩
    · exact exec_powerPark h hp tag (powerPark_undefined (s := s.delivered 257) hi hd)
    · exact exec_powerPark h hp tag (powerPark_underTest (s := s.delivered 257) hi hd ht)
    · refine exec_powerPark h hp tag ?_
      rw [powerPark_known (s := s.delivered 257) hi hd ht, parkKnown_wanted (s := s.delivered 257) hw]
      rfl
    · refine exec_powerPark h hp tag ?_
      rw [powerPark_known (s := s.delivered 257) hi hd ht, parkKnown_parked (s := s.delivered 257) hw hs]

end Sys2Proof.Machine
end

section
/-! THEOREM. The expiries of the source timers and the entry to FAULT (R5, R7, R9, R13, R15, R16). -/

namespace Sys2Proof.Machine

variable {s t : State} {i : Src} {x : Timer}

/-! What an expiry does -/

theorem settleExpiry_waking (hs : (s.source i).state = .waking) (hx : (s.source i).settle = some x) :
    s.settleExpiry i = (s.waitTimer x).enterSyncing i := by
  simp [State.settleExpiry, hs, hx]

theorem syncExpiry_syncing (hs : (s.source i).state = .syncing) (hx : (s.source i).sync = some x) :
    s.syncExpiry i = (s.waitTimer x).syncFailed i := by
  simp [State.syncExpiry, hs, hx]

theorem frameTimeout_usable (hs : (s.source i).state.usable = true) (hx : (s.source i).frame = some x) :
    s.frameTimeout i = (s.waitTimer x).faultSource .frameTimeout i := by
  simp [State.frameTimeout, hs, hx]

theorem idleExpiry_warm (hs : (s.source i).state = .warm) (hx : (s.source i).idle = some x) :
    s.idleExpiry i = (s.waitTimer x).park i := by
  simp [State.idleExpiry, hs, hx]

/-- A timed event named before its time is taken at its expiry (log 2). -/
theorem waitTimer_early (hl : s.cru.lock = .locked) (hx : x.expired s.cru.time = false) :
    s.waitTimer x = s.setTime x.deadline := by
  simp [State.waitTimer, hl, hx]

theorem enterSyncing_eq (i : Src) (s : State) : s.enterSyncing i =
    (match (s.source i).purpose with
      | .normal => (s.setSource i { s.source i with
          state := .syncing, settle := none, sync := some ⟨s.cru.time, (s.source i).syncTens * 10000⟩ }).post (some i)
          (.sourceState .syncing .waking s.cru.time)
      | .test => s.setSource i { s.source i with
          state := .syncing, settle := none, sync := some ⟨s.cru.time, (s.source i).syncTens * 10000⟩ }) := by
  unfold State.enterSyncing
  cases (s.source i).purpose <;> rfl

theorem state_enterSyncing (i : Src) (s : State) : ((s.enterSyncing i).source i).state = .syncing := by
  unfold State.enterSyncing State.postState
  split <;> simp

theorem receiver_park (i : Src) (s : State) (hs : (s.source i).state ≠ .parked) (hr : (s.source i).state.isRole = false) :
    (s.park i).receiver i = (s.receiver i).purged := by
  have hgo : ¬ ((s.source i).state = .parked ∨ (s.source i).state.isRole = true) := by simp [hs, hr]
  rw [State.park, if_neg hgo]
  cases (s.source i).purpose <;> simp [State.postState]

/-- Settles O16: each expiry by what it does once its timer is due, and the events whose timer does not run. -/
theorem timersExpire : Obligations.TimersExpire := by
  refine ⟨fun s i x hs hx hdue => ?_, fun s i x hs hx hdue => ?_, fun s i => ⟨fun x hlock hs hx hearly => ?_, ?_⟩⟩
  · show Host.Outcome.next (s.settleExpiry i) = _
    rw [settleExpiry_waking hs hx, waitTimer_due hdue]
    exact congrArg Host.Outcome.next (enterSyncing_eq i s)
  · have hexec : exec (.idleExpiry i) s = .next (s.park i) := by
      show Host.Outcome.next (s.idleExpiry i) = _
      rw [idleExpiry_warm hs hx, waitTimer_due hdue]
    have hparked : (s.source i).state ≠ .parked := by simp [hs]
    have hrole : (s.source i).state.isRole = false := by simp [hs, SrcState.isRole]
    refine ⟨s.park i, hexec, ?_, ring_park i s hparked hrole, ?_, ?_, by simp, by simp, by simp, by simp, by simp,
      by simp, by simp⟩
    · rw [source_park, if_pos ⟨rfl, hparked, hrole⟩]
      rfl
    · rw [receiver_park i s hparked hrole]
      rfl
    · rw [receiver_park i s hparked hrole]
      rfl
  · refine ⟨(s.waitTimer x).enterSyncing i, congrArg Host.Outcome.next (settleExpiry_waking hs hx), ?_,
      state_enterSyncing ..⟩
    rw [waitTimer_early hlock hearly]
    simp [Timer.deadline]
  · refine ⟨fun h => ?_, fun h => ?_, fun h => ?_, fun h => ?_, fun h => ?_, fun h => ?_, fun h => ?_⟩
    · exact congrArg Host.Outcome.next (by rw [State.settleExpiry, h])
    · exact congrArg Host.Outcome.next (by rw [State.syncExpiry, h])
    · exact congrArg Host.Outcome.next (by rw [State.frameTimeout, h])
    · exact congrArg Host.Outcome.next (by rw [State.idleExpiry, h])
    · exact congrArg Host.Outcome.next (by rw [State.videoEnd, h])
    · exact congrArg Host.Outcome.next (by rw [State.groupEnd, h])
    · exact congrArg Host.Outcome.next (by rw [State.endPulse, h])

/-! The entry to FAULT (R15) -/

theorem usable_iff (x : SrcState) : x.usable = true ↔ x = .warm ∨ x = .primary ∨ x = .outgoing ∨ x = .incoming := by
  cases x <;> simp [SrcState.usable]

/-- Settles O17: both expiries come down to the one entry to FAULT. -/
theorem faultEntry : Obligations.FaultEntry := by
  intro s i x hdue faulted
  have hfault (cause : FaultCause) : s.faultSource cause i = faulted cause := by
    show s.faultSource cause i = State.raiseReport _ _ _
    rw [← purged_eq]
    rfl
  refine ⟨fun hs hp hx => ?_, fun hs hx => ?_⟩
  · show Host.Outcome.next (s.syncExpiry i) = _
    rw [syncExpiry_syncing hs hx, waitTimer_due hdue, State.syncFailed, hp]
    exact congrArg Host.Outcome.next (hfault .noSync)
  · show Host.Outcome.next (s.frameTimeout i) = _
    rw [frameTimeout_usable ((usable_iff _).mpr hs) hx, waitTimer_due hdue]
    exact congrArg Host.Outcome.next (hfault .frameTimeout)

end Sys2Proof.Machine
end

section
/-! THEOREM. The link test (R7, R19, R37, R194, R195). -/

namespace Sys2Proof.Machine

variable {s t : State} {i : Src}

/-! The end of a frame that is whole (R37) -/

theorem fillingRec_append {old : List FrameRec} {r : FrameRec} (hold : ∀ q ∈ old, q.state = .ready)
    (hr : r.state = .filling) : fillingRec (old ++ [r]) = some r := by
  have hnone : old.find? (fun q => !q.isReady) = none :=
    List.find?_eq_none.mpr fun q hq => by simp [FrameRec.isReady, hold q hq]
  rw [fillingRec, List.find?_append, hnone]
  simp [FrameRec.isReady, hr]

theorem map_finish_append {old : List FrameRec} {r : FrameRec} (hold : ∀ q ∈ old, q.state = .ready) (hr : r.state = .filling)
    (sums : Triple) : (old ++ [r]).map (fun q => q.finish sums) =
      old ++ [{ r with state := .ready, means := some (meansOf sums (r.window.getD ⟨0, 0, 0, 0⟩)) }] := by
  have hmap : old.map (fun q => q.finish sums) = old :=
    (List.map_congr_left fun q hq => by simp [FrameRec.finish, FrameRec.isReady, hold q hq]).trans (List.map_id' old)
  rw [List.map_append, hmap]
  simp [FrameRec.finish, FrameRec.isReady, hr]

/-- A frame with as many lines as its height ends whole. -/
theorem frameEnd_whole {old : List FrameRec} {r : FrameRec} (hi : (s.receiver i).intake = .receiving)
    (hring : s.ring i = old ++ [r]) (hold : ∀ q ∈ old, q.state = .ready) (hr : r.state = .filling)
    (hlines : (s.receiver i).lines = r.width * 9 / 16) : s.frameEnd i = s.goodFrame i := by
  have hwhole : s.frameWhole i = true := by
    rw [State.frameWhole, hring, fillingRec_append hold hr]
    exact decide_eq_true hlines
  simp [State.frameEnd, hi, hwhole]

/-- The machine with the frame in progress of a source made READY, before the source controller sees it (R37). -/
def State.closedFrame (i : Src) (s : State) : State :=
  ((s.setRing i ((s.ring i).map fun r => r.finish (s.receiver i).sums)).setSource i
    ((s.source i).readyAt s.cru.time)).setReceiver i { s.receiver i with intake := .between, run := 0, sums := ⟨0, 0, 0⟩ }

theorem goodFrame_eq (i : Src) (s : State) : s.goodFrame i = (s.closedFrame i).firstReady i := rfl

theorem source_closedFrame (i : Src) (s : State) : (s.closedFrame i).source i = (s.source i).readyAt s.cru.time := by
  simp [State.closedFrame]

/-! The end of the last source under test (R195) -/

theorem any_toList_eq_false {f : Four TestCode} {p : TestCode → Bool} (h : ∀ j, p (f.get j) = false) :
    f.toList.any p = false := by
  simp [Four.toList, show p f.f0 = false from h .s0, show p f.f1 = false from h .s1, show p f.f2 = false from h .s2,
    show p f.f3 = false from h .s3]

theorem park_test (hs : (s.source i).state ≠ .parked) (hr : (s.source i).state.isRole = false)
    (hp : (s.source i).purpose = .test) : s.park i = (s.setSource i (s.source i).parkedRec).purge i := by
  have hgo : ¬ ((s.source i).state = .parked ∨ (s.source i).state.isRole = true) := by simp [hs, hr]
  rw [State.park, if_neg hgo, hp]
  rfl

/-- With no other source under test the test is over with the code of this one. -/
theorem testEnd_last {rec : TestRecord} {code : TestCode} (hs : (s.source i).state = .syncing)
    (hp : (s.source i).purpose = .test) (htest : s.cru.test = some rec) (hcode : code ≠ .pending)
    (hothers : ∀ j, j ≠ i → rec.codes.get j ≠ .pending) :
    s.testEnd i code =
      ({ (s.setSource i (s.source i).parkedRec).purge i with cru := { s.cru with test := none } } : State).post none
        (.testDone (rec.codes.set i code) rec.start s.cru.time) := by
  have hdone : (rec.codes.set i code).toList.any (fun c => decide (c = .pending)) = false := by
    refine any_toList_eq_false fun j => ?_
    by_cases hj : j = i
    · simp [hj, hcode]
    · simp [hj, hothers j hj]
  rw [State.testEnd, htest]
  dsimp only
  rw [park_test (by simp [hs]) (by simp [hs, SrcState.isRole]) hp, State.settleTest, hdone]
  rfl

/-- What the end of the last source under test leaves of the test, the source and the queue. -/
theorem testEnd_last_fields {rec : TestRecord} {code : TestCode} (hs : (s.source i).state = .syncing)
    (hp : (s.source i).purpose = .test) (htest : s.cru.test = some rec) (hcode : code ≠ .pending)
    (hothers : ∀ j, j ≠ i → rec.codes.get j ≠ .pending) :
    (s.testEnd i code).cru = { s.cru with test := none } ∧ (s.testEnd i code).source i = (s.source i).parkedRec ∧
    (s.testEnd i code).nq =
      s.nq.post s.cru.straps.attnMode s.cru.time none (.testDone (rec.codes.set i code) rec.start s.cru.time) := by
  rw [testEnd_last hs hp htest hcode hothers]
  exact ⟨rfl, (get_set ..).trans (if_pos rfl), rfl⟩

/-! LINK_TEST (R194) -/

/-- A source record after its share of a LINK_TEST. -/
def Source.tested (now : Time) (x : Source) : Source :=
  if x.defined = true ∧ x.state = .parked then
    { x with state := .waking, purpose := .test, lastReady := none, enable := true, settle := some ⟨now, x.settleMs * 1000⟩ }
  else x

theorem setSource_same (i : Src) (s : State) : s.setSource i (s.source i) = s := by
  rw [State.setSource, State.source, set_get]

theorem beginTest_eq (i : Src) (s : State) : s.beginTest i = s.setSource i ((s.source i).tested s.cru.time) := by
  unfold State.beginTest Source.testCode Source.tested
  by_cases h : (s.source i).defined = true ∧ (s.source i).state = .parked
  · simp only [if_pos h]
    obtain ⟨hd, hs⟩ := h
    simp only [State.wake, hd, hs, and_self, if_true]
    rfl
  · simp only [if_neg h]
    exact (setSource_same i s).symm

theorem beginTests_eq (s : State) : (((s.beginTest .s0).beginTest .s1).beginTest .s2).beginTest .s3 =
    { s with sources := s.sources.map (Source.tested s.cru.time) } := by
  rw [beginTest_eq .s0, beginTest_eq .s1, beginTest_eq .s2, beginTest_eq .s3]
  rfl

theorem exec_linkTest (h : LinkReady s) (hp : s.link.part = .config) (ht : s.cru.test = none) (tag : Byte) :
    exec (.linkTest tag) s =
      .next ((State.settleTest s.testRecord { s.delivered 257 with
        sources := s.sources.map (Source.tested s.cru.time) }).answered tag false .linkTest .accepted []) := by
  refine row_served (q := .linkTest) h rfl (decide_eq_true hp) rfl ?_ tag
  show (s.delivered 257).linkTest = _
  rw [State.linkTest, if_neg (by simp [ht]), beginTests_eq]
  rfl

/-- With a source under test the record stands. -/
theorem settleTest_pending {rec : TestRecord} {i : Src} (h : rec.codes.get i = .pending) (s : State) :
    s.settleTest rec = { s with cru := { s.cru with test := some rec } } := by
  have hany : rec.codes.toList.any (fun c => decide (c = .pending)) = true := by
    simp only [Four.toList, List.any_eq_true, decide_eq_true_eq]
    exact ⟨_, by cases i <;> simp [Four.get], h⟩
  exact if_pos hany

theorem tested_same {x : Source} (h : ¬ (x.defined = true ∧ x.state = .parked)) (now : Time) : x.tested now = x := if_neg h

/-- Settles O18: the test begins on every source at once, and ends with the last source under it. -/
theorem linkTestRuns : Obligations.LinkTestRuns := by
  refine ⟨fun s tag h hp ht => ?_, fun s i x rec hs hn hx hdue htest hothers => ?_,
    fun s i old r rec hi hring hold hr hlines hs hn htest hothers => ?_⟩
  · intro tested codes after
    have hcode (j : Src) : (s.source j).testCode = if tested j then .pending else .notTested := by
      simp [Source.testCode, tested]
    have hrecord : s.testRecord = ⟨s.cru.time, codes⟩ := by
      show (⟨s.cru.time, ⟨(s.source .s0).testCode, (s.source .s1).testCode, (s.source .s2).testCode,
        (s.source .s3).testCode⟩⟩ : TestRecord) = _
      simp only [hcode]
      rfl
    have hget (j : Src) : codes.get j = if tested j then .pending else .notTested := by cases j <;> rfl
    rw [exec_linkTest h hp ht, hrecord]
    refine ⟨fun ⟨j, hj⟩ => ?_, fun hnone => ?_⟩
    · rw [settleTest_pending (i := j) (by rw [hget, hj]; rfl)]
      rfl
    · have hafter : s.sources.map (Source.tested s.cru.time) = s.sources :=
        four_ext _ _ fun j => by
          rw [get_map]
          exact tested_same (of_decide_eq_false (hnone j)) _
      have hall : codes = ⟨.notTested, .notTested, .notTested, .notTested⟩ :=
        four_ext _ _ fun j => by rw [hget, hnone j]; cases j <;> rfl
      have hsame : ({ s with cru := { s.cru with test := none } } : State) = s := by rw [← ht]
      rw [hafter, hall]
      show Host.Outcome.next (State.answered tag false .linkTest .accepted [] ((({ s with
        cru := { s.cru with test := none } } : State).post none (.testDone _ s.cru.time s.cru.time)).delivered 257)) = _
      rw [hsame]
  · have hexec : exec (.syncExpiry i) s = .next (s.testEnd i .noSync) := by
      show Host.Outcome.next (s.syncExpiry i) = _
      rw [syncExpiry_syncing hs hx, waitTimer_due hdue, State.syncFailed, hn]
    obtain ⟨hcru, hsource, hnq⟩ := testEnd_last_fields hs hn htest (code := .noSync) (by decide) hothers
    refine ⟨s.testEnd i .noSync, hexec, hcru, ?_, ?_, ?_, hnq⟩ <;> rw [hsource] <;> rfl
  · have hexec : exec (.frameEnd i) s = .next ((s.closedFrame i).testEnd i .pass) := by
      show Host.Outcome.next (s.frameEnd i) = _
      rw [frameEnd_whole hi hring hold hr hlines, goodFrame_eq, State.firstReady, source_closedFrame]
      simp [Source.readyAt, hs, hn]
    have hclosed := source_closedFrame i s
    obtain ⟨hcru, hsource, hnq⟩ := testEnd_last_fields (s := s.closedFrame i) (i := i) (by rw [hclosed]; exact hs)
      (by rw [hclosed]; exact hn) htest (code := .pass) (by decide) hothers
    refine ⟨(s.closedFrame i).testEnd i .pass, hexec, hcru, ?_, ?_, ?_, hnq⟩ <;> rw [hsource] <;> rfl

end Sys2Proof.Machine
end

section
/-! THEOREM. SUSPEND and RESUME (R10, R16, R177, R178). -/

namespace Sys2Proof.Machine

variable {s t u : State} {i : Src}

/-- An operation on one source after the other acts on each source as it does by itself. -/
theorem view_each_source {α : Type} {F : Src → State → State} {V : State → Src → α} {g : α → α}
    (h : ∀ i j s, V (F i s) j = if j = i then g (V s i) else V s j) (s : State) (j : Src) :
    V (F .s3 (F .s2 (F .s1 (F .s0 s)))) j = g (V s j) := by
  cases j <;> simp [h]

/-- What an operation made of the machine as the delivery left it, seen as made before the delivery. -/
def State.undelivered (s u : State) : State := { u with link := { s.link with part := u.link.part } }

/-- An operation that changes nothing of the link but the part state comes to the same before the delivery. -/
theorem undelivered_delivered {n : Nat} (h : u.link = { (s.delivered n).link with part := u.link.part }) :
    (s.undelivered u).delivered n = u := by
  obtain ⟨cru, link, nq, sources, receivers, fs, gu, zc, cp, op, cc, pending⟩ := u
  exact congrArg (fun l => State.mk cru l nq sources receivers fs gu zc cp op cc pending) h.symm

theorem source_undelivered (i : Src) (s u : State) : (s.undelivered u).source i = u.source i := rfl

theorem ring_undelivered (i : Src) (s u : State) : (s.undelivered u).ring i = u.ring i := rfl

theorem receiver_undelivered (i : Src) (s u : State) : (s.undelivered u).receiver i = u.receiver i := rfl

/-! Parking every source -/

/-- What a park looks at and changes of a source. -/
def State.parkView (s : State) (i : Src) : Source × List FrameRec × Receiver := (s.source i, s.ring i, s.receiver i)

/-- The source, its ring and its receiver after a park (R10, R16, R26). -/
def parkOf (x : Source × List FrameRec × Receiver) : Source × List FrameRec × Receiver :=
  if x.1.state = .parked ∨ x.1.state.isRole = true then x
  else (x.1.parkedRec, x.2.1.filter FrameRec.held, x.2.2.purged)

theorem parkOf_kept {x : Source × List FrameRec × Receiver} (h : x.1.state = .parked ∨ x.1.state.isRole = true) :
    parkOf x = x := if_pos h

theorem parkOf_gone {x : Source × List FrameRec × Receiver} (h : ¬ (x.1.state = .parked ∨ x.1.state.isRole = true)) :
    parkOf x = (x.1.parkedRec, x.2.1.filter FrameRec.held, x.2.2.purged) := if_neg h

theorem parkView_park (i j : Src) (s : State) :
    (s.park i).parkView j = if j = i then parkOf (s.parkView i) else s.parkView j := by
  unfold State.park
  by_cases hgo : (s.source i).state = .parked ∨ (s.source i).state.isRole = true
  · rw [if_pos hgo, parkOf_kept (x := s.parkView i) hgo]
    split_ifs with hj
    · rw [hj]
    · rfl
  · rw [if_neg hgo, parkOf_gone (x := s.parkView i) hgo]
    cases (s.source i).purpose <;> split_ifs with hj <;> simp [State.parkView, State.postState, hj]

theorem parkView_parkAll (s : State) (j : Src) : s.parkAll.parkView j = parkOf (s.parkView j) :=
  view_each_source (F := State.park) parkView_park s j

theorem link_suspendPart (s : State) : s.suspendPart.link = { s.link with part := .suspended } := by
  simp [State.suspendPart, State.parkAll]

theorem exec_resume (h : LinkReady s) (hp : s.link.part = .suspended) (tag : Byte) :
    exec (.resume tag) s = .next (({ s with link := { s.link with part := .config } }.delivered 257).answered tag false
      .resume .ok []) :=
  row_served (q := .resume) h rfl (decide_eq_true hp) rfl rfl tag

/-- Settles O19: SUSPEND parks one source after the other, RESUME sets the part state. -/
theorem suspendAndResume : Obligations.SuspendAndResume := by
  refine ⟨fun s tag h hp hstill htest hroles => ?_, fun s tag h hp => exec_resume h hp tag⟩
  have hlink := link_suspendPart (s.delivered 257)
  have hview (i : Src) : (s.delivered 257).suspendPart.parkView i = parkOf (s.parkView i) :=
    parkView_parkAll (s.delivered 257) i
  have hsource (i : Src) : (s.delivered 257).suspendPart.source i = (parkOf (s.parkView i)).1 :=
    congrArg Prod.fst (hview i)
  have hring (i : Src) : (s.delivered 257).suspendPart.ring i = (parkOf (s.parkView i)).2.1 :=
    congrArg (fun x => x.2.1) (hview i)
  have hreceiver (i : Src) : (s.delivered 257).suspendPart.receiver i = (parkOf (s.parkView i)).2.2 :=
    congrArg (fun x => x.2.2) (hview i)
  refine ⟨s.undelivered (s.delivered 257).suspendPart, ?_, ?_, by simp [State.undelivered, State.suspendPart, State.parkAll],
    fun i => ?_, fun i hi => ?_, ?_⟩
  · rw [undelivered_delivered (by rw [hlink])]
    refine row_served (q := .suspend) h rfl (decide_eq_true hp) rfl ?_ tag
    show (s.delivered 257).suspend = _
    rw [State.suspend, if_neg (by simp [hstill]), if_neg (by simp [htest])]
  · show { s.link with part := (s.delivered 257).suspendPart.link.part } = _
    rw [hlink]
  · rw [source_undelivered, hsource]
    by_cases hi : (s.source i).state = .parked
    · rw [parkOf_kept (x := s.parkView i) (.inl hi)]
      exact ⟨hi, fun hn => absurd hi hn, fun _ => rfl⟩
    · rw [parkOf_gone (x := s.parkView i) (not_or.mpr ⟨hi, by simp [State.parkView, hroles i]⟩)]
      exact ⟨rfl, fun _ => rfl, fun hn => absurd hn hi⟩
  · rw [ring_undelivered, receiver_undelivered, hring, hreceiver,
      parkOf_gone (x := s.parkView i) (not_or.mpr ⟨hi, by simp [State.parkView, hroles i]⟩), purged_eq]
    exact ⟨rfl, rfl, rfl, rfl⟩
  · simp [State.undelivered, State.suspendPart, State.parkAll]

end Sys2Proof.Machine
end

section
/-! THEOREM. Frame starts and bad frames (R13, R25, R30, R38, R39, R40, R195). -/

namespace Sys2Proof.Machine

variable {s t : State} {i : Src}

/-! Bad frames (R39, R40) -/

theorem setReceiver_setReceiver (i : Src) (x y : Receiver) (s : State) :
    (s.setReceiver i x).setReceiver i y = s.setReceiver i y := by
  cases i <;> rfl

theorem postReceiver_eq (i : Src) (p : Payload) (s : State) :
    s.postReceiver i p = if (s.source i).purpose = .normal then s.post (some i) p else s := by
  unfold State.postReceiver
  cases (s.source i).purpose <;> rfl

/-- The machine with one more bad frame counted on a receiver. -/
def State.countBad (i : Src) (s : State) : State :=
  s.setReceiver i { s.receiver i with run := (s.receiver i).run + 1 }

theorem countBad_setReceiver (i : Src) (x : Receiver) (s : State) :
    (s.setReceiver i x).countBad i = s.setReceiver i { x with run := x.run + 1 } := by
  rw [State.countBad, setReceiver_setReceiver, receiver_setReceiver, if_pos rfl]

theorem source_countBad (i j : Src) (s : State) : (s.countBad i).source j = s.source j := rfl

theorem badFrame_eq (i : Src) (cause : BadCause) (lines : Nat) (counter : Option Half) (s : State) :
    s.badFrame i cause lines counter =
      if 8 ≤ (s.receiver i).run + 1 then
        ((s.countBad i).postReceiver i (.linkFault cause lines ((s.receiver i).run + 1) counter)).eighthBadFrame i
      else (s.countBad i).postReceiver i (.linkFault cause lines ((s.receiver i).run + 1) counter) := rfl

/-- A bad frame that is not the eighth in a row is counted, and posted for a source of purpose NORMAL. -/
theorem badFrame_counted (h : (s.receiver i).run < 7) (cause : BadCause) (lines : Nat) (counter : Option Half) :
    s.badFrame i cause lines counter =
      if (s.source i).purpose = .normal then
        (s.countBad i).post (some i) (.linkFault cause lines ((s.receiver i).run + 1) counter)
      else s.countBad i := by
  rw [badFrame_eq, if_neg (by omega), postReceiver_eq]
  rfl

/-- The eighth faults a source of purpose NORMAL. -/
theorem badFrame_eighth_normal (h : (s.receiver i).run = 7) (hs : (s.source i).state.keepsFrames = true)
    (hp : (s.source i).purpose = .normal) (cause : BadCause) (lines : Nat) (counter : Option Half) :
    s.badFrame i cause lines counter =
      ((s.countBad i).post (some i) (.linkFault cause lines ((s.receiver i).run + 1) counter)).faultSource .link i := by
  rw [badFrame_eq, if_pos (by omega), postReceiver_eq, source_countBad, if_pos hp, State.eighthBadFrame,
    if_pos (by simp [source_countBad, hs]), source_post, source_countBad, hp]

/-- The eighth ends the test of a source under test. -/
theorem badFrame_eighth_test (h : (s.receiver i).run = 7) (hs : (s.source i).state = .syncing)
    (hp : (s.source i).purpose = .test) (cause : BadCause) (lines : Nat) (counter : Option Half) :
    s.badFrame i cause lines counter = (s.countBad i).testEnd i .badFrames := by
  rw [badFrame_eq, if_pos (by omega), postReceiver_eq, if_neg (by simp [source_countBad, hp]), State.eighthBadFrame,
    if_pos (by simp [source_countBad, hs, SrcState.keepsFrames]), source_countBad, hp]

/-! What the entry to FAULT and the end of a test leave of the source and its receiver -/

theorem receiver_faultSource (cause : FaultCause) (i : Src) (s : State) :
    (s.faultSource cause i).receiver i = (s.receiver i).purged := (get_set ..).trans (if_pos rfl)

theorem nq_faultSource (cause : FaultCause) (i : Src) (s : State) :
    (s.faultSource cause i).nq =
      s.nq.post s.cru.straps.attnMode s.cru.time (some i) (.sourceFault cause (s.source i).state s.cru.time) := rfl

theorem source_testEnd (code : TestCode) (j : Src) (s : State) : (s.testEnd i code).source j = (s.park i).source j := by
  unfold State.testEnd
  split
  · rfl
  · exact source_congr _ _ (by simp) j

theorem receiver_testEnd (code : TestCode) (j : Src) (s : State) :
    (s.testEnd i code).receiver j = (s.park i).receiver j := by
  unfold State.testEnd
  split
  · rfl
  · exact receiver_congr _ _ (by simp) j

/-- A SYNCING source whose test ends is PARKED and its receiver purged. -/
theorem testEnd_syncing (hs : (s.source i).state = .syncing) (code : TestCode) :
    ((s.testEnd i code).source i).state = .parked ∧ (s.testEnd i code).receiver i = (s.receiver i).purged := by
  have hparked : (s.source i).state ≠ .parked := by simp [hs]
  have hrole : (s.source i).state.isRole = false := by simp [hs, SrcState.isRole]
  rw [source_testEnd, receiver_testEnd, source_park, if_pos ⟨rfl, hparked, hrole⟩, receiver_park i s hparked hrole]
  exact ⟨rfl, rfl⟩

/-! The start of a frame (R25, R30) -/

theorem frameStart_held (h : s.cru.resetHeld = true) : s.frameStart i = s := if_pos h

theorem frameStart_released (h : s.cru.resetHeld = false) : s.frameStart i = (s.cutOff i).openFrame i :=
  if_neg (by simp [h])

theorem cutOff_idle (h : (s.receiver i).intake = .between ∨ (s.receiver i).intake = .discarding) : s.cutOff i = s := by
  rcases h with h | h <;> simp [State.cutOff, h]

/-- A frame in progress counts as CUT_OFF. -/
theorem cutOff_busy (h : (s.receiver i).intake = .awaitMeta ∨ (s.receiver i).intake = .receiving) :
    s.cutOff i = (s.setRing i (dropFilling (s.ring i))).badFrame i .cutOff 0 (s.fillingCounter i) := by
  rcases h with h | h <;> simp [State.cutOff, h]

theorem keepsFrames_eq_false {x : SrcState} (h : x = .parked ∨ x = .waking ∨ x = .fault) : x.keepsFrames = false := by
  rcases h with rfl | rfl | rfl <;> rfl

theorem keepsFrames_of_ne {x : SrcState} (h1 : x ≠ .parked) (h2 : x ≠ .waking) (h3 : x ≠ .fault) :
    x.keepsFrames = true := by
  cases x
  case parked => exact absurd rfl h1
  case waking => exact absurd rfl h2
  case fault => exact absurd rfl h3
  all_goals rfl

theorem openFrame_closed (h : (s.source i).state.keepsFrames = false) : s.openFrame i = s.setIntake i .discarding :=
  if_neg (by simp [h])

theorem openFrame_open (h : (s.source i).state.keepsFrames = true) : s.openFrame i = s.appendFrame i := if_pos h

theorem setRing_setReceiver (i j : Src) (x : Receiver) (l : List FrameRec) (s : State) :
    (s.setReceiver i x).setRing j l = (s.setRing j l).setReceiver i x := rfl

theorem setSlot_setReceiver (i j : Src) (x : Receiver) (k : Slot) (c : Content) (s : State) :
    (s.setReceiver i x).setSlot j k c = (s.setSlot j k c).setReceiver i x := rfl

/-- Opening a frame does not read what the intake was. -/
theorem openFrame_setReceiver (i : Src) (x : Receiver) (a : Intake) (s : State) :
    (s.setReceiver i { x with intake := a }).openFrame i = (s.setReceiver i x).openFrame i := by
  unfold State.openFrame State.appendFrame State.setIntake
  simp only [source_setReceiver, ring_setReceiver, receiver_setReceiver, if_pos, setReceiver_setReceiver,
    setRing_setReceiver, setSlot_setReceiver]
  rfl

theorem dropOldest_eq (ring : List FrameRec) : dropOldest ring =
    if ring.length < 4 then ring
    else ring.eraseP fun r => decide (r.state = .ready ∧ r.heldC = false ∧ r.heldS = false) := by
  have hfree : (fun r : FrameRec => r.isReady && !r.held) =
      fun r => decide (r.state = .ready ∧ r.heldC = false ∧ r.heldS = false) := by
    funext r
    simp [FrameRec.isReady, FrameRec.held, Bool.decide_and]
  unfold dropOldest
  rw [hfree]
  by_cases h : ring.length < 4
  · rw [if_pos h, if_neg (show ¬ Config.ringDepth ≤ ring.length from Nat.not_le.mpr h)]
  · rw [if_neg h, if_pos (show Config.ringDepth ≤ ring.length from Nat.not_lt.mp h)]

theorem freeSlots_eq (ring : List FrameRec) :
    freeSlots ring = [Src.s0, .s1, .s2, .s3].filter fun n => decide (n ∉ ring.map FrameRec.slot) := by
  refine List.filter_congr fun n _ => ?_
  rw [Bool.eq_iff_iff]
  simp

/-- A frame that is kept joins the ring on the lowest free slot. -/
theorem appendFrame_slot {k : Slot} (h : (freeSlots (dropOldest (s.ring i))).head? = some k) :
    s.appendFrame i = ((s.setRing i (dropOldest (s.ring i) ++ [FrameRec.fresh k (s.source i).width s.cru.time])).setSlot i k
      []).setReceiver i { s.receiver i with intake := .awaitMeta, lines := 0, sums := ⟨0, 0, 0⟩ } := by
  unfold State.appendFrame
  cases hfree : freeSlots (dropOldest (s.ring i)) with
  | nil => simp [hfree] at h
  | cons x rest =>
    rw [hfree] at h
    cases h
    rfl

theorem fillingRec_eq (ring : List FrameRec) : fillingRec ring = ring.find? fun r => decide (r.state = .filling) := by
  have hfilling : (fun r : FrameRec => !r.isReady) = fun r => decide (r.state = .filling) := by
    funext r
    cases h : r.state <;> simp [FrameRec.isReady, h]
  rw [fillingRec, hfilling]

/-- What a frame start makes of a source that keeps no frames any more. -/
theorem openFrame_closed_fields (h : (s.source i).state.keepsFrames = false) :
    (s.openFrame i).source i = s.source i ∧ ((s.openFrame i).receiver i).intake = .discarding ∧
    ((s.openFrame i).receiver i).run = (s.receiver i).run ∧ (s.openFrame i).nq = s.nq := by
  rw [openFrame_closed h]
  have hreceiver : (s.setIntake i .discarding).receiver i =
      { s.receiver i with intake := .discarding, sums := ⟨0, 0, 0⟩ } := (get_set ..).trans (if_pos rfl)
  rw [hreceiver]
  exact ⟨rfl, rfl, rfl, rfl⟩

/-- Settles O20: what a frame in progress comes to, then the new frame. -/
theorem frameStartOpensFrame : Obligations.FrameStartOpensFrame := by
  refine ⟨fun s i h => congrArg Host.Outcome.next (frameStart_held h), fun s i h => ⟨fun hidle => ⟨fun hs => ?_,
    fun room k h1 h2 h3 hroom hk => ?_⟩, fun hbusy => ?_⟩⟩
  · show Host.Outcome.next (s.frameStart i) = _
    rw [frameStart_released h, cutOff_idle hidle, openFrame_closed (keepsFrames_eq_false hs)]
    rfl
  · show Host.Outcome.next (s.frameStart i) = _
    rw [← dropOldest_eq] at hroom
    subst hroom
    rw [← freeSlots_eq] at hk
    rw [frameStart_released h, cutOff_idle hidle, openFrame_open (keepsFrames_of_ne h1 h2 h3), appendFrame_slot hk]
    rfl
  · intro cut payload
    have hbad : s.frameStart i = ((s.setRing i (dropFilling (s.ring i))).badFrame i .cutOff 0
        (((s.ring i).find? fun r => decide (r.state = .filling)).bind FrameRec.counter)).openFrame i := by
      rw [frameStart_released h, cutOff_busy hbusy, State.fillingCounter, fillingRec_eq]
    have hcut : cut = (s.setRing i (dropFilling (s.ring i))).setReceiver i
        { s.receiver i with intake := .between, run := (s.receiver i).run + 1 } := rfl
    have hcutIntake : (cut.receiver i).intake = .between := by
      rw [hcut, receiver_setReceiver, if_pos rfl]
    refine ⟨fun hrun => ?_, fun hrun hs hp => ?_, fun hrun hs hp => ?_⟩
    · show Host.Outcome.next (s.frameStart i) = .next (State.frameStart i _)
      rw [hbad, badFrame_counted (s := s.setRing i (dropFilling (s.ring i))) hrun, source_setRing]
      split_ifs
      · rw [frameStart_released (s := cut.post (some i) payload) h,
          cutOff_idle (s := cut.post (some i) payload) (.inl hcutIntake)]
        exact congrArg Host.Outcome.next (openFrame_setReceiver i _ .between
          ((s.setRing i (dropFilling (s.ring i))).post (some i) payload)).symm
      · rw [frameStart_released (s := cut) h, cutOff_idle (s := cut) (.inl hcutIntake)]
        exact congrArg Host.Outcome.next (openFrame_setReceiver i _ .between
          (s.setRing i (dropFilling (s.ring i)))).symm
    · rw [badFrame_eighth_normal (s := s.setRing i (dropFilling (s.ring i))) hrun hs hp] at hbad
      obtain ⟨hsource, hintake, hzero, hnq⟩ := openFrame_closed_fields (i := i) (s := State.faultSource .link i
        (((s.setRing i (dropFilling (s.ring i))).countBad i).post (some i) payload))
        (by rw [source_faultSource, if_pos rfl]; rfl)
      refine ⟨_, congrArg Host.Outcome.next hbad, ?_, ?_, hintake, ?_, hnq⟩
      · exact (congrArg Source.state hsource).trans (by rw [source_faultSource, if_pos rfl]; rfl)
      · exact (congrArg Source.cause hsource).trans (by rw [source_faultSource, if_pos rfl]; rfl)
      · exact hzero.trans (by rw [receiver_faultSource]; rfl)
    · rw [badFrame_eighth_test (s := s.setRing i (dropFilling (s.ring i))) hrun hs hp] at hbad
      obtain ⟨hparked, hpurged⟩ := testEnd_syncing (i := i) (s := (s.setRing i (dropFilling (s.ring i))).countBad i) hs
        .badFrames
      obtain ⟨hsource, hintake, hzero, -⟩ := openFrame_closed_fields (i := i)
        (s := ((s.setRing i (dropFilling (s.ring i))).countBad i).testEnd i .badFrames) (by rw [hparked]; rfl)
      refine ⟨_, congrArg Host.Outcome.next hbad, ?_, hintake, ?_⟩
      · rw [hsource, hparked]
      · rw [hzero, hpurged]
        rfl

end Sys2Proof.Machine
end

section
/-! THEOREM. Metadata lines and the ends of bad frames (R13, R32 to R34, R36, R38 to R40, R195, R201). -/

namespace Sys2Proof.Machine

variable {s t : State} {i : Src}

/-! Reading a metadata line (R201) -/

theorem readMeta_marked (p1 p2 : Pixel) (rest : List Pixel) :
    readMeta (⟨0x2A5, 0x15A, 0x3C3⟩ :: p1 :: p2 :: rest) = some ⟨lowBytes p1.r p1.g, lowBytes p2.r p2.g⟩ := rfl

theorem readMeta_bad {pixels : List Pixel} (h : pixels.length < 3 ∨ pixels.head? ≠ some ⟨0x2A5, 0x15A, 0x3C3⟩) :
    readMeta pixels = none := by
  unfold readMeta
  split
  case h_2 => rfl
  next p0 p1 p2 rest =>
    have hmarker : p0 ≠ metaMarker := by
      rcases h with h | h
      · simp only [List.length_cons] at h
        omega
      · exact fun heq => h (congrArg some heq)
    exact if_neg hmarker

/-! An accepted metadata line (R33, R34) -/

theorem missingFrames_eq (p c : Half) : missingFrames p c = (c.toNat + 131071 - p.toNat) % 65536 := by
  unfold missingFrames
  have hp := p.isLt
  have hc := c.isLt
  have hone : (1 : Half).toNat = 1 := rfl
  simp only [BitVec.toNat_sub, hone]
  omega

theorem frameLoss_eq (i : Src) (c : Half) (s : State) : s.frameLoss i c =
    (match (s.receiver i).last with
      | none => s
      | some p => if c - p = 1 ∨ (s.source i).purpose = .test then s
        else s.post (some i) (.frameLoss ((c.toNat + 131071 - p.toNat) % 65536) p c s.cru.time)) := by
  unfold State.frameLoss
  cases (s.receiver i).last with
  | none => rfl
  | some p =>
    simp only [← missingFrames_eq, State.postReceiver]
    cases (s.source i).purpose with
    | normal => simp
    | test => simp

theorem frameLoss_posts (i : Src) (c : Half) (s : State) :
    s.frameLoss i c = s ∨ ∃ p, s.frameLoss i c = s.post (some i) p := by
  rw [frameLoss_eq]
  split
  · exact .inl rfl
  · split_ifs
    · exact .inl rfl
    · exact .inr ⟨_, rfl⟩

theorem statWindow_eq (s : State) (i : Src) (width focus : Nat) : s.statWindow i width focus =
    (cropWindow width (s.source i).base (if s.zc.ladder = none then (s.source i).base else s.zc.shown)
      (s.lookup i focus)).rect := by
  unfold State.statWindow State.statZoom
  cases s.zc.ladder <;> simp

/-- A FILLING record with what a metadata line gives it. -/
theorem writeMeta_record (s : State) (i : Src) (m : MetaFields) :
    (fun r : FrameRec => if r.isReady then r
      else { r with counter := some m.counter, focus := some (focusOf m.focus),
                    window := some (s.statWindow i r.width (focusOf m.focus)) }) =
    fun r => if r.state = .ready then r
      else { r with counter := some m.counter, focus := some (min m.focus.toNat 1023),
                    window := some (cropWindow r.width (s.source i).base
                      (if s.zc.ladder = none then (s.source i).base else s.zc.shown)
                      (s.lookup i (min m.focus.toNat 1023))).rect } := by
  funext r
  simp only [FrameRec.isReady, statWindow_eq, focusOf, decide_eq_true_eq]

theorem acceptMeta_eq (i : Src) (m : MetaFields) (s : State) : s.acceptMeta i m =
    ((s.frameLoss i m.counter).setRing i ((s.ring i).map fun r => if r.state = .ready then r
      else { r with counter := some m.counter, focus := some (min m.focus.toNat 1023),
                    window := some (cropWindow r.width (s.source i).base
                      (if s.zc.ladder = none then (s.source i).base else s.zc.shown)
                      (s.lookup i (min m.focus.toNat 1023))).rect })).setReceiver i
      { s.receiver i with intake := .receiving, last := some m.counter, sums := ⟨0, 0, 0⟩ } := by
  rw [← writeMeta_record]
  unfold State.acceptMeta State.writeMeta
  rcases frameLoss_posts i m.counter s with h | ⟨p, h⟩
  · rw [h]
  · rw [h]
    rfl

/-! The record of a frame that ends bad leaves the ring -/

/-- The machine without the record in progress of a source, its receiver in this intake state. -/
def State.dropped (i : Src) (x : Intake) (s : State) : State := (s.setRing i (dropFilling (s.ring i))).setIntake i x

theorem receiver_dropped (i : Src) (x : Intake) (s : State) :
    (s.dropped i x).receiver i = { s.receiver i with intake := x, sums := ⟨0, 0, 0⟩ } := (get_set ..).trans (if_pos rfl)

theorem countBad_dropped (i : Src) (x : Intake) (s : State) : (s.dropped i x).countBad i =
    (s.setRing i ((s.ring i).filter fun r => decide (r.state = .ready))).setReceiver i
      { s.receiver i with intake := x, run := (s.receiver i).run + 1, sums := ⟨0, 0, 0⟩ } :=
  countBad_setReceiver ..

theorem takeMeta_bad {pixels : List Pixel} (h : readMeta pixels = none) :
    s.takeMeta i pixels = (s.dropped i .discarding).badFrame i .badMarker 0 none := by
  rw [State.takeMeta, h]
  rfl

/-- A metadata line in AWAIT_META is taken as one. -/
theorem exec_metadataLine (h : (s.receiver i).intake = .awaitMeta) (pixels : List Pixel) :
    exec (.metadataLine i pixels) s = .next (s.takeMeta i pixels) := by
  show Host.Outcome.next (s.takeLine i pixels) = _
  rw [State.takeLine, h]

/-- What the eighth bad frame in a row leaves of a NORMAL source. -/
theorem eighth_normal_fields {b : State} (hs : (b.source i).state = (s.source i).state) {p : Payload} :
    let t := ((b.post (some i) p).faultSource .link i)
    (t.source i).state = .fault ∧ (t.source i).cause = some .link ∧ (t.source i).enable = false ∧
      t.receiver i = (b.receiver i).purged ∧ t.nq = (b.post (some i) p).nq.post b.cru.straps.attnMode b.cru.time (some i)
        (.sourceFault .link (s.source i).state b.cru.time) := by
  intro t
  have hsource : t.source i = ((b.post (some i) p).source i).faultRec .link := by
    rw [source_faultSource, if_pos rfl]
  rw [hsource, ← hs]
  exact ⟨rfl, rfl, rfl, receiver_faultSource .., nq_faultSource ..⟩

/-- Settles O21: an accepted line field by field, a bad one by the bad frame it makes. -/
theorem metadataLineTaken : Obligations.MetadataLineTaken := by
  intro s i h
  refine ⟨fun p1 p2 rest c f hc hf => ?_, fun pixels hbad => ?_⟩
  · intro loss
    have hloss : s.frameLoss i c = loss := frameLoss_eq i c s
    rw [exec_metadataLine h, State.takeMeta, readMeta_marked]
    have haccept := acceptMeta_eq i ⟨lowBytes p1.r p1.g, lowBytes p2.r p2.g⟩ s
    rw [lowBytes, lowBytes, ← hc, ← hf] at haccept
    rw [lowBytes, lowBytes, ← hc, ← hf, ← hloss]
    exact congrArg Host.Outcome.next haccept
  · have hexec : exec (.metadataLine i pixels) s = .next ((s.dropped i .discarding).badFrame i .badMarker 0 none) := by
      rw [exec_metadataLine h, takeMeta_bad (readMeta_bad hbad)]
    have hreceiver := receiver_dropped i .discarding s
    have hrunOf : ((s.dropped i .discarding).receiver i).run = (s.receiver i).run := by rw [hreceiver]
    intro bad posted
    have hcount : (s.dropped i .discarding).countBad i = bad := countBad_dropped ..
    have hbadReceiver : bad.receiver i =
        { s.receiver i with intake := .discarding, run := (s.receiver i).run + 1, sums := ⟨0, 0, 0⟩ } :=
      (get_set ..).trans (if_pos rfl)
    rw [hexec]
    refine ⟨fun hrun => ?_, fun hrun hs hp => ?_, fun hrun hs hp => ?_⟩
    · rw [badFrame_counted (by rwa [hrunOf]), hcount, hrunOf]
      rfl
    · rw [badFrame_eighth_normal (s := s.dropped i .discarding) (by rwa [hrunOf]) hs hp, hcount, hrunOf]
      obtain ⟨hstate, hcause, -, hpurged, hnq⟩ := eighth_normal_fields (i := i) (s := s) (b := bad) rfl
        (p := .linkFault .badMarker 0 ((s.receiver i).run + 1) none)
      refine ⟨_, rfl, hstate, hcause, ?_, ?_, hnq⟩ <;> rw [hpurged, hbadReceiver] <;> rfl
    · rw [badFrame_eighth_test (s := s.dropped i .discarding) (by rwa [hrunOf]) hs hp, hcount]
      obtain ⟨hparked, hpurged⟩ := testEnd_syncing (i := i) (s := bad) hs .badFrames
      refine ⟨_, rfl, hparked, ?_, ?_⟩ <;> rw [hpurged, hbadReceiver] <;> rfl

/-! The end of a frame (R26, R37, R38) -/

theorem lineCountFault_eq (i : Src) (s : State) : s.lineCountFault i =
    (s.dropped i .between).badFrame i .lineCount (s.receiver i).lines
      (((s.ring i).find? fun r => decide (r.state = .filling)).bind FrameRec.counter) := by
  rw [← fillingRec_eq]
  rfl

/-- A frame that does not end whole has a wrong line count. -/
theorem frameEnd_fault (h : (s.receiver i).intake = .receiving ∨ (s.receiver i).intake = .awaitMeta)
    (hlines : ∀ r, (s.ring i).find? (fun q => decide (q.state = .filling)) = some r → (s.receiver i).intake = .receiving →
      (s.receiver i).lines ≠ r.width * 9 / 16) : s.frameEnd i = s.lineCountFault i := by
  rcases h with h | h
  · have hpart : s.frameWhole i = false := by
      unfold State.frameWhole
      rw [fillingRec_eq]
      split
      · rfl
      · exact decide_eq_false (hlines _ ‹_› h)
    simp [State.frameEnd, h, hpart]
  · simp [State.frameEnd, h]

/-- Settles O24: a frame with a wrong line count by the bad frame it makes; the other ends as they stand. -/
theorem badFrameEnds : Obligations.BadFrameEnds := by
  intro s i
  refine ⟨fun h hlines => ?_, fun h => ?_, fun h => ?_⟩
  · intro bad posted
    have hexec : exec (.frameEnd i) s = .next ((s.dropped i .between).badFrame i .lineCount (s.receiver i).lines
        (((s.ring i).find? fun r => decide (r.state = .filling)).bind FrameRec.counter)) := by
      show Host.Outcome.next (s.frameEnd i) = _
      rw [frameEnd_fault h hlines, lineCountFault_eq]
    have hrunOf : ((s.dropped i .between).receiver i).run = (s.receiver i).run := by rw [receiver_dropped]
    have hcount : (s.dropped i .between).countBad i = bad := countBad_dropped ..
    have hbadReceiver : bad.receiver i =
        { s.receiver i with intake := .between, run := (s.receiver i).run + 1, sums := ⟨0, 0, 0⟩ } :=
      (get_set ..).trans (if_pos rfl)
    rw [hexec]
    refine ⟨fun hrun => ?_, fun hrun hs hp => ?_, fun hrun hs hp rec htest hothers => ?_⟩
    · rw [badFrame_counted (by rwa [hrunOf]), hcount, hrunOf]
      rfl
    · rw [badFrame_eighth_normal (s := s.dropped i .between) (by rwa [hrunOf]) hs hp, hcount, hrunOf]
      obtain ⟨hstate, hcause, henable, hpurged, hnq⟩ := eighth_normal_fields (i := i) (s := s) (b := bad) rfl
        (p := .linkFault .lineCount (s.receiver i).lines ((s.receiver i).run + 1)
          (((s.ring i).find? fun r : FrameRec => decide (r.state = .filling)).bind FrameRec.counter))
      refine ⟨_, rfl, hstate, hcause, henable, ?_, ?_, hnq⟩
      · rw [hpurged]
        rfl
      · rw [reports_faultSource, if_pos rfl]
        rfl
    · rw [badFrame_eighth_test (s := s.dropped i .between) (by rwa [hrunOf]) hs hp, hcount]
      obtain ⟨hparked, hpurged⟩ := testEnd_syncing (i := i) (s := bad) hs .badFrames
      obtain ⟨hcru, -, hnq⟩ := testEnd_last_fields (i := i) (s := bad) hs hp htest (code := .badFrames) (by decide) hothers
      refine ⟨_, rfl, hparked, ?_, congrArg ClockReset.test hcru, hnq⟩
      rw [hpurged]
      rfl
  · show Host.Outcome.next (s.frameEnd i) = _
    rw [State.frameEnd, h]
    rfl
  · show Host.Outcome.next (s.frameEnd i) = _
    rw [State.frameEnd, h]

end Sys2Proof.Machine
end

section
/-! THEOREM. Image lines and the ends of whole frames (R5, R7, R8, R19, R26, R35 to R37). -/

namespace Sys2Proof.Machine

variable {s t : State} {i : Src}

/-! Image lines (R35, R36) -/

theorem foldl_sumPixels (l : List Pixel) (t : Triple) :
    l.foldl (fun t p => ⟨t.r + p.r.toNat, t.g + p.g.toNat, t.b + p.b.toNat⟩) t =
      (⟨t.r + (l.map fun p => p.r.toNat).sum, t.g + (l.map fun p => p.g.toNat).sum,
        t.b + (l.map fun p => p.b.toNat).sum⟩ : Triple) := by
  induction l generalizing t with
  | nil => rfl
  | cons p l ih =>
    rw [List.foldl_cons, ih]
    simp only [List.map_cons, List.sum_cons, Nat.add_assoc]

theorem sumPixels_eq (l : List Pixel) : sumPixels l =
    ⟨(l.map fun p => p.r.toNat).sum, (l.map fun p => p.g.toNat).sum, (l.map fun p => p.b.toNat).sum⟩ := by
  simp only [sumPixels, foldl_sumPixels, Nat.zero_add]

theorem windowSum_eq (w : Rect) (y : Nat) (line : List Pixel) : windowSum w y line =
    if w.y0 ≤ y ∧ y ≤ w.y0 + w.ch - 1 ∧ 0 < w.ch then
      ⟨(((line.drop w.x0).take w.cw).map fun p => p.r.toNat).sum, (((line.drop w.x0).take w.cw).map fun p => p.g.toNat).sum,
        (((line.drop w.x0).take w.cw).map fun p => p.b.toNat).sum⟩
    else ⟨0, 0, 0⟩ := by
  rw [windowSum, sumPixels_eq]
  exact if_congr (by omega) rfl rfl

/-- An image line in RECEIVING is stored while it lies in the frame. -/
theorem exec_imageLine {r : FrameRec} (h : (s.receiver i).intake = .receiving)
    (hr : (s.ring i).find? (fun q => decide (q.state = .filling)) = some r) (pixels : List Pixel) :
    exec (.imageLine i pixels) s = .next (if (s.receiver i).lines < r.width * 9 / 16 then
      s.storeLine i r (fitLine r.width pixels) else s.countLine i) := by
  show Host.Outcome.next (s.takeLine i pixels) = _
  rw [State.takeLine, h, State.takeImage, fillingRec_eq, hr]
  rfl

/-- Settles O22: a line is stored, counted or ignored. -/
theorem imageLineTaken : Obligations.ImageLineTaken := by
  intro s i pixels
  refine ⟨fun r w line t h hr hw hline ht => ⟨fun hlow => ?_, fun hhigh => ?_⟩, fun h => ?_⟩
  · rw [exec_imageLine h hr, if_pos hlow, ht, ← windowSum_eq, hline]
    simp only [State.storeLine, hw, Option.getD_some]
    rfl
  · rw [exec_imageLine h hr, if_neg (Nat.not_lt.mpr hhigh)]
    rfl
  · show Host.Outcome.next (s.takeLine i pixels) = _
    rcases h with h | h <;> rw [State.takeLine, h]

/-! The end of a whole frame (R37) -/

theorem firstReady_usable (h : (s.source i).state.usable = true) : s.firstReady i = s :=
  if_neg fun hs => by simp [hs, SrcState.usable] at h

theorem firstReady_syncing (hs : (s.source i).state = .syncing) (hp : (s.source i).purpose = .normal) :
    s.firstReady i = s.enterWarm i := by
  rw [State.firstReady, if_pos hs, hp]

theorem closedFrame_append {old : List FrameRec} {r : FrameRec} (hring : s.ring i = old ++ [r])
    (hold : ∀ q ∈ old, q.state = .ready) (hr : r.state = .filling) :
    s.closedFrame i = ((s.setRing i (old ++ [{ r with
        state := .ready
        means := some (meansOf (s.receiver i).sums (r.window.getD ⟨0, 0, 0, 0⟩)) }])).setSource i
      ((s.source i).readyAt s.cru.time)).setReceiver i
        { s.receiver i with intake := .between, run := 0, sums := ⟨0, 0, 0⟩ } := by
  rw [State.closedFrame, hring, map_finish_append hold hr]

theorem readyAt_usable {x : Source} (h : x.state.usable = true) (now : Time) :
    x.readyAt now = { x with lastReady := some now, frame := some ⟨now, 4 * x.period⟩ } := by
  rw [Source.readyAt, if_pos h]
  rfl

/-- The source as its first READY frame leaves it (R7, R8). -/
theorem source_enterWarm {now : Time} (hl : (s.source i).lastReady = some now) :
    (s.enterWarm i).source i = { s.source i with
      state := .warm, sync := none, frame := some ⟨now, 4 * (s.source i).period⟩,
      idle := if (s.source i).idleTwenties ≠ 0 ∧ s.isTarget i = false ∧ s.isPending i = false
        then some ⟨s.cru.time, (s.source i).idleTwenties * 20000⟩ else none } := by
  unfold State.enterWarm
  rw [source_congr _ _ (postState_keeps ..).2.2.1, source_restartIdle, if_pos rfl, source_setSource, if_pos rfl, hl]
  have hruns : (s.setSource i { s.source i with
      state := .warm, sync := none, frame := (some now).map (s.source i).frameTimer }).idleRuns i = true ↔
      (s.source i).idleTwenties ≠ 0 ∧ s.isTarget i = false ∧ s.isPending i = false := by
    change (decide _ && !s.isTarget i && !s.isPending i) = true ↔ _
    simp [and_assoc]
  simp only [hruns]
  rfl

theorem nq_enterWarm (hp : (s.source i).purpose = .normal) : (s.enterWarm i).nq =
    s.nq.post s.cru.straps.attnMode s.cru.time (some i) (.sourceState .warm (s.source i).state s.cru.time) := by
  rw [State.enterWarm, hp]
  rfl

/-- Settles O23: the record becomes READY, and the source controller takes the first such frame. -/
theorem goodFrameBecomesReady : Obligations.GoodFrameBecomesReady := by
  refine ⟨fun s i old r w hi hring hold hr hw hlines hs => ?_, fun s i old r hi hring hold hr hlines hs hp => ?_⟩
  · show Host.Outcome.next (s.frameEnd i) = _
    have hclosed : ((s.closedFrame i).source i).state.usable = true := by
      rw [source_closedFrame]
      exact hs
    rw [frameEnd_whole hi hring hold hr hlines, goodFrame_eq, firstReady_usable hclosed, closedFrame_append hring hold hr,
      readyAt_usable hs, hw]
    rfl
  · have hsource := source_closedFrame i s
    have hexec : exec (.frameEnd i) s = .next ((s.closedFrame i).enterWarm i) := by
      show Host.Outcome.next (s.frameEnd i) = _
      rw [frameEnd_whole hi hring hold hr hlines, goodFrame_eq, firstReady_syncing]
      · rw [hsource]
        exact hs
      · rw [hsource]
        exact hp
    refine ⟨_, hexec, ?_, ?_, ?_, ?_⟩
    · rw [source_enterWarm (now := s.cru.time) (by rw [hsource]; rfl), hsource]
      rfl
    · rw [nq_enterWarm (by rw [hsource]; exact hp), hsource]
      exact congrArg (fun x => s.nq.post _ _ _ (.sourceState .warm x _)) hs
    · rw [ring_congr (s.closedFrame i) _ (by simp), closedFrame_append hring hold hr]
      simp
    · rw [receiver_congr (s.closedFrame i) _ (by simp), closedFrame_append hring hold hr]
      simp

end Sys2Proof.Machine
end

section
/-! THEOREM. CAL_RUN: its checks, its write pass and its order check (R52 to R55, R197). -/

namespace Sys2Proof.Machine

variable {s t : State} {i : Src}

/-! The checks (R52) -/

/-- A request that fails the encoding check on a free link is answered BAD_VALUE (R197). -/
theorem hostRequest_unencoded (h : LinkReady s) {q : Request} (tag : Byte) (queryOnly : Bool) (hl : q.lengthAgrees = true)
    (hp : s.link.part.passes q = true) (he : q.encodingGood = false) :
    s.hostRequest tag queryOnly q = (s.delivered 257).answered tag queryOnly q .badValue [] := by
  have ha : (s.delivered 257).answer q queryOnly = (s.delivered 257).refuse .badValue [] := by
    rw [State.answer, if_neg (by rw [hl]; decide), if_neg (by rw [show (s.delivered 257).link.part.passes q = true from hp]; decide)]
    exact if_pos he
  rw [hostRequest_ready h]
  exact takeRequest_of_answer ha tag

theorem calRun_none {src : Byte} (h : byteSource src = none) (start dir count : Byte) (points : List PointRec)
    (queryOnly : Bool) (s : State) :
    s.calRun src start dir count points queryOnly = s.refuse .badValue [0, 0xFF] := by
  rw [State.calRun, h]
  rfl

theorem calRun_some {src : Byte} (h : byteSource src = some i) (start dir count : Byte) (points : List PointRec)
    (queryOnly : Bool) (s : State) :
    s.calRun src start dir count points queryOnly = s.calRunOn i start dir count points queryOnly := by
  rw [State.calRun, h]

/-- A start position or a count out of range is refused with nothing written (checks 2 and 4 of R52). -/
theorem calRunOn_range {start dir count : Byte} (hdir : dir = 0x01 ∨ dir = 0xFF) (h : 11 < start.toNat ∨ 12 < count.toNat)
    (points : List PointRec) (queryOnly : Bool) (s : State) :
    s.calRunOn i start dir count points queryOnly = s.refuse .badValue [0, 0xFF] := by
  unfold State.calRunOn
  by_cases hstart : 11 < start.toNat
  · rw [if_pos hstart]
    rfl
  · rw [if_neg hstart, if_neg (fun hn => hdir.elim hn.1 hn.2), if_pos (h.resolve_left hstart)]
    rfl

/-- A run in range comes to its point records (check 5 of R52). -/
theorem calRunOn_points {start dir count : Byte} (hstart : start.toNat ≤ 11) (hdir : dir = 0x01 ∨ dir = 0xFF)
    (hcount : count.toNat ≤ 12) (points : List PointRec) (queryOnly : Bool) (s : State) :
    s.calRunOn i start dir count points queryOnly = match firstBadPoint points with
      | some k => s.refuse .badValue (runBytes 0 (some k))
      | none => ⟨if queryOnly then s
          else s.setCal i (runOutcome (s.gu.cal.get i) start.toNat (decide (dir = 0x01)) points).list,
        (runOutcome (s.gu.cal.get i) start.toNat (decide (dir = 0x01)) points).result,
        (runOutcome (s.gu.cal.get i) start.toNat (decide (dir = 0x01)) points).payload⟩ := by
  unfold State.calRunOn
  rw [if_neg (by omega), if_neg (fun hn => hdir.elim hn.1 hn.2), if_neg (by omega)] <;> rfl

theorem firstBadPoint_eq (points : List PointRec) :
    firstBadPoint points = points.findIdx? fun p => decide (1023 < p.focus.toNat ∧ p.focus ≠ 0xFFFF) := rfl

theorem firstBadPoint_none {points : List PointRec} (h : ∀ p ∈ points, p.focus.toNat ≤ 1023 ∨ p.focus = 0xFFFF) :
    firstBadPoint points = none := by
  rw [firstBadPoint_eq, List.findIdx?_eq_none_iff]
  intro p hp
  rcases h p hp with h | h <;> simp [h]

/-- What a run comes to after its checks (R53, R54). -/
theorem runOutcome_eq (l : CalList) (start : Nat) (up : Bool) (points : List PointRec) :
    runOutcome l start up points =
      ⟨if (orderCheck (writePass up points start l).list).isSome then l else (writePass up points start l).list,
        if (orderCheck (writePass up points start l).list).isSome then .badValue
          else if (writePass up points start l).count = points.length then .ok else .partialDone,
        runBytes (writePass up points start l).count (orderCheck (writePass up points start l).list)⟩ := by
  cases h : orderCheck (writePass up points start l).list with
  | some p => exact runOutcome_offends h
  | none => exact runOutcome_passes h

theorem exec_calRun (h : LinkReady s) (hp : s.link.part = .config ∨ s.link.part = .streaming) (tag : Byte)
    {src start dir count : Byte} {points : List PointRec}
    (hl : 12 < count.toNat ∨ points.length = (if count = 0 then 12 else count.toNat)) (hdir : dir = 0x01 ∨ dir = 0xFF)
    {queryOnly : Bool} {result : Result} {payload : List Byte}
    (ha : (s.delivered 257).calRun src start dir count points queryOnly = ⟨t, result, payload⟩) :
    (Host.Outcome.next (s.hostRequest tag queryOnly (.calRun src start dir count points)) :
      Host.Outcome State Fault Refusal) =
      .next (t.answered tag queryOnly (.calRun src start dir count points) result payload) :=
  row_served (q := .calRun src start dir count points) h (decide_eq_true hl) (decide_eq_true hp) (decide_eq_true hdir) ha tag

/-- Settles O25: the checks in their order, then the outcome of the run. -/
theorem calRunTaken : Obligations.CalRunTaken := by
  refine ⟨fun s tag src start dir count points i h hp hi hstart hdir hcount hlen hgood => ?_,
    fun s tag src start dir count points h hp hl => ?_⟩
  · intro w result payload list
    have hon (queryOnly : Bool) : (s.delivered 257).calRun src start dir count points queryOnly =
        ⟨if queryOnly then s.delivered 257 else (s.delivered 257).setCal i list, result, payload⟩ := by
      rw [calRun_some hi, calRunOn_points hstart hdir hcount, firstBadPoint_none hgood]
      dsimp only
      rw [runOutcome_eq]
      rfl
    exact ⟨exec_calRun h hp tag (.inr hlen) hdir (hon false), exec_calRun h hp tag (.inr hlen) hdir (hon true)⟩
  · intro refused
    have hrefused (hdir : dir = 0x01 ∨ dir = 0xFF) (payload : List Byte)
        (ha : ∀ queryOnly, (s.delivered 257).calRun src start dir count points queryOnly =
          (s.delivered 257).refuse .badValue payload) : refused payload :=
      ⟨exec_calRun h hp tag hl hdir (ha false), exec_calRun h hp tag hl hdir (ha true)⟩
    refine ⟨fun h1 h2 => ?_, fun hdir hrange => hrefused hdir _ fun queryOnly => ?_,
      fun hdir ⟨i, hi⟩ hstart hcount k hk => hrefused hdir _ fun queryOnly => ?_⟩
    · have hbad (queryOnly : Bool) := hostRequest_unencoded h (q := .calRun src start dir count points) tag queryOnly
        (decide_eq_true hl) (decide_eq_true hp) (decide_eq_false fun hd => hd.elim h1 h2)
      exact ⟨congrArg Host.Outcome.next (hbad false), congrArg Host.Outcome.next (hbad true)⟩
    · cases hi : byteSource src with
      | none => exact calRun_none hi ..
      | some i =>
        rw [calRun_some hi]
        exact calRunOn_range hdir (hrange.resolve_left (by simp [hi])) ..
    · rw [calRun_some hi, calRunOn_points hstart hdir hcount, firstBadPoint_eq, hk]
      rfl

/-! The write pass (R53) -/

theorem getElem_set_position (l : CalList) {j : Nat} (hj : j < 12) (x : Option CalPoint) (k : Fin 12) :
    (l.set j x hj)[k] = if j = k.val then x else l[k] := by
  simp [Vector.getElem_set]

/-- What a position holds after a pass whose point record for it, if any, is the one of this index. -/
def placed (points : List PointRec) (n : Nat) (old : Option CalPoint) : Option CalPoint :=
  (points[n]?.map PointRec.point).getD old

theorem placed_zero (p : PointRec) (rest : List PointRec) (old : Option CalPoint) :
    placed (p :: rest) 0 old = PointRec.point p := rfl

theorem placed_succ (p : PointRec) (rest : List PointRec) (n : Nat) (old : Option CalPoint) :
    placed (p :: rest) (n + 1) old = placed rest n old := rfl

theorem writePass_up_cons (p : PointRec) (rest : List PointRec) {j : Nat} (hj : j < 12) (l : CalList) :
    writePass true (p :: rest) j l =
      ⟨(writePass true rest (j + 1) (l.set j (PointRec.point p) hj)).list,
        (writePass true rest (j + 1) (l.set j (PointRec.point p) hj)).count + 1⟩ := by
  rw [writePass, dif_pos hj]
  rfl

theorem writePass_down_cons (p : PointRec) (rest : List PointRec) {j : Nat} (hj : j + 1 < 12) (l : CalList) :
    writePass false (p :: rest) (j + 1) l =
      ⟨(writePass false rest j (l.set (j + 1) (PointRec.point p) hj)).list,
        (writePass false rest j (l.set (j + 1) (PointRec.point p) hj)).count + 1⟩ := by
  rw [writePass, dif_pos hj]
  rfl

/-- The write pass upward, position by position. -/
theorem writePass_up (points : List PointRec) (j : Nat) (l : CalList) (hj : j ≤ 12) :
    (writePass true points j l).count = min points.length (12 - j) ∧
    ∀ k : Fin 12, (writePass true points j l).list[k] = if j ≤ k.val then placed points (k.val - j) l[k] else l[k] := by
  induction points generalizing j l with
  | nil => simp [writePass, placed]
  | cons p rest ih =>
    by_cases h : j < 12
    · obtain ⟨hcount, hlist⟩ := ih (j + 1) (l.set j (PointRec.point p) h) (by omega)
      rw [writePass_up_cons p rest h, List.length_cons]
      refine ⟨by dsimp only; omega, fun k => ?_⟩
      dsimp only
      rw [hlist, getElem_set_position]
      rcases Nat.lt_trichotomy j k.val with hk | hk | hk
      · rw [if_pos (show j + 1 ≤ k.val by omega), if_neg (by omega), if_pos (by omega),
          show k.val - j = k.val - (j + 1) + 1 by omega, placed_succ]
      · rw [if_neg (show ¬ j + 1 ≤ k.val by omega), if_pos hk, if_pos (by omega), show k.val - j = 0 by omega, placed_zero]
      · rw [if_neg (show ¬ j + 1 ≤ k.val by omega), if_neg (by omega), if_neg (by omega)]
    · have hend : writePass true (p :: rest) j l = ⟨l, 0⟩ := by rw [writePass, dif_neg h]
      rw [hend]
      refine ⟨by simp; omega, fun k => ?_⟩
      rw [if_neg (by omega)]

/-- The write pass downward, position by position. -/
theorem writePass_down (points : List PointRec) (j : Nat) (l : CalList) (hj : j ≤ 11) :
    (writePass false points j l).count = min points.length (j + 1) ∧
    ∀ k : Fin 12, (writePass false points j l).list[k] = if k.val ≤ j then placed points (j - k.val) l[k] else l[k] := by
  induction points generalizing j l with
  | nil => simp [writePass, placed]
  | cons p rest ih =>
    cases j with
    | zero =>
      have hend : writePass false (p :: rest) 0 l = ⟨l.set 0 (PointRec.point p) (by omega), 1⟩ := by
        rw [writePass, dif_pos (by omega)]
        rfl
      rw [hend]
      refine ⟨by simp, fun k => ?_⟩
      dsimp only
      rw [getElem_set_position]
      by_cases hk : k.val = 0
      · rw [if_pos hk.symm, if_pos (by omega), Nat.zero_sub, placed_zero]
      · rw [if_neg (Ne.symm hk), if_neg (by omega)]
    | succ j =>
      obtain ⟨hcount, hlist⟩ := ih j (l.set (j + 1) (PointRec.point p) (by omega)) (by omega)
      rw [writePass_down_cons p rest (by omega), List.length_cons]
      refine ⟨by dsimp only; omega, fun k => ?_⟩
      dsimp only
      rw [hlist, getElem_set_position]
      rcases Nat.lt_trichotomy k.val (j + 1) with hk | hk | hk
      · rw [if_pos (show k.val ≤ j by omega), if_neg (by omega), if_pos (by omega),
          show j + 1 - k.val = j - k.val + 1 by omega, placed_succ]
      · rw [if_neg (show ¬ k.val ≤ j by omega), if_pos hk.symm, if_pos (by omega), show j + 1 - k.val = 0 by omega,
          placed_zero]
      · rw [if_neg (show ¬ k.val ≤ j by omega), if_neg (by omega), if_neg (by omega)]

/-! The order check (R54) -/

/-- The positions before the offender keep the order. -/
theorem firstOffender_take {l : List (Option CalPoint)} {pos q : Nat} {before : Option Nat}
    (h : firstOffender l pos before = some q) : pos ≤ q ∧ firstOffender (l.take (q - pos)) pos before = none := by
  induction l generalizing pos before with
  | nil => simp [firstOffender] at h
  | cons x rest ih =>
    have hstep (before' : Option Nat) (hrest : firstOffender rest (pos + 1) before' = some q) :
        pos ≤ q ∧ q - pos = q - (pos + 1) + 1 ∧ firstOffender (rest.take (q - (pos + 1))) (pos + 1) before' = none := by
      obtain ⟨hle, hnone⟩ := ih hrest
      exact ⟨by omega, by omega, hnone⟩
    cases x with
    | none =>
      obtain ⟨hle, hsucc, hnone⟩ := hstep before (by simpa [firstOffender] using h)
      rw [hsucc, List.take_succ_cons]
      exact ⟨hle, by simpa [firstOffender] using hnone⟩
    | some p => cases before with
      | none =>
        obtain ⟨hle, hsucc, hnone⟩ := hstep (some p.focus) (by simpa [firstOffender] using h)
        rw [hsucc, List.take_succ_cons]
        exact ⟨hle, by simpa [firstOffender] using hnone⟩
      | some f =>
        by_cases hp : p.focus ≤ f
        · have hq : pos = q := by simpa [firstOffender, hp] using h
          subst hq
          simp [firstOffender]
        · obtain ⟨hle, hsucc, hnone⟩ := hstep (some p.focus) (by simpa [firstOffender, hp] using h)
          rw [hsucc, List.take_succ_cons]
          exact ⟨hle, by simpa [firstOffender, hp] using hnone⟩

/-- The nearest point of a stretch of positions, read from its end, has this focus code. -/
def NearestHas (pre : List (Option CalPoint)) (f : Nat) : Prop :=
  ∃ k a, pre[k]? = some (some a) ∧ a.focus = f ∧ ∀ m, k < m → m < pre.length → pre[m]? = some none

theorem NearestHas.append_none {pre : List (Option CalPoint)} {f : Nat} (h : NearestHas pre f) :
    NearestHas (pre ++ [none]) f := by
  obtain ⟨k, a, hk, hf, hgap⟩ := h
  have hlt : k < pre.length := (List.getElem?_eq_some_iff.mp hk).1
  refine ⟨k, a, by rw [List.getElem?_append_left hlt, hk], hf, fun m hm hlen => ?_⟩
  rcases Nat.lt_or_ge m pre.length with hmp | hmp
  · rw [List.getElem?_append_left hmp]
    exact hgap m hm hmp
  · have hlast : m = pre.length := by simp at hlen; omega
    simp [hlast]

theorem nearestHas_append_some (pre : List (Option CalPoint)) (p : CalPoint) : NearestHas (pre ++ [some p]) p.focus :=
  ⟨pre.length, p, by simp, rfl, fun m hm hlen => by simp at hlen; omega⟩

/-- The offender's focus code is not above that of the nearest point before it. -/
theorem firstOffender_some {rest pre : List (Option CalPoint)} {q : Nat} {before : Option Nat}
    (hpre : ∀ f, before = some f → NearestHas pre f) (h : firstOffender rest pre.length before = some q) :
    ∃ b, (pre ++ rest)[q]? = some (some b) ∧ ∃ k a, k < q ∧ (pre ++ rest)[k]? = some (some a) ∧ b.focus ≤ a.focus ∧
      ∀ m, k < m → m < q → (pre ++ rest)[m]? = some none := by
  induction rest generalizing pre before with
  | nil => simp [firstOffender] at h
  | cons x rest ih =>
    have hstep (before' : Option Nat) (hnear : ∀ f, before' = some f → NearestHas (pre ++ [x]) f)
        (hrest : firstOffender rest (pre.length + 1) before' = some q) :=
      ih (pre := pre ++ [x]) hnear (by rw [List.length_append]; exact hrest)
    simp only [List.append_assoc, List.singleton_append] at hstep
    cases x with
    | none => exact hstep before (fun f hf => (hpre f hf).append_none) (by simpa [firstOffender] using h)
    | some p =>
      have hnear (f : Nat) (hf : some p.focus = some f) : NearestHas (pre ++ [some p]) f :=
        Option.some.inj hf ▸ nearestHas_append_some pre p
      cases before with
      | none => exact hstep (some p.focus) hnear (by simpa [firstOffender] using h)
      | some f =>
        by_cases hp : p.focus ≤ f
        · have hq : pre.length = q := by simpa [firstOffender, hp] using h
          obtain ⟨k, a, hk, hf, hgap⟩ := hpre f rfl
          have hlt : k < pre.length := (List.getElem?_eq_some_iff.mp hk).1
          refine ⟨p, by simp [← hq], k, a, by omega, by rw [List.getElem?_append_left hlt, hk], by omega, fun m hkm hmq => ?_⟩
          rw [List.getElem?_append_left (by omega)]
          exact hgap m hkm (by omega)
        · exact hstep (some p.focus) hnear (by simpa [firstOffender, hp] using h)

theorem getElem?_toList {l : CalList} {k : Nat} {x : Option CalPoint} (h : l.toList[k]? = some x) :
    ∃ hk : k < 12, l[k] = x := by
  obtain ⟨hk, hx⟩ := List.getElem?_eq_some_iff.mp h
  exact ⟨by simpa using hk, by simpa using hx⟩

/-- Settles O26: the two directions of the pass position by position, and the first offender of the order. -/
theorem writePassAndOrderCheck : Obligations.WritePassAndOrderCheck := by
  refine ⟨fun points j l hj => ?_, fun l => ⟨orderCheck_eq_none_iff l, fun p hp => ?_⟩⟩
  · obtain ⟨hupCount, hup⟩ := writePass_up points j l (by omega)
    obtain ⟨hdownCount, hdown⟩ := writePass_down points j l hj
    exact ⟨hupCount, hdownCount, fun k => ⟨hup k, hdown k⟩⟩
  · obtain ⟨-, htake⟩ := firstOffender_take hp
    obtain ⟨b, hb, k, a, hkp, ha, hle, hgap⟩ := firstOffender_some (pre := []) (by simp) hp
    obtain ⟨hp12, hbl⟩ := getElem?_toList hb
    obtain ⟨hk12, hal⟩ := getElem?_toList ha
    refine ⟨hp12, b, hbl, ⟨k, hkp, a, hal, hle, fun m hmp hkm => ?_⟩, ?_⟩
    · obtain ⟨_, hm⟩ := getElem?_toList (hgap m hkm hmp)
      exact hm
    · exact (firstOffender_eq_none_iff ..).mp htake

end Sys2Proof.Machine
end

section
/-! THEOREM. The arithmetic of a crop window (R58 to R63). -/

namespace Sys2Proof.Machine

/-! One axis of the window (R61) -/

theorem clampStart_inside {size len : Nat} {start : Int} (h0 : 0 ≤ start) (h1 : start ≤ (size : Int) - len) :
    (clampStart size len start : Int) = start - start % 2 := by
  unfold clampStart evenDown
  omega

theorem clampStart_below {size len : Nat} {start : Int} (h : start < 0) : clampStart size len start = 0 := by
  unfold clampStart evenDown
  omega

theorem clampStart_above {size len : Nat} {start : Int} (hlen : len ≤ size) (h : (size : Int) - len < start) :
    clampStart size len start = size - len - (size - len) % 2 := by
  unfold clampStart evenDown
  omega

theorem clampMoves_iff {size len : Nat} (hlen : len ≤ size) (start : Int) :
    clampMoves size len start = true ↔ start < 0 ∨ (size : Int) - len < start := by
  unfold clampMoves
  simp only [decide_eq_true_eq]
  omega

theorem idealStart_eq (size len : Nat) (d : Int) : idealStart size len d = size / 2 - d - len / 2 := by
  simp [idealStart]

/-! The size of the window (R59) -/

theorem cropWidth_eq {w : Nat} (hw : w % 16 = 0) (b z : Nat) :
    cropWidth w b z = if w < w * b / z then w else w * b / z - w * b / z % 2 := by
  unfold cropWidth evenDown rawCropWidth
  split_ifs <;> omega

/-- The crop window from its starts before the clamp. -/
theorem cropWindow_eq (w b z : Nat) (o : Offsets) : cropWindow w b z o =
    { rect := ⟨clampStart w (cropWidth w b z) (w / 2 - displacement o.ox w b - (cropWidth w b z) / 2),
        clampStart (w * 9 / 16) (cropHeight (cropWidth w b z))
          ((w * 9 / 16 : Nat) / 2 - displacement o.oy w b - (cropHeight (cropWidth w b z)) / 2),
        cropWidth w b z, cropHeight (cropWidth w b z)⟩
      short := decide (w < w * b / z)
      edge := clampMoves w (cropWidth w b z) (w / 2 - displacement o.ox w b - (cropWidth w b z) / 2) ||
        clampMoves (w * 9 / 16) (cropHeight (cropWidth w b z))
          ((w * 9 / 16 : Nat) / 2 - displacement o.oy w b - (cropHeight (cropWidth w b z)) / 2) } := by
  simp only [← idealStart_eq]
  rfl

/-- Settles O29, axis by axis; a displacement is one rounding. -/
theorem cropWindowArithmetic : Obligations.CropWindowArithmetic := by
  refine ⟨fun w b z o hw hz => ?_, fun s i width focus => rfl, fun o w b => ?_⟩
  · have hwidth : cropWidth w b z ≤ w := cropWidth_le w b z
    have hheight : cropHeight (cropWidth w b z) ≤ w * 9 / 16 := cropHeight_le hwidth
    rw [cropWindow_eq]
    intro c h x y
    refine ⟨cropWidth_eq hw b z, rfl, by simp [c], ?_, clampStart_inside, clampStart_below, clampStart_above hwidth,
      clampStart_inside, clampStart_below, clampStart_above hheight⟩
    show (clampMoves w _ x || clampMoves h _ y) = true ↔ _
    rw [Bool.or_eq_true, clampMoves_iff hwidth, clampMoves_iff hheight, or_assoc]
  · obtain ⟨above, below, tieUp, tieDown⟩ := roundDiv_isNearest (o * ((w * b : Nat) : Int)) (d := 2 ^ 24) (by decide)
    exact ⟨above, below, tieUp, tieDown⟩

end Sys2Proof.Machine
end

section
/-! THEOREM. The arithmetic of matching and of the blend (R99, R120 to R123). -/

namespace Sys2Proof.Machine

/-! A move toward a value, truncated toward zero -/

theorem towards_eq {num den : Nat} (h : num ≤ den) (g t : Nat) :
    ((towards g t num den : Nat) : Int) = g + Int.tdiv (((t : Int) - g) * num) den := by
  unfold towards
  split_ifs with hle
  · rw [← Int.ofNat_sub hle, ← Int.natCast_mul, ← Int.ofNat_tdiv]
    exact Int.natCast_add ..
  · have hpart : (g - t) * num / den ≤ g :=
      (Nat.div_le_of_le_mul ((Nat.mul_le_mul_left _ h).trans_eq (Nat.mul_comm ..))).trans (Nat.sub_le ..)
    have hneg : ((t : Int) - g) * num = -(((g - t) * num : Nat) : Int) := by
      rw [Int.natCast_mul, Int.ofNat_sub (by omega), ← Int.neg_mul, Int.neg_sub]
    rw [hneg, Int.neg_tdiv, ← Int.ofNat_tdiv, Int.ofNat_sub hpart, Int.sub_eq_add_neg]

theorem towards_between {num den : Nat} (h : num ≤ den) (g t : Nat) :
    min g t ≤ towards g t num den ∧ towards g t num den ≤ max g t := by
  have hpart (a : Nat) : a * num / den ≤ a :=
    Nat.div_le_of_le_mul ((Nat.mul_le_mul_left _ h).trans_eq (Nat.mul_comm ..))
  unfold towards
  split_ifs with hle
  · have hmove := hpart (t - g)
    generalize (t - g) * num / den = move at *
    rw [min_eq_left hle, max_eq_right hle]
    omega
  · have hmove := hpart (g - t)
    generalize (g - t) * num / den = move at *
    rw [min_eq_right (by omega), max_eq_left (by omega)]
    omega

theorem rawRatio_eq (o n : Nat) : rawRatio o n = if n = 0 then 2048 else max 512 (min 2048 (o * 1024 / n)) := by
  have hclamp : clamp (o * 1024 / n) 512 2048 = max 512 (min 2048 (o * 1024 / n)) := by
    unfold clamp
    split_ifs <;> omega
  rw [rawRatio, ratioQuotient, hclamp]

theorem ratioClamped_iff (o n : Nat) :
    ratioClamped o n = true ↔ n = 0 ∨ o * 1024 / n < 512 ∨ 2048 < o * 1024 / n := decide_eq_true_iff

theorem distance_le_iff (a b tolerance : Nat) : distance a b ≤ tolerance ↔ |(a : Int) - b| ≤ tolerance := by
  rw [abs_le]
  unfold distance
  omega

/-- The incoming weight lies within 7 and 255. -/
theorem weight_between {r : Transition} (h1 : 1 ≤ r.index) (hn : r.index ≤ r.n) (h32 : r.n ≤ 32) :
    7 ≤ r.weight ∧ r.weight ≤ 255 := by
  unfold Transition.weight
  constructor
  · exact (Nat.le_div_iff_mul_le (by omega)).mpr (by omega)
  · exact Nat.le_of_lt_succ ((Nat.div_lt_iff_lt_mul (by omega)).mpr (by omega))

theorem blendGain_eq {i n : Nat} (h : i ≤ n) (g : Nat) :
    ((towards g 1024 i (n + 1) : Nat) : Int) = g + Int.tdiv ((1024 - (g : Int)) * i) (n + 1) := by
  rw [towards_eq (by omega)]
  rfl

/-- Settles O34: every move is one truncated quotient. -/
theorem matchAndBlendArithmetic : Obligations.MatchAndBlendArithmetic := by
  refine ⟨⟨fun o n => ⟨rawRatio_eq o n, ratioClamped_iff o n⟩, fun g raw => ?_, fun g raw hg1 hg2 hr1 hr2 => ?_,
    fun r o n startO startN tolerance => ?_⟩, fun r h1 hn h32 => ?_⟩
  · have h := towards_eq (num := 1) (den := 4) (by decide) g raw
    rwa [Nat.cast_one, Int.mul_one] at h
  · exact gainMove_lawful ⟨hg1, hg2⟩ ⟨hr1, hr2⟩
  · refine ⟨rfl, ?_, ?_, rfl, rfl, rfl, rfl⟩
    · show (if (r.gains.update o n).close o n tolerance then _ else _) = _
      refine if_congr ?_ rfl rfl
      simp only [Gains.close, decide_eq_true_eq, distance_le_iff]
      rfl
    · simp only [Transition.matchUpdate, anyClamped, Bool.or_assoc]
  · obtain ⟨hlow, hhigh⟩ := weight_between h1 hn h32
    obtain ⟨hmin, hmax⟩ := towards_between (num := r.index) (den := r.n + 1) (by omega) r.gains.r 1024
    exact ⟨rfl, hlow, hhigh, blendGain_eq hn _, blendGain_eq hn _, blendGain_eq hn _, hmin, hmax⟩

end Sys2Proof.Machine
end

section
/-! THEOREM. LADDER_SET and the checks of a ladder (R69 to R72). -/

namespace Sys2Proof.Machine

variable {s t : State} {i : Src}

/-! One rung above the rungs already checked (R70) -/

/-- What a rung record must be to give this rung above that one (R70, R71). -/
def RungOver (s : State) (below : Option Rung) (r : RungRec) (g : Rung) : Prop :=
  byteSource r.source = some g.source ∧ (s.source g.source).defined = true ∧
  match below with
  | none => g.wu = 0 ∧ g.u = 0 ∧ g.d = 0 ∧ g.wd = 0
  | some b => g.wu = r.wu.toNat ∧ g.u = r.u.toNat ∧ g.d = r.d.toNat ∧ g.wd = r.wd.toNat ∧
      (s.source b.source).base < (s.source g.source).base ∧ (s.source b.source).zcap ≤ (s.source g.source).zcap ∧
      (s.source g.source).base < g.d ∧ g.d < g.u ∧ g.u ≤ (s.source b.source).zcap ∧
      (s.source b.source).base ≤ g.wu ∧ g.wu ≤ g.u ∧ g.d ≤ g.wd ∧ g.wd ≤ (s.source g.source).zcap

theorem checkRung_none {r : RungRec} (h : byteSource r.source = none) (lower : Ladder) (s : State) :
    s.checkRung lower r = .error 2 := by
  rw [State.checkRung, h]

theorem checkRung_some {r : RungRec} (h : byteSource r.source = some i) (lower : Ladder) (s : State) :
    s.checkRung lower r =
      if ∃ q ∈ lower, q.source = i then .error 3
      else if (s.source i).defined = false then .error 4
      else match lower.getLast? with
        | none => .ok ⟨i, 0, 0, 0, 0⟩
        | some below => match failedPointCheck (s.source below.source) (s.source i) r with
          | some k => .error k
          | none => .ok ⟨i, r.wu.toNat, r.u.toNat, r.d.toNat, r.wd.toNat⟩ := by
  rw [State.checkRung, h]
  refine if_congr ?_ rfl rfl
  simp

/-- The points of a rung against the rung below, by the first check that fails. -/
theorem failedPointCheck_eq (a b : Source) (r : RungRec) : failedPointCheck a b r =
    ([decide (a.base < b.base), decide (a.zcap ≤ b.zcap),
      decide (b.base < r.d.toNat ∧ r.d.toNat < r.u.toNat ∧ r.u.toNat ≤ a.zcap),
      decide (a.base ≤ r.wu.toNat ∧ r.wu.toNat ≤ r.u.toNat),
      decide (r.d.toNat ≤ r.wd.toNat ∧ r.wd.toNat ≤ b.zcap)].findIdx? not).map (· + 5) := by
  simp only [failedPointCheck, findIdx_not_cons, List.findIdx?_nil]
  grind

theorem failedPointCheck_none (a b : Source) (r : RungRec) : failedPointCheck a b r = none ↔
    a.base < b.base ∧ a.zcap ≤ b.zcap ∧ (b.base < r.d.toNat ∧ r.d.toNat < r.u.toNat ∧ r.u.toNat ≤ a.zcap) ∧
      (a.base ≤ r.wu.toNat ∧ r.wu.toNat ≤ r.u.toNat) ∧ r.d.toNat ≤ r.wd.toNat ∧ r.wd.toNat ≤ b.zcap := by
  rw [failedPointCheck_eq, Option.map_eq_none_iff, List.findIdx?_eq_none_iff]
  simp

/-- A rung passes exactly if its source is new and the record meets the checks above the last rung. -/
theorem checkRung_ok_iff (s : State) (lower : Ladder) (r : RungRec) (g : Rung) :
    s.checkRung lower r = .ok g ↔ (∀ q ∈ lower, q.source ≠ g.source) ∧ RungOver s lower.getLast? r g := by
  cases hi : byteSource r.source with
  | none => simp [checkRung_none hi, RungOver, hi]
  | some i =>
    obtain ⟨source, wu, u, d, wd⟩ := g
    rw [checkRung_some hi]
    by_cases hnew : ∃ q ∈ lower, q.source = i
    · obtain ⟨q, hq, hqi⟩ := hnew
      rw [if_pos ⟨q, hq, hqi⟩]
      simp only [reduceCtorEq, false_iff, RungOver, hi]
      rintro ⟨hall, hsource, -⟩
      exact hall q hq (hqi.trans (Option.some.inj hsource))
    have hother : ∀ q ∈ lower, q.source ≠ i := fun q hq h => hnew ⟨q, hq, h⟩
    rw [if_neg hnew]
    cases hd : (s.source i).defined with
    | false =>
      simp only [if_pos, reduceCtorEq, false_iff, RungOver, hi]
      rintro ⟨-, hsource, hdefined, -⟩
      cases Option.some.inj hsource
      simp [hd] at hdefined
    | true =>
      rw [if_neg (by decide)]
      cases hlast : lower.getLast? with
      | none =>
        simp only [Except.ok.injEq, Rung.mk.injEq, RungOver, hi, Option.some.injEq]
        constructor
        · rintro ⟨rfl, rfl, rfl, rfl, rfl⟩
          exact ⟨hother, rfl, hd, rfl, rfl, rfl, rfl⟩
        · rintro ⟨-, rfl, -, rfl, rfl, rfl, rfl⟩
          exact ⟨rfl, rfl, rfl, rfl, rfl⟩
      | some below =>
        simp only []
        cases hpoints : failedPointCheck (s.source below.source) (s.source i) r with
        | none =>
          obtain ⟨h5, h6, ⟨h7, h7', h7''⟩, ⟨h8, h8'⟩, h9, h9'⟩ := (failedPointCheck_none ..).mp hpoints
          simp only [Except.ok.injEq, Rung.mk.injEq, RungOver, hi, Option.some.injEq]
          constructor
          · rintro ⟨rfl, rfl, rfl, rfl, rfl⟩
            exact ⟨hother, rfl, hd, rfl, rfl, rfl, rfl, h5, h6, h7, h7', h7'', h8, h8', h9, h9'⟩
          · rintro ⟨-, rfl, -, rfl, rfl, rfl, rfl, -⟩
            exact ⟨rfl, rfl, rfl, rfl, rfl⟩
        | some k =>
          simp only [reduceCtorEq, false_iff, RungOver, hi, Option.some.injEq]
          rintro ⟨-, rfl, -, rfl, rfl, rfl, rfl, h5, h6, h7, h7', h7'', h8, h8', h9, h9'⟩
          have hnone := (failedPointCheck_none ..).mpr ⟨h5, h6, ⟨h7, h7', h7''⟩, ⟨h8, h8'⟩, h9, h9'⟩
          simp [hpoints] at hnone

/-! The rungs in order -/

theorem checkRungs_append {pre : List RungRec} {lower l : Ladder} (h : s.checkRungs pre lower = .ok l) (rest : List RungRec) :
    s.checkRungs (pre ++ rest) lower = s.checkRungs rest l := by
  induction pre generalizing lower with
  | nil =>
    cases h
    rfl
  | cons r pre ih =>
    cases hr : s.checkRung lower r with
    | error c => simp only [State.checkRungs, hr, reduceCtorEq] at h
    | ok g =>
      simp only [State.checkRungs, List.cons_append, hr] at h ⊢
      exact ih h

theorem checkRungs_length {pre : List RungRec} {lower l : Ladder} (h : s.checkRungs pre lower = .ok l) :
    l.length = lower.length + pre.length := by
  induction pre generalizing lower with
  | nil =>
    cases h
    rfl
  | cons r pre ih =>
    cases hr : s.checkRung lower r with
    | error c => simp only [State.checkRungs, hr, reduceCtorEq] at h
    | ok g =>
      simp only [State.checkRungs, hr] at h
      rw [ih h]
      simp [Nat.add_assoc, Nat.add_comm 1]

theorem checkRungs_fails {l : Ladder} {r : RungRec} {c : Nat} (h : s.checkRung l r = .error c) (post : List RungRec) :
    s.checkRungs (r :: post) l = .error (l.length, c) := by
  rw [State.checkRungs, h]

theorem checkRungs_singleton (s : State) (l : Ladder) (r : RungRec) (l' : Ladder) :
    s.checkRungs [r] l = .ok l' ↔ ∃ g, s.checkRung l r = .ok g ∧ l' = l ++ [g] := by
  rw [State.checkRungs]
  cases s.checkRung l r with
  | error c => simp
  | ok g =>
    simp only [State.checkRungs, Except.ok.injEq, exists_eq_left']
    exact eq_comm

/-- The rungs before one that passed have passed. -/
theorem checkRungs_concat (s : State) (pre : List RungRec) (r : RungRec) (lower l : Ladder) :
    s.checkRungs (pre ++ [r]) lower = .ok l ↔
      ∃ l₀ g, s.checkRungs pre lower = .ok l₀ ∧ s.checkRung l₀ r = .ok g ∧ l = l₀ ++ [g] := by
  cases h : s.checkRungs pre lower with
  | ok l₀ =>
    rw [checkRungs_append h, checkRungs_singleton]
    simp
  | error e =>
    simp only [reduceCtorEq, false_and, exists_false, iff_false]
    induction pre generalizing lower with
    | nil => cases h
    | cons q pre ih =>
      cases hq : s.checkRung lower q with
      | error c => simp [State.checkRungs, hq]
      | ok g =>
        simp only [State.checkRungs, List.cons_append, hq] at h ⊢
        exact ih _ h

/-- The rungs of a ladder are those of its records, each over the rung below it. -/
def LadderOf (s : State) (rungs : List RungRec) (l : Ladder) : Prop :=
  l.length = rungs.length ∧ (l.map Rung.source).Nodup ∧
    ∀ (k : Nat) (r : RungRec) (g : Rung), rungs[k]? = some r → l[k]? = some g → RungOver s (l.take k).getLast? r g

theorem ladderOf_concat (s : State) (pre : List RungRec) (r : RungRec) (l : Ladder) (g : Rung) :
    LadderOf s (pre ++ [r]) (l ++ [g]) ↔
      LadderOf s pre l ∧ (∀ q ∈ l, q.source ≠ g.source) ∧ RungOver s l.getLast? r g := by
  have hnodup : ((l ++ [g]).map Rung.source).Nodup ↔ (l.map Rung.source).Nodup ∧ ∀ q ∈ l, q.source ≠ g.source := by
    simp [List.nodup_append]
  simp only [LadderOf, hnodup, List.length_append, List.length_singleton, Nat.add_right_cancel_iff]
  constructor
  · rintro ⟨hlen, ⟨hl, hnew⟩, hover⟩
    refine ⟨⟨hlen, hl, fun k q g' hq hg => ?_⟩, hnew, ?_⟩
    · have hk : k < l.length := (List.getElem?_eq_some_iff.mp hg).1
      have hover := hover k q g' (by rw [List.getElem?_append_left (by omega), hq])
        (by rw [List.getElem?_append_left hk, hg])
      rwa [List.take_append_of_le_length (by omega)] at hover
    · have hover := hover l.length r g (by rw [hlen, List.getElem?_concat_length]) List.getElem?_concat_length
      rwa [List.take_left] at hover
  · rintro ⟨⟨hlen, hl, hover⟩, hnew, hlast⟩
    refine ⟨hlen, ⟨hl, hnew⟩, fun k q g' hq hg => ?_⟩
    obtain hk | rfl | hk := Nat.lt_trichotomy k l.length
    · rw [List.getElem?_append_left (by omega)] at hq
      rw [List.getElem?_append_left hk] at hg
      rw [List.take_append_of_le_length (by omega)]
      exact hover k q g' hq hg
    · rw [List.getElem?_concat_length] at hg
      rw [hlen, List.getElem?_concat_length] at hq
      cases hq
      cases hg
      rwa [List.take_left]
    · rw [List.getElem?_eq_none (by simp; omega)] at hg
      cases hg

theorem checkRungs_ok_iff (s : State) (rungs : List RungRec) (l : Ladder) :
    s.checkRungs rungs [] = .ok l ↔ LadderOf s rungs l := by
  induction rungs using List.reverseRecOn generalizing l with
  | nil =>
    cases l <;> simp [State.checkRungs, LadderOf]
  | append_singleton pre r ih =>
    rw [checkRungs_concat]
    constructor
    · rintro ⟨l₀, g, hpre, hr, rfl⟩
      obtain ⟨hnew, hover⟩ := (checkRung_ok_iff ..).mp hr
      exact (ladderOf_concat ..).mpr ⟨(ih l₀).mp hpre, hnew, hover⟩
    · intro h
      obtain rfl | ⟨l₀, g, rfl⟩ := List.eq_nil_or_concat' l
      · simp [LadderOf] at h
      · obtain ⟨hpre, hnew, hover⟩ := (ladderOf_concat ..).mp h
        exact ⟨l₀, g, (ih l₀).mpr hpre, (checkRung_ok_iff ..).mpr ⟨hnew, hover⟩, rfl⟩

theorem ladderOf_iff (s : State) (rungs : List RungRec) (l : Ladder) : LadderOf s rungs l ↔
    l.length = rungs.length ∧ (l.map Rung.source).Nodup ∧
    ∀ (k : Nat) (r : RungRec) (g : Rung), rungs[k]? = some r → l[k]? = some g →
      byteSource r.source = some g.source ∧ (s.source g.source).defined = true ∧
      (k = 0 → g.wu = 0 ∧ g.u = 0 ∧ g.d = 0 ∧ g.wd = 0) ∧
      ∀ (j : Nat) (below : Rung), k = j + 1 → l[j]? = some below →
        g.wu = r.wu.toNat ∧ g.u = r.u.toNat ∧ g.d = r.d.toNat ∧ g.wd = r.wd.toNat ∧
        (s.source below.source).base < (s.source g.source).base ∧
        (s.source below.source).zcap ≤ (s.source g.source).zcap ∧
        (s.source g.source).base < g.d ∧ g.d < g.u ∧ g.u ≤ (s.source below.source).zcap ∧
        (s.source below.source).base ≤ g.wu ∧ g.wu ≤ g.u ∧ g.d ≤ g.wd ∧ g.wd ≤ (s.source g.source).zcap := by
  refine and_congr_right fun _ => and_congr_right fun _ => forall_congr' fun k => forall_congr' fun r =>
    forall_congr' fun g => imp_congr_right fun _ => imp_congr_right fun hg =>
    and_congr_right fun _ => and_congr_right fun _ => ?_
  cases k with
  | zero => simp
  | succ j =>
    have hj : j < l.length := Nat.lt_of_succ_lt (List.getElem?_eq_some_iff.mp hg).1
    have hbelow : l[j]? = some l[j] := List.getElem?_eq_getElem hj
    have hlast : (l.take (j + 1)).getLast? = some l[j] := by simp [List.getLast?_take, hbelow]
    rw [hlast]
    refine ⟨fun hover => ⟨nofun, fun j' below hj' hb => ?_⟩, fun ⟨_, hover⟩ => hover j l[j] rfl hbelow⟩
    cases hj'
    cases hbelow.symm.trans hb
    exact hover

/-! The request (R70 to R72) -/

theorem checkRung_congr {u : State} (h : u.sources = s.sources) (lower : Ladder) (r : RungRec) :
    u.checkRung lower r = s.checkRung lower r := by
  simp only [State.checkRung, source_congr s u h]

theorem checkRungs_congr {u : State} (h : u.sources = s.sources) (rungs : List RungRec) (lower : Ladder) :
    u.checkRungs rungs lower = s.checkRungs rungs lower := by
  induction rungs generalizing lower with
  | nil => rfl
  | cons r rest ih => simp only [State.checkRungs, checkRung_congr h, ih]

theorem ladderSet_range {count : Byte} (h : count.toNat < 1 ∨ 4 < count.toNat) (rungs : List RungRec) (queryOnly : Bool)
    (s : State) : s.ladderSet count rungs queryOnly = s.refuse .badValue [0xFF, 1] := by
  rw [State.ladderSet, if_pos h]

theorem ladderSet_error {count : Byte} (h : ¬ (count.toNat < 1 ∨ 4 < count.toNat)) {rungs : List RungRec} {k c : Nat}
    (he : s.checkRungs rungs [] = .error (k, c)) (queryOnly : Bool) :
    s.ladderSet count rungs queryOnly = s.refuse .badValue [u8 k, u8 c] := by
  rw [State.ladderSet, if_neg h, he]

theorem ladderSet_ok {count : Byte} (h : ¬ (count.toNat < 1 ∨ 4 < count.toNat)) {rungs : List RungRec} {l : Ladder}
    (hl : s.checkRungs rungs [] = .ok l) (queryOnly : Bool) :
    s.ladderSet count rungs queryOnly = ⟨if queryOnly then s else s.takeLadder l, .ok, s.ladderBytes l⟩ := by
  rw [State.ladderSet, if_neg h, hl]

/-- LADDER_SET, with or without QUERY_ONLY, by the answer of its owner. -/
theorem exec_ladderSet (h : LinkReady s) (hp : s.link.part = .config) (tag : Byte) {count : Byte} {rungs : List RungRec}
    (hlen : count.toNat < 1 ∨ 4 < count.toNat ∨ rungs.length = count.toNat) {queryOnly : Bool} {result : Result}
    {payload : List Byte} (ha : (s.delivered 257).ladderSet count rungs queryOnly = ⟨t, result, payload⟩) :
    (Host.Outcome.next (s.hostRequest tag queryOnly (.ladderSet count rungs)) : Host.Outcome State Fault Refusal) =
      .next (t.answered tag queryOnly (.ladderSet count rungs) result payload) :=
  row_served (q := .ladderSet count rungs) h (decide_eq_true hlen) (decide_eq_true hp) rfl ha tag

/-- A rung that fails above rungs that pass is named with its check. -/
theorem checkRungs_names {pre : List RungRec} {r : RungRec} {l : Ladder} {c : Nat} (hpre : s.checkRungs pre [] = .ok l)
    (hr : s.checkRung l r = .error c) (post : List RungRec) :
    s.checkRungs (pre ++ r :: post) [] = .error (pre.length, c) := by
  have hlen := checkRungs_length hpre
  rw [checkRungs_append hpre, checkRungs_fails hr, hlen, List.length_nil, Nat.zero_add]

/-- Settles O31: the owner's answer by the count and by the outcome of the checks; the checks themselves rung by rung. -/
theorem ladderSetTaken : Obligations.LadderSetTaken := by
  refine ⟨fun s tag count rungs h hp hlen h1 h4 => ?_, fun s tag count rungs h hp hrange => ?_,
    fun s pre post r l hpre => ?_, fun s rungs l => (checkRungs_ok_iff s rungs l).trans (ladderOf_iff s rungs l)⟩
  · have hin : ¬ (count.toNat < 1 ∨ 4 < count.toNat) := by omega
    have hchecks : (s.delivered 257).checkRungs rungs [] = s.checkRungs rungs [] := checkRungs_congr (by simp) ..
    refine ⟨fun l t lo hi hl hlo hhi ht => ?_, fun k c he => ?_⟩
    · subst hlo hhi ht
      exact ⟨exec_ladderSet h hp tag (.inr (.inr hlen)) (ladderSet_ok hin (hchecks.trans hl) false),
        exec_ladderSet h hp tag (.inr (.inr hlen)) (ladderSet_ok hin (hchecks.trans hl) true)⟩
    · exact ⟨exec_ladderSet h hp tag (.inr (.inr hlen)) (ladderSet_error hin (hchecks.trans he) false),
        exec_ladderSet h hp tag (.inr (.inr hlen)) (ladderSet_error hin (hchecks.trans he) true)⟩
  · have hout : count.toNat < 1 ∨ 4 < count.toNat := hrange.imp_left fun h0 => by simp [h0]
    have hlen : count.toNat < 1 ∨ 4 < count.toNat ∨ rungs.length = count.toNat := by omega
    exact ⟨exec_ladderSet h hp tag hlen (ladderSet_range hout rungs false _),
      exec_ladderSet h hp tag hlen (ladderSet_range hout rungs true _)⟩
  · refine ⟨fun hr => checkRungs_names hpre (checkRung_none hr l s) post, fun i hi => ⟨fun hnamed => ?_,
      fun hnew hd => ?_, fun hnew hd below hlast k hk => ?_⟩⟩ <;>
      refine checkRungs_names hpre ?_ post <;> rw [checkRung_some hi]
    · rw [if_pos hnamed]
    · rw [if_neg (fun ⟨g, hg, hgi⟩ => hnew g hg hgi), if_pos hd]
    · have hfails : failedPointCheck (s.source below.source) (s.source i) r = some (k + 5) := by
        rw [failedPointCheck_eq, hk, Option.map_some]
      rw [if_neg (fun ⟨g, hg, hgi⟩ => hnew g hg hgi), if_neg (by simp [hd]), hlast]
      simp only [hfails]

end Sys2Proof.Machine
end

section
/-! THEOREM. ZOOM_SET and PIN_SOURCE (R75, R83, R84, R94), and stages 1 and 2 of a zoom step (R77 to R79, R86). -/

namespace Sys2Proof.Machine

variable {s t : State} {i p : Src} {r : Transition}

/-! ZOOM_SET (R75) -/

theorem zoomSetShown_eq (s : State) (n : Nat) : s.zoomSetShown n =
    if s.link.part = .config ∧ s.zc.ladder ≠ none then s.storedTarget n else s.zc.shown :=
  if_congr (by rw [Option.isSome_iff_ne_none]) rfl rfl

theorem storedTarget_eq (s : State) (n : Nat) : s.storedTarget n =
    match s.zc.ladder with
    | none => n
    | some l => if n < s.zmin l then s.zmin l else if s.zmax l < n then s.zmax l else n := by
  rw [State.storedTarget]
  cases s.zc.ladder <;> rfl

theorem zoomSet_taken {target : Half} (h : target ≠ 0) (rate : Half) (s : State) : s.zoomSet target rate =
    ⟨{ s with zc := { s.zc with
        target := s.storedTarget target.toNat
        shown := if s.link.part = .config ∧ s.zc.ladder ≠ none then s.storedTarget target.toNat else s.zc.shown
        rate := rate.toNat } }, .ok, u16 (s.storedTarget target.toNat) ++ be16 rate⟩ := by
  rw [State.zoomSet, if_neg h, zoomSetShown_eq]

theorem exec_zoomSet (h : LinkReady s) (hp : s.link.part = .config ∨ s.link.part = .streaming) (tag : Byte)
    {target rate : Half} {result : Result} {payload : List Byte}
    (ha : (s.delivered 257).zoomSet target rate = ⟨t, result, payload⟩) :
    exec (.zoomSet tag target rate) s = .next (t.answered tag false (.zoomSet target rate) result payload) :=
  row_served (q := .zoomSet target rate) h rfl (decide_eq_true hp) rfl ha tag

/-! PIN_SOURCE (R83, R84) -/

theorem pinOn_running (hp : s.link.part = .streaming) (hsub : s.cp.sub = .running) : s.pinOn = s.pinRunning :=
  if_pos ⟨hp, hsub⟩

theorem pinOn_elsewhere (h : ¬ (s.link.part = .streaming ∧ s.cp.sub = .running)) : s.pinOn = s.refuse .wrongState [] :=
  if_neg h

theorem pinRunning_alone (h : s.zc.record = none) :
    s.pinRunning = ⟨s.setPinned true, .ok, [sourceByte s.knownPrimary]⟩ := by
  rw [State.pinRunning, h]

theorem pinRunning_blending (h : s.zc.record = some r) (hb : r.phase = .blending) :
    s.pinRunning = ⟨s.setPinned true, .ok, [0xFE]⟩ := by
  rw [State.pinRunning, h]
  exact if_pos hb

theorem pinRunning_removes (h : s.zc.record = some r) (hb : r.phase ≠ .blending) (hpin : s.zc.pinned = false) :
    s.pinRunning = ⟨s.removeRecord.setPinned true, .ok, [sourceByte s.knownPrimary]⟩ := by
  simp [State.pinRunning, h, hb, hpin]

theorem knownPrimary_eq (h : s.primary = some p) : s.knownPrimary = some p := by rw [State.knownPrimary, h]

theorem primary_congr (h : t.sources = s.sources) : t.primary = s.primary := by
  simp only [State.primary, source_congr s t h]

/-- The idle timer of a source that is no target, as a removal of its record starts or stops it (R8, R94). -/
theorem removeRecord_eq (h : s.zc.record = some r) : s.removeRecord =
    ({ s with zc := { s.zc with record := none } }).setSource r.taker { s.source r.taker with
      idle := if (s.source r.taker).state = SrcState.warm ∧ (s.source r.taker).idleTwenties ≠ 0 ∧
          s.isPending r.taker = false
        then some ⟨s.cru.time, (s.source r.taker).idleTwenties * 20000⟩ else none } := by
  have hruns : (s.setRecord none).idleRuns r.taker = true ↔ (s.source r.taker).state = .warm ∧
      (s.source r.taker).idleTwenties ≠ 0 ∧ s.isPending r.taker = false := by
    have htarget : (s.setRecord none).isTarget r.taker = false := isTarget_none rfl
    rw [State.idleRuns, htarget, isPending_congr (s := s) (t := s.setRecord none) rfl rfl]
    have hsource : (s.setRecord none).source r.taker = s.source r.taker := rfl
    simp [hsource, and_assoc]
  rw [State.removeRecord, h]
  simp only [State.restartIdle, hruns]
  rfl

theorem exec_pinOn (h : LinkReady s) (hp : s.link.part = .config ∨ s.link.part = .streaming) (tag : Byte)
    {result : Result} {payload : List Byte} (ha : (s.delivered 257).pinOn = ⟨t, result, payload⟩) :
    exec (.pinSourceOn tag) s = .next (t.answered tag false (.pinSource 1) result payload) :=
  row_served (q := .pinSource 1) h rfl (decide_eq_true hp) rfl ha tag

/-- Settles O32: each request by the answer of its owner, and that answer by the case of its rule. -/
theorem zoomAndPinTaken : Obligations.ZoomAndPinTaken := by
  refine ⟨fun s tag target rate h hp => ⟨fun n hne hn => ?_, fun hzero => ?_⟩, fun s tag h hp =>
    ⟨fun p hpart hsub hpin hprim => ⟨fun hrec => ?_, fun r hrec hphase => ?_⟩, fun r hpart hsub hrec hb => ?_,
      fun hoff => ?_, ?_⟩⟩
  · have hstored : (s.delivered 257).storedTarget target.toNat = n := by
      rw [hn]
      exact storedTarget_eq ..
    refine exec_zoomSet h hp tag ?_
    rw [zoomSet_taken hne, hstored]
    rfl
  · exact exec_zoomSet h hp tag (if_pos hzero)
  · refine exec_pinOn h hp tag ?_
    rw [pinOn_running (s := s.delivered 257) hpart hsub, pinRunning_alone (s := s.delivered 257) hrec, knownPrimary_eq (s := s.delivered 257) hprim]
    rfl
  · refine exec_pinOn h hp tag ?_
    rw [pinOn_running (s := s.delivered 257) hpart hsub, pinRunning_removes (s := s.delivered 257) hrec (by grind) hpin, knownPrimary_eq (s := s.delivered 257) hprim,
      removeRecord_eq (s := s.delivered 257) hrec]
    rfl
  · refine exec_pinOn h hp tag ?_
    rw [pinOn_running (s := s.delivered 257) hpart hsub, pinRunning_blending (s := s.delivered 257) hrec hb]
    rfl
  · refine exec_pinOn h hp tag (pinOn_elsewhere fun ⟨hpart, hsub⟩ => ?_)
    simp_all
  · exact row_served (q := .pinSource 0) h rfl (decide_eq_true hp) rfl rfl tag

/-! Stages 1 and 2 (R77 to R79, R86) -/

theorem stepBounds_alone (hsub : s.cp.sub = .running) (hprim : s.knownPrimary = some p)
    (hb : ∀ r, s.zc.record = some r → r.phase ≠ .blending) : s.stepBounds = some (s.rangeOf p) := by
  cases hrec : s.zc.record with
  | none => simp [State.stepBounds, hsub, hrec, hprim]
  | some r => simp [State.stepBounds, hsub, hrec, hprim, hb r hrec]

theorem zoomStages_bounded {b : Bounds} (h : s.stepBounds = some b) : s.zoomStages = s.moveZoom b := by
  rw [State.zoomStages, h]

/-- held after a step, and the notice of a change of it (R79, R86). -/
theorem setHeld_eq (b : Bounds) (s : State) : s.setHeld b =
    let held := heldAt s.zc.target s.zc.shown b
    let moved : State := { s with zc := { s.zc with held := held } }
    if held = s.zc.held then moved
    else moved.post none (.zoomHeld held (heldSide held s.zc.target b) s.zc.target s.zc.shown (some b.who) s.cru.time) := by
  refine if_ctx_congr Iff.rfl (fun hsame => ?_) fun _ => rfl
  rw [hsame]

theorem zoomMove_up {z rate d : Nat} (hr : 0 < rate) (h : z < d) :
    zoomMove z rate d = min (z + max 1 (z * rate / 65536)) d := by
  rw [zoomMove, if_neg hr.ne', if_pos h]

theorem zoomMove_down {z rate d : Nat} (hr : 0 < rate) (h : d < z) :
    zoomMove z rate d = max (z - max 1 (z * rate / 65536)) d := by
  rw [zoomMove, if_neg hr.ne', if_neg (by omega), if_pos h]

theorem zoomMove_same (z rate : Nat) : zoomMove z rate z = z := by simp [zoomMove]

/-- Settles O33: one move by the side on which the desired zoom lies; the stages by the bounds of the primary alone. -/
theorem zoomStepMoves : Obligations.ZoomStepMoves := by
  refine ⟨⟨fun z d => if_pos rfl, fun z rate d hr h => zoomMove_up hr h, fun z rate d hr h => zoomMove_down hr h,
    zoomMove_same, fun z rate n lo hi hlo hhi => ?_⟩, fun s p lo hi z held hsub hprim hb hlo hhi hz hheld => ?_⟩
  · exact zoomMove_within ⟨hlo, hhi⟩ (clamp_between (hlo.trans hhi))
  · subst hlo hhi hz hheld
    rw [zoomStages_bounded (stepBounds_alone hsub (knownPrimary_eq hprim) hb), State.moveZoom, setHeld_eq]
    rfl

end Sys2Proof.Machine
end

section
/-! THEOREM. OUTPUT_SET (R131, R132, R149, R197). -/

namespace Sys2Proof.Machine

variable {s t : State}

/-- The settings that a request names. -/
def namedSettings (wo : Half) (period : Word) (n tolerance m window : Byte) : Settings :=
  ⟨wo.toNat, period.toNat, n.toNat, tolerance.toNat, m.toNat, window.toNat⟩

theorem settings_badField (wo : Half) (period : Word) (n tolerance m window : Byte) :
    (namedSettings wo period n tolerance m window).badField =
      [decide (640 ≤ wo.toNat ∧ wo.toNat ≤ 3840 ∧ wo.toNat % 16 = 0),
       decide (8333 ≤ period.toNat ∧ period.toNat ≤ 100000), decide (n.toNat ≤ 32), decide (tolerance.toNat ≤ 255),
       decide (1 ≤ m.toNat ∧ m.toNat ≤ 15), decide (1 ≤ window.toNat)].findIdx? not := by
  have hwindow := window.isLt
  simp only [namedSettings, Settings.badField, findIdx_not_cons, List.findIdx?_nil]
  grind

/-- The reply names the fields as they were sent (R197). -/
theorem settings_bytes (wo : Half) (period : Word) (n tolerance m window : Byte) :
    (namedSettings wo period n tolerance m window).bytes =
      be16 wo ++ be32 period ++ [n, tolerance, m, window] ++ u16 (wo.toNat * 9 / 16) ++
        u16 ((wo.toNat * (wo.toNat * 9 / 16) + 1249) / 1250) := by
  simp [Settings.bytes, namedSettings, u8, u16, u32, BitVec.ofNat_toNat, Settings.videoTime, transmissionTime, heightOf]

theorem outputSet_bad {x : Settings} {k : Nat} (h : x.badField = some k) (queryOnly : Bool) (s : State) :
    s.outputSet x queryOnly = s.refuse .badValue [u8 k] := by
  rw [State.outputSet, h]

theorem outputSet_good {x : Settings} (h : x.badField = none) (queryOnly : Bool) (s : State) :
    s.outputSet x queryOnly =
      ⟨if queryOnly then s else { s with cp := { s.cp with settings := x } }, .ok, x.bytes⟩ := by
  rw [State.outputSet, h]

/-- OUTPUT_SET, with or without QUERY_ONLY, by the answer of its owner. -/
theorem exec_outputSet (h : LinkReady s) (hp : s.link.part = .config) (tag : Byte) {wo : Half} {period : Word}
    {n tolerance m window : Byte} {queryOnly : Bool} {result : Result} {payload : List Byte}
    (ha : (s.delivered 257).outputSet (namedSettings wo period n tolerance m window) queryOnly = ⟨t, result, payload⟩) :
    (Host.Outcome.next (s.hostRequest tag queryOnly (.outputSet wo period n tolerance m window)) :
      Host.Outcome State Fault Refusal) =
      .next (t.answered tag queryOnly (.outputSet wo period n tolerance m window) result payload) :=
  row_served (q := .outputSet wo period n tolerance m window) h rfl (decide_eq_true hp) rfl ha tag

/-- Settles O39: the first field out of its range, if any, decides the answer. -/
theorem outputSetTaken : Obligations.OutputSetTaken := by
  intro s tag wo period n tolerance m window h hp
  have hfield := settings_badField wo period n tolerance m window
  have hbytes := settings_bytes wo period n tolerance m window
  refine ⟨fun k hk => ?_, fun hk => ?_⟩ <;> rw [hk] at hfield
  · exact ⟨exec_outputSet h hp tag (outputSet_bad hfield false _), exec_outputSet h hp tag (outputSet_bad hfield true _)⟩
  · rw [← hbytes]
    exact ⟨exec_outputSet h hp tag (outputSet_good hfield false _), exec_outputSet h hp tag (outputSet_good hfield true _)⟩

end Sys2Proof.Machine
end

section
/-! THEOREM. Still capture: STILL_TAKE and STILL_FLOW (R41, R43, R153 to R158, R161, R162, R198). -/

namespace Sys2Proof.Machine

variable {s t : State} {i : Src} {x : Still}

/-! The still queue (R158) -/

/-- The machine with the next `k` groups of a still placed in the queue. -/
def State.queued (x : Still) (k : Nat) (s : State) : State :=
  { s with
    cc := { s.cc with still := some { x with next := x.next + k } }
    op := { s.op with queue := s.op.queue ++ List.range' x.next k } }

theorem queued_zero (h : s.cc.still = some x) : s.queued x 0 = s := by
  simp only [State.queued, Nat.add_zero, List.range'_zero, List.append_nil, ← h]

theorem queued_fresh (hq : s.op.queue = []) (hx : x.next = 0) (k : Nat) : s.queued x k =
    { s with cc := { s.cc with still := some { x with next := k } }, op := { s.op with queue := List.range k } } := by
  rw [State.queued, hq, hx, Nat.zero_add, List.nil_append, List.range_eq_range']

theorem fillOne_idle (h : s.cc.still = some x) (hx : x.state ≠ .sending ∨ ∃ total, x.total = some total ∧ total ≤ x.next) :
    s.fillOne = s := by
  unfold State.fillOne
  rw [h]
  rcases hx with hx | ⟨total, ht, hle⟩
  · cases ht : x.total <;> simp [hx, ht]
  · simp [ht, hle]

theorem fillQueue_idle (h : s.cc.still = some x) (hx : x.state ≠ .sending ∨ ∃ total, x.total = some total ∧ total ≤ x.next) :
    s.fillQueue = s := by
  rw [State.fillQueue, fillOne_idle h hx, fillOne_idle h hx]

theorem fillOne_queued (hs : x.state = .sending) {total : Nat} (ht : x.total = some total) (k : Nat) (s : State) :
    (s.queued x k).fillOne =
      if s.op.queue.length + k < 2 ∧ x.next + k < total then s.queued x (k + 1) else s.queued x k := by
  simp only [State.fillOne, State.queued, ht, hs, true_and, List.length_append, List.length_range']
  refine if_congr Iff.rfl ?_ rfl
  simp only [State.setQueue, State.setStill, List.range'_1_concat, List.append_assoc, Nat.add_assoc]

/-- The queue is filled to two groups or until every group has been placed. -/
theorem fillQueue_queued (h : s.cc.still = some x) (hs : x.state = .sending) {total : Nat} (ht : x.total = some total) :
    s.fillQueue = s.queued x (min (2 - s.op.queue.length) (total - x.next)) := by
  have hfirst := fillOne_queued hs ht 0 s
  rw [queued_zero h, Nat.add_zero, Nat.add_zero, Nat.zero_add] at hfirst
  rw [State.fillQueue, hfirst]
  by_cases hroom : s.op.queue.length < 2 ∧ x.next < total
  · rw [if_pos hroom, fillOne_queued hs ht]
    split_ifs with hmore
    · rw [show min (2 - s.op.queue.length) (total - x.next) = 2 by omega]
    · rw [show min (2 - s.op.queue.length) (total - x.next) = 1 by omega]
  · rw [if_neg hroom, hfirst, if_neg hroom, show min (2 - s.op.queue.length) (total - x.next) = 0 by omega, queued_zero h]

/-! STILL_TAKE (R155, R156) -/

theorem stillTakeSource_none {src : Byte} (h : byteSource src = none) (s : State) :
    s.stillTakeSource src = s.refuse .badValue [] := by
  rw [State.stillTakeSource, h]

theorem stillTakeSource_some {src : Byte} (h : byteSource src = some i) (s : State) :
    s.stillTakeSource src = s.stillTakeKnown i := by
  rw [State.stillTakeSource, h]

theorem stillTakeKnown_active (h : s.cc.still ≠ none) : s.stillTakeKnown i = s.refuse .stillActive [] :=
  if_pos (Option.isSome_iff_ne_none.mpr h)

theorem stillTakeKnown_undefined (h : s.cc.still = none) (hd : (s.source i).defined = false) :
    s.stillTakeKnown i = s.refuse .noSource [] := by
  simp [State.stillTakeKnown, h, hd]

theorem newestReady_none {l : List FrameRec} (h : ∀ r ∈ l, r.state ≠ .ready) : newestReady l = none := by
  have hempty : l.filter FrameRec.isReady = [] := by simpa [FrameRec.isReady] using h
  rw [newestReady, hempty, List.getLast?_nil]

theorem stillTakeKnown_empty (h : s.cc.still = none) (hd : (s.source i).defined = true)
    (hr : ∀ r ∈ s.ring i, r.state ≠ .ready) : s.stillTakeKnown i = s.refuse .noFrame [] := by
  simp [State.stillTakeKnown, h, hd, newestReady_none hr]

theorem stillTakeKnown_pins (h : s.cc.still = none) (hd : (s.source i).defined = true) {r : FrameRec}
    (hr : newestReady (s.ring i) = some r) :
    s.stillTakeKnown i = ⟨s.pinFrame i r, .accepted, s.takeBytes r⟩ := by
  simp [State.stillTakeKnown, h, hd, hr]

/-- The newest READY record is pinned and the first two groups of its frame are in the queue. -/
theorem pinFrame_eq (hq : s.op.queue = []) (r : FrameRec) : s.pinFrame i r =
    ({ s with
        cc := { still := some { Still.ofSource i r.width with
                  id := nextId s.cc.lastId, next := min 2 (totalGroups (heightOf r.width)) }
                lastId := nextId s.cc.lastId }
        op := { s.op with queue := List.range (min 2 (totalGroups (heightOf r.width))) } }).setRing i
      ((s.ring i).map fun (q : FrameRec) => if q.slot = r.slot then q.setHold .still true else q) := by
  have hempty : ((s.placeStillHold i r.slot).createStill (Still.ofSource i r.width)).op.queue = [] := hq
  rw [State.pinFrame, fillQueue_queued (x := { Still.ofSource i r.width with id := nextId s.cc.lastId }) rfl rfl rfl, hempty,
    queued_fresh hempty rfl]
  rfl

theorem exec_stillTakeSource (h : LinkReady s) (hp : s.link.part = .config ∨ s.link.part = .streaming) (tag src : Byte)
    {result : Result} {payload : List Byte} (ha : (s.delivered 257).stillTakeSource src = ⟨t, result, payload⟩) :
    exec (.stillTakeSource tag src) s = .next (t.answered tag false (.stillTake 1 src) result payload) :=
  row_served (q := .stillTake 1 src) h rfl (decide_eq_true hp) rfl ha tag

theorem stillTakeFused_active (h : s.cc.still ≠ none) : s.stillTakeFused = s.refuse .stillActive [] :=
  if_pos (Option.isSome_iff_ne_none.mpr h)

theorem stillTakeFused_wrong (h : s.cc.still = none) (hs : s.link.part ≠ .streaming ∨ s.cp.sub ≠ .running) :
    s.stillTakeFused = s.refuse .wrongState [] := by
  rw [State.stillTakeFused, h, if_neg (by simp), if_pos hs]

theorem stillTakeFused_taken (h : s.cc.still = none) (hp : s.link.part = .streaming) (hs : s.cp.sub = .running) :
    s.stillTakeFused = ⟨s.createStill Still.ofFused, .accepted, [u8 (nextId s.cc.lastId), StillKind.fused.code]⟩ := by
  rw [State.stillTakeFused, h, if_neg (by simp), if_neg (by simp [hp, hs])]

theorem exec_stillTakeFused (h : LinkReady s) (hp : s.link.part = .config ∨ s.link.part = .streaming) (tag src : Byte)
    {result : Result} {payload : List Byte} (ha : (s.delivered 257).stillTakeFused = ⟨t, result, payload⟩) :
    exec (.stillTakeFused tag src) s = .next (t.answered tag false (.stillTake 2 src) result payload) :=
  row_served (q := .stillTake 2 src) h rfl (decide_eq_true hp) rfl ha tag

/-- Settles O44: the checks of R155 and R156 in order; the queue of the new still by R158. -/
theorem stillTakeTaken : Obligations.StillTakeTaken := by
  intro s tag src n h hp hn
  subst hn
  refine ⟨fun i r height total hi hstill hq hd hr hheight htotal => ?_, fun hstill hpart hsub => ?_,
    ⟨fun hi => ?_, fun i hi => ⟨fun hstill => ?_, fun hstill hd => ?_, fun hstill hd hr => ?_⟩⟩,
    fun hstill => ?_, fun hstill hs => ?_⟩
  · subst hheight htotal
    refine exec_stillTakeSource h hp tag src ?_
    rw [stillTakeSource_some hi, stillTakeKnown_pins (s := s.delivered 257) hstill hd hr,
      pinFrame_eq (s := s.delivered 257) hq]
    rfl
  · exact exec_stillTakeFused h hp tag src (stillTakeFused_taken (s := s.delivered 257) hstill hpart hsub)
  · exact exec_stillTakeSource h hp tag src (stillTakeSource_none hi _)
  · exact exec_stillTakeSource h hp tag src ((stillTakeSource_some hi _).trans (stillTakeKnown_active hstill))
  · exact exec_stillTakeSource h hp tag src ((stillTakeSource_some hi _).trans (stillTakeKnown_undefined hstill hd))
  · exact exec_stillTakeSource h hp tag src ((stillTakeSource_some hi _).trans (stillTakeKnown_empty hstill hd hr))
  · exact exec_stillTakeFused h hp tag src (stillTakeFused_active hstill)
  · exact exec_stillTakeFused h hp tag src (stillTakeFused_wrong hstill hs)

end Sys2Proof.Machine
end

section
/-! THEOREM. STILL_FLOW (R17, R41, R158, R161, R162, R198). -/

namespace Sys2Proof.Machine

variable {s t : State} {i : Src} {x : Still}

/-! PAUSE and RESUME (R161) -/

theorem flowPause_sending (h : s.cc.still = some x) (hx : x.state = .sending) : s.flowPause =
    ⟨s.setStill (some { x with state := .paused, pause := some ⟨s.cru.time, 2000000⟩ }), .ok,
      [u8 x.id, 3, u8 x.begun, u8 s.op.queue.length]⟩ := by
  simp only [State.flowPause, h, hx]
  rfl

theorem flowResume_paused (h : s.cc.still = some x) (hx : x.state = .paused) {total : Nat} (ht : x.total = some total) :
    s.flowResume =
      ⟨s.queued { x with state := .sending, pause := none } (min (2 - s.op.queue.length) (total - x.next)), .ok,
        [u8 x.id, 2, u8 x.begun, u8 (s.op.queue.length + min (2 - s.op.queue.length) (total - x.next))]⟩ := by
  have hfill := fillQueue_queued (s := s.setStill (some { x with state := .sending, pause := none })) rfl rfl ht
  simp only [State.flowResume, h, hx, hfill, State.flowAnswer, Answer.mk.injEq, true_and]
  refine ⟨rfl, ?_⟩
  simp only [State.flowBytes, State.queued, List.length_append, List.length_range']
  rfl

/-! ABORT (R161, R162) -/

theorem flowAbort_standing (h : s.cc.still = some x) (hx : x.state ≠ .ending) :
    s.flowAbort = (s.abortStill x .host).flowAnswer .ok := by
  rw [State.flowAbort, h]
  cases hstate : x.state <;> simp_all

/-- The machine at an abort: the queue is empty and STILL_ABORTED is posted (R162). -/
def State.abortPosted (x : Still) (cause : StillCause) (s : State) : State :=
  ({ s with op := { s.op with queue := [] } }).post none
    (.stillAborted x.id x.kind x.source cause x.state x.begun s.cru.time)

theorem abortStill_busy (h : s.op.group ≠ none) (x : Still) (cause : StillCause) : s.abortStill x cause =
    { s.abortPosted x cause with cc := { s.cc with still := some { x with state := .ending, pause := none } } } := by
  rw [State.abortStill, if_pos (Option.isSome_iff_ne_none.mpr h)]
  rfl

theorem abortStill_free (h : s.op.group = none) (x : Still) (cause : StillCause) :
    s.abortStill x cause = (s.abortPosted x cause).endStill x := by
  rw [State.abortStill, h, if_neg (by simp)]
  rfl

theorem unpowered_iff (x : SrcState) : x.unpowered = true ↔ x = .parked ∨ x = .fault := by
  cases x <;> decide

/-- The still hold of a record is released; an unpowered source's record leaves the ring with its last holder (R17, R41). -/
theorem releaseRec_still (x : SrcState) (r : FrameRec) : releaseRec x.unpowered .still r =
    if r.heldS = false then some r
    else if (x = .parked ∨ x = .fault) ∧ r.heldC = false then none
    else some { r with heldS := false } := by
  by_cases hs : r.heldS = false
  · simp [releaseRec, FrameRec.holds, hs]
  · rw [if_neg hs, releaseRec, FrameRec.holds, if_pos (Bool.eq_true_of_not_eq_false hs)]
    refine if_congr ?_ rfl rfl
    simp [FrameRec.setHold, FrameRec.held, unpowered_iff]

theorem endStill_fused (hx : x.source = none) (s : State) : s.endStill x =
    { s with cc := { s.cc with still := none }, op := { s.op with queue := [] } } := by
  rw [State.endStill, hx]
  rfl

theorem endStill_source (hx : x.source = some i) (s : State) : s.endStill x =
    ({ s with cc := { s.cc with still := none }, op := { s.op with queue := [] } }).setRing i ((s.ring i).filterMap fun (r : FrameRec) =>
      if r.heldS = false then some r
      else if ((s.source i).state = SrcState.parked ∨ (s.source i).state = SrcState.fault) ∧ r.heldC = false then none
      else some { r with heldS := false }) := by
  rw [State.endStill, hx]
  simp only [State.releaseHolds, funext (releaseRec_still (s.source i).state), State.setStill, State.setQueue,
    State.setRing]

/-- STILL_FLOW by the answer of its owner. -/
theorem exec_stillFlow (h : LinkReady s) (hp : s.link.part = .config ∨ s.link.part = .streaming) (tag : Byte) :
    (∀ t result payload, (s.delivered 257).flowPause = ⟨t, result, payload⟩ →
      exec (.stillFlowPause tag) s = .next (t.answered tag false (.stillFlow 1) result payload)) ∧
    (∀ t result payload, (s.delivered 257).flowResume = ⟨t, result, payload⟩ →
      exec (.stillFlowResume tag) s = .next (t.answered tag false (.stillFlow 2) result payload)) ∧
    ∀ t result payload, (s.delivered 257).flowAbort = ⟨t, result, payload⟩ →
      exec (.stillFlowAbort tag) s = .next (t.answered tag false (.stillFlow 3) result payload) :=
  ⟨fun _ _ _ ha => row_served (q := .stillFlow 1) h rfl (decide_eq_true hp) rfl ha tag,
    fun _ _ _ ha => row_served (q := .stillFlow 2) h rfl (decide_eq_true hp) rfl ha tag,
    fun _ _ _ ha => row_served (q := .stillFlow 3) h rfl (decide_eq_true hp) rfl ha tag⟩

theorem flow_of_none (h : s.cc.still = none) :
    s.flowPause = ⟨s, .wrongState, [0, 0, 0, 0]⟩ ∧ s.flowResume = ⟨s, .wrongState, [0, 0, 0, 0]⟩ ∧
      s.flowAbort = ⟨s, .wrongState, [0, 0, 0, 0]⟩ := by
  simp [State.flowPause, State.flowResume, State.flowAbort, State.flowAnswer, State.flowBytes, h]

/-- Settles O45: each action by the state of the still; an abort by the channel and by the still's frame. -/
theorem stillFlowTaken : Obligations.StillFlowTaken := by
  intro s tag h hp
  obtain ⟨hpause, hresume, habort⟩ := exec_stillFlow h hp tag
  refine ⟨fun x hx hs => hpause _ _ _ (flowPause_sending (s := s.delivered 257) hx hs), fun x total m hx hs ht hm => ?_,
    fun x hx hs => ⟨fun hgroup => ?_, fun hgroup hsource => ?_, fun i hgroup hsource => ?_⟩, fun hnone => ?_⟩
  · subst hm
    exact hresume _ _ _ (flowResume_paused (s := s.delivered 257) hx hs ht)
  · refine habort _ _ _ ((flowAbort_standing (s := s.delivered 257) hx hs).trans ?_)
    rw [abortStill_busy (s := s.delivered 257) hgroup]
    rfl
  · refine habort _ _ _ ((flowAbort_standing (s := s.delivered 257) hx hs).trans ?_)
    rw [abortStill_free (s := s.delivered 257) hgroup, endStill_fused hsource]
    rfl
  · refine habort _ _ _ ((flowAbort_standing (s := s.delivered 257) hx hs).trans ?_)
    rw [abortStill_free (s := s.delivered 257) hgroup, endStill_source hsource]
    rfl
  · obtain ⟨hfp, hfr, hfa⟩ := flow_of_none (s := s.delivered 257) hnone
    exact ⟨hpause _ _ _ hfp, hresume _ _ _ hfr, habort _ _ _ hfa⟩

end Sys2Proof.Machine
end

section
/-! THEOREM. The still channel and the pause timer (R150, R157 to R160, R162, R164, R202). -/

namespace Sys2Proof.Machine

variable {s t : State} {i : Src} {x : Still} {g : GroupTx}

/-! The begin of a group (R150, R159) -/

theorem readyGroup_eq_some : s.readyGroup = some (x, g) ↔ s.cc.still = some x ∧ s.op.group = none ∧ s.op.video = none ∧
    ∃ number rest, s.op.queue = number :: rest ∧ s.groupFits (s.groupOf x number).timer.len = true ∧
      g = s.groupOf x number := by
  constructor
  · intro h
    unfold State.readyGroup at h
    split at h
    · next number rest hx hq hg hv =>
      split_ifs at h with hfits
      cases h
      exact ⟨hx, hg, hv, number, rest, hq, hfits, rfl⟩
    · cases h
  · rintro ⟨hx, hg, hv, number, rest, hq, hfits, rfl⟩
    simp [State.readyGroup, hx, hq, hg, hv, hfits]

theorem groupBegin_none (h : s.readyGroup = none) : s.groupBegin = s := by rw [State.groupBegin, h]

theorem groupBegin_some (h : s.readyGroup = some (x, g)) : s.groupBegin =
    ({ s with
      op := { s.op with queue := s.op.queue.tail, group := some g }
      cc := { s.cc with still := some { x with begun := x.begun + 1 } } }).fillQueue := by
  rw [State.groupBegin, h]
  rfl

theorem groupFits_free {len : Nat} (h : s.link.part ≠ .streaming ∨
    ∃ d, s.cp.deadline = some d ∧ ahead d s.cru.time = true ∧ len ≤ d.since s.cru.time) : s.groupFits len = true := by
  unfold State.groupFits
  split_ifs with hp
  · obtain ⟨d, hd, hahead, hlen⟩ := h.resolve_left (not_not_intro hp)
    simp [hd, hahead, hlen]
  · rfl

theorem groupFits_late {len : Nat} {d : Time} (hp : s.link.part = .streaming) (hd : s.cp.deadline = some d)
    (h : ahead d s.cru.time = false ∨ d.since s.cru.time < len) : s.groupFits len = false := by
  simp only [State.groupFits, hp, hd, if_pos, Bool.and_eq_false_iff, decide_eq_false_iff_not]
  exact h.imp_right (by omega)

/-- The queue after a refill: some next groups are added, none where the still is not SENDING or has placed them all. -/
theorem fillQueue_some (h : s.cc.still = some x) {total : Nat} (ht : x.total = some total) :
    ∃ k, s.fillQueue = s.queued x k ∧ (x.state = .sending → k = min (2 - s.op.queue.length) (total - x.next)) ∧
      (x.state ≠ .sending ∨ total ≤ x.next → k = 0) := by
  by_cases hs : x.state = .sending
  · exact ⟨_, fillQueue_queued h hs ht, fun _ => rfl, fun hn => by have := hn.resolve_left (not_not_intro hs); omega⟩
  · exact ⟨0, (fillQueue_idle h (.inl hs)).trans (queued_zero h).symm, fun hn => absurd hn hs, fun _ => rfl⟩

/-! The end of a group (R160, R162) -/

/-- The machine with the still channel free. -/
def State.channelFreed (s : State) : State := { s with op := { s.op with group := none } }

theorem groupEnd_due (hg : s.op.group = some g) (hx : g.timer.expired s.cru.time = true) :
    s.groupEnd = s.channelFreed.afterGroup g.number := by
  rw [State.groupEnd, hg]
  simp only [waitTimer_due hx]
  rfl

theorem afterGroup_ending (h : s.cc.still = some x) (hx : x.state = .ending) (n : Nat) : s.afterGroup n = s.endStill x := by
  rw [State.afterGroup, h]
  exact if_pos hx

theorem afterGroup_last (h : s.cc.still = some x) (hx : x.state ≠ .ending) {n : Nat} (hn : x.total = some (n + 1)) :
    s.afterGroup n = (s.endStill x).postStillDone x := by
  rw [State.afterGroup, h]
  exact (if_neg hx).trans (if_pos hn)

theorem afterGroup_more (h : s.cc.still = some x) (hx : x.state ≠ .ending) {n : Nat} (hn : x.total ≠ some (n + 1)) :
    s.afterGroup n = s := by
  rw [State.afterGroup, h]
  exact (if_neg hx).trans (if_neg hn)

/-- The end of a still removes its record, empties the queue and leaves no still hold on its source's ring. -/
theorem endStill_fields (x : Still) (s : State) :
    (s.endStill x).cc = { s.cc with still := none } ∧ (s.endStill x).op.queue = [] ∧
      (s.endStill x).op.group = s.op.group ∧ ∀ i, x.source = some i → ∀ r ∈ (s.endStill x).ring i, r.heldS = false := by
  cases hx : x.source with
  | none =>
    rw [endStill_fused hx]
    exact ⟨rfl, rfl, rfl, nofun⟩
  | some i =>
    rw [endStill_source hx]
    refine ⟨rfl, rfl, rfl, ?_⟩
    rintro _ ⟨⟩ r hr
    rw [ring_setRing, if_pos rfl, List.mem_filterMap] at hr
    obtain ⟨q, -, hq⟩ := hr
    split_ifs at hq with hs hdrop
    · cases hq
      exact hs
    · cases hq
      rfl

/-! The pause timer (R161, R162) -/

theorem pauseTimeout_due (h : s.cc.still = some x) {p : Timer} (hp : x.pause = some p)
    (hx : p.expired s.cru.time = true) : s.pauseTimeout = s.abortStill x .timeout := by
  rw [State.pauseTimeout, h]
  simp only [hp, waitTimer_due hx]

/-- Settles O46: the begin by whether a group is ready, the end by the state of the still and the number of the group. -/
theorem stillGroupsRun : Obligations.StillGroupsRun := by
  refine ⟨fun s x g rest height total count hfits hx hq hgroup hvideo hh ht hcount => ?_, fun s d hp hd hlate => ?_,
    fun s hbusy => ?_, fun s x g hx hg hdue hmore hs => ?_, fun s x g hx hg hdue hs => ?_,
    fun s x g hx hg hdue hlast hs => ?_, fun s x p hx hp hdue => ?_⟩
  · have hlen : groupLineCount (x.height.getD 0) g = count := by rw [hh, hcount]; rfl
    have hready : s.readyGroup = some (x, s.groupOf x g) :=
      readyGroup_eq_some.mpr ⟨hx, hgroup, hvideo, g, rest, hq, groupFits_free (by
        simpa [State.groupOf, State.timer, hlen, transmissionTime] using hfits), rfl⟩
    have hgroupOf : s.groupOf x g = ⟨g, [0x3A5, BitVec.ofNat 10 x.id, BitVec.ofNat 10 g, BitVec.ofNat 10 count],
        ((s.stillPicture x).drop (64 * g)).take count, ⟨s.cru.time, (count * x.width.getD 0 + 1249) / 1250⟩⟩ := by
      simp only [State.groupOf, hlen]
      rfl
    have hbegin := groupBegin_some hready
    obtain ⟨k, hfill, hsending, hidle⟩ := fillQueue_some (s := { s with
      op := { s.op with queue := s.op.queue.tail, group := some (s.groupOf x g) }
      cc := { s.cc with still := some { x with begun := x.begun + 1 } } }) rfl ht
    rw [hfill, hgroupOf, hq] at hbegin
    refine ⟨_, congrArg Host.Outcome.next hbegin, rfl, rfl, hvideo, fun hs hmore hone => ?_, fun hn => ?_⟩
    · have hk : k = 1 := (hsending hs).trans (by simp only [hq, List.tail_cons, hone]; omega)
      subst hk
      exact ⟨rfl, rfl⟩
    · have hk : k = 0 := hidle hn
      subst hk
      exact ⟨List.append_nil rest, rfl⟩
  · refine congrArg Host.Outcome.next (groupBegin_none (Option.eq_none_iff_forall_ne_some.mpr ?_))
    rintro ⟨x, g⟩ h
    obtain ⟨hx, -, -, number, rest, hq, hfits, -⟩ := readyGroup_eq_some.mp h
    rw [groupFits_late hp hd (hlate x number rest hx hq)] at hfits
    cases hfits
  · refine congrArg Host.Outcome.next (groupBegin_none (Option.eq_none_iff_forall_ne_some.mpr ?_))
    rintro ⟨x, g⟩ h
    obtain ⟨hx, hgroup, hvideo, number, rest, hq, -, -⟩ := readyGroup_eq_some.mp h
    simp [hgroup, hvideo, hq] at hbusy
  · exact congrArg Host.Outcome.next ((groupEnd_due hg hdue).trans (afterGroup_more (s := s.channelFreed) hx hs hmore))
  · obtain ⟨hcc, hqueue, hgroup, hring⟩ := endStill_fields x s.channelFreed
    exact ⟨_, congrArg Host.Outcome.next ((groupEnd_due hg hdue).trans (afterGroup_ending (s := s.channelFreed) hx hs _)),
      hcc, hgroup, hqueue, hring, by simp [State.channelFreed]⟩
  · obtain ⟨hcc, hqueue, hgroup, hring⟩ := endStill_fields x s.channelFreed
    exact ⟨_, congrArg Host.Outcome.next ((groupEnd_due hg hdue).trans (afterGroup_last (s := s.channelFreed) hx hs hlast)),
      hcc, hgroup, hqueue, hring, by simp [State.postStillDone, State.post, State.channelFreed, hlast]⟩
  · by_cases hgroup : s.op.group = none
    · obtain ⟨hcc, hqueue, -, -⟩ := endStill_fields x (s.abortPosted x .timeout)
      refine ⟨_, congrArg Host.Outcome.next ((pauseTimeout_due hx hp hdue).trans (abortStill_free hgroup ..)), hqueue, ?_, ?_⟩
      · rw [hcc, if_pos hgroup]
      · simp [State.abortPosted, State.post]
    · refine ⟨_, congrArg Host.Outcome.next ((pauseTimeout_due hx hp hdue).trans (abortStill_busy hgroup ..)), rfl, ?_, rfl⟩
      rw [if_neg hgroup]

end Sys2Proof.Machine
end

section
/-! THEOREM. The end of a compose and of a video transmission (R140, R142, R147 to R149, R156). -/

namespace Sys2Proof.Machine

variable {s t : State} {k : Compose} {x : Still}

/-- The machine with the composite of a compose in its buffer, before a still copies it (R147). -/
def State.filled (k : Compose) (s : State) : State :=
  { s with cp := { (s.cp.setPicture k.buffer (some (s.compositeOf k))) with
      compose := none, newest := some k.buffer, fresh := true } }

theorem composeComplete_discarded (h : s.cp.compose = some k) (hk : k.live = false) :
    s.composeComplete = { s with cp := { s.cp with compose := none } } := by
  rw [State.composeComplete, h]
  exact if_neg (by rw [hk]; decide)

theorem composeComplete_live (h : s.cp.compose = some k) (hk : k.live = true) :
    s.composeComplete = (s.filled k).captureFused (s.compositeOf k) := by
  rw [State.composeComplete, h]
  exact if_pos hk

theorem captureFused_idle (h : ∀ x, s.cc.still = some x → x.state ≠ .capturing) (pic : Picture) : s.captureFused pic = s := by
  unfold State.captureFused
  split
  · rfl
  · next x hx => exact if_neg (h x hx)

/-- A CAPTURING still copies the composite, takes its size, and has its first groups in the queue (R156, R158). -/
theorem captureFused_copies (h : s.cc.still = some x) (hx : x.state = .capturing) (pic : Picture) : s.captureFused pic =
    ({ s with
      cp := { s.cp with stillCopy := some pic }
      cc := { s.cc with still := some { x.sized pic.width with state := .sending } } }).queued
        { x.sized pic.width with state := .sending }
        (min (2 - s.op.queue.length) (totalGroups (heightOf pic.width) - x.next)) := by
  rw [State.captureFused, h]
  exact (if_pos hx).trans (fillQueue_queued rfl rfl rfl)

theorem captureFused_fresh (h : s.cc.still = some x) (hx : x.state = .capturing) (hq : s.op.queue = []) (hn : x.next = 0)
    (pic : Picture) : s.captureFused pic =
      { s with
        cp := { s.cp with stillCopy := some pic }
        cc := { s.cc with still := some { x.sized pic.width with
          state := .sending, next := min 2 (totalGroups (heightOf pic.width)) } }
        op := { s.op with queue := List.range (min 2 (totalGroups (heightOf pic.width))) } } := by
  rw [captureFused_copies h hx, hq, hn]
  refine (queued_fresh ?_ ?_ _).trans rfl
  · exact hq
  · exact hn

theorem picture_captureFused (b : Buf) (pic : Picture) (s : State) :
    (s.captureFused pic).cp.picture b = s.cp.picture b := by
  cases b <;> simp [Compositor.picture]

theorem picture_filled (k : Compose) (s : State) : (s.filled k).cp.picture k.buffer = some (s.compositeOf k) := by
  unfold State.filled
  cases k.buffer <;> rfl

@[simp] theorem filled_keeps (k : Compose) (s : State) :
    (s.filled k).cp.lastSent = s.cp.lastSent ∧ (s.filled k).cp.compose = none ∧
      (s.filled k).cp.newest = some k.buffer ∧ (s.filled k).cp.fresh = true ∧ (s.filled k).sources = s.sources ∧
      (s.filled k).fs = s.fs ∧ (s.filled k).zc = s.zc ∧ (s.filled k).nq = s.nq := by
  unfold State.filled
  cases k.buffer <;> exact ⟨rfl, rfl, rfl, rfl, rfl, rfl, rfl, rfl⟩

/-- Settles O43: the compose by whether it is live, and a live one by whether a still waits for the composite. -/
theorem composeAndVideoEnd : Obligations.ComposeAndVideoEnd := by
  refine ⟨fun s k hk => ⟨fun hdead => congrArg Host.Outcome.next (composeComplete_discarded hk hdead), fun hlive => ?_⟩,
    fun s v hv hdue => ?_⟩
  · have hpicture := (picture_captureFused k.buffer (s.compositeOf k) (s.filled k)).trans (picture_filled k s)
    refine ⟨_, congrArg Host.Outcome.next (composeComplete_live hk hlive), by simp, by simp, by simp, hpicture, by simp,
      by simp, by simp, by simp, by simp, fun hidle => ?_, fun x hx hs hq hn => ?_⟩
    · rw [captureFused_idle (s := s.filled k) hidle]
      exact ⟨rfl, rfl⟩
    · rw [hpicture, captureFused_fresh (s := s.filled k) hx hs hq hn]
      exact ⟨rfl, rfl, rfl⟩
  · refine congrArg Host.Outcome.next ?_
    simp only [State.videoEnd, hv, waitTimer_due hdue]

end Sys2Proof.Machine
end

section
/-! THEOREM. What a request row leaves unchanged (R20 to R23, R52 to R57, R71 to R75, R85, R132, R155, R156, R188, R189). -/

namespace Sys2Proof.Machine

variable {s t u : State} {i : Src} {src : Byte}

/-! A row changes what its owner changes -/

/-- A row ends with its request being answered on the machine as the delivery or as the owner leaves it. -/
theorem row_ends {P : State → Prop} (h : LinkReady s) {q : Request} {queryOnly : Bool} {tag : Byte}
    (ht : (Host.Outcome.next (s.hostRequest tag queryOnly q) : Host.Outcome State Fault Refusal) = .next t)
    (hkept : P (s.delivered 257)) (hserved : P ((s.delivered 257).serve q queryOnly).state) :
    ∃ u result payload, P u ∧ t = u.answered tag queryOnly q result payload := by
  cases ht
  rw [hostRequest_ready h, takeRequest_of_answer rfl]
  refine ⟨_, _, _, ?_, rfl⟩
  unfold State.answer
  split_ifs
  · exact hkept
  · exact hkept
  · exact hkept
  · exact hserved

/-- A row whose owner leaves the machine as it is changes the link's exchange alone. -/
theorem row_frame (h : LinkReady s) {q : Request} {queryOnly : Bool} {tag : Byte}
    (ht : (Host.Outcome.next (s.hostRequest tag queryOnly q) : Host.Outcome State Fault Refusal) = .next t)
    (hserved : ((s.delivered 257).serve q queryOnly).state = s.delivered 257) :
    t = { s with link := t.link } ∧ t.link.part = s.link.part := by
  obtain ⟨u, result, payload, rfl, rfl⟩ := row_ends (P := fun u => u = s.delivered 257) h ht rfl hserved
  exact ⟨rfl, rfl⟩

/-! The owners -/

theorem state_sourceQuery (src : Byte) (s : State) : (s.sourceQuery src).state = s := by
  unfold State.sourceQuery
  split <;> rfl

theorem state_calRead (src : Byte) (s : State) : (s.calRead src).state = s := by
  unfold State.calRead
  split <;> rfl

/-- CAL_RUN replaces no list but its source's, and with QUERY_ONLY none. -/
theorem state_calRun (src start dir count : Byte) (points : List PointRec) (queryOnly : Bool) (s : State) :
    (s.calRun src start dir count points queryOnly).state = s ∨
      queryOnly = false ∧ ∃ i l, byteSource src = some i ∧
        (s.calRun src start dir count points queryOnly).state = s.setCal i l := by
  unfold State.calRun
  split
  · exact .inl rfl
  next i hi =>
    unfold State.calRunOn
    repeat' split
    · exact .inl rfl
    · exact .inl rfl
    · exact .inl rfl
    · exact .inl rfl
    · exact .inl rfl
    · next hq => exact .inr ⟨Bool.eq_false_of_not_eq_true hq, i, _, hi, rfl⟩

theorem state_ladderSet (count : Byte) (rungs : List RungRec) (queryOnly : Bool) (s : State) :
    (s.ladderSet count rungs queryOnly).state = s ∨
      queryOnly = false ∧ ∃ l, (s.ladderSet count rungs queryOnly).state = s.takeLadder l := by
  unfold State.ladderSet
  split
  · exact .inl rfl
  · split
    · exact .inl rfl
    · cases queryOnly
      · exact .inr ⟨rfl, _, rfl⟩
      · exact .inl rfl

theorem state_outputSet (x : Settings) (queryOnly : Bool) (s : State) :
    (s.outputSet x queryOnly).state = s ∨
      queryOnly = false ∧ (s.outputSet x queryOnly).state = { s with cp := { s.cp with settings := x } } := by
  unfold State.outputSet
  split
  · exact .inl rfl
  · cases queryOnly
    · exact .inr ⟨rfl, rfl⟩
    · exact .inl rfl

theorem state_zoomSet (target rate : Half) (s : State) : ∃ a b c,
    (s.zoomSet target rate).state = { s with zc := { s.zc with target := a, shown := b, rate := c } } := by
  unfold State.zoomSet
  split_ifs
  · exact ⟨s.zc.target, s.zc.shown, s.zc.rate, rfl⟩
  · exact ⟨_, _, _, rfl⟩

theorem state_noticeSetup (mask unmask urgent routine : KindSet) (s : State) :
    ∃ q, (s.noticeSetup mask unmask urgent routine).state = { s with nq := q } := by
  unfold State.noticeSetup
  split
  · exact ⟨s.nq, rfl⟩
  · exact ⟨_, rfl⟩

theorem state_sourceDefine (src : Byte) (d : Description) (s : State) :
    (s.sourceDefine src d).state = s ∨
      ∃ i x, byteSource src = some i ∧ (s.sourceDefine src d).state = (s.setSource i x).setWindow i none := by
  unfold State.sourceDefine
  split
  · exact .inl rfl
  next i hi =>
    unfold State.define
    split_ifs
    · exact .inl rfl
    · exact .inl rfl
    · exact .inl rfl
    split
    · exact .inl rfl
    · exact .inr ⟨i, _, hi, rfl⟩

theorem state_stillTakeFused (s : State) :
    s.stillTakeFused.state = s ∨ s.stillTakeFused.state = s.createStill Still.ofFused := by
  unfold State.stillTakeFused
  split_ifs
  · exact .inl rfl
  · exact .inl rfl
  · exact .inr rfl

theorem state_stillTakeSource (src : Byte) (s : State) :
    (s.stillTakeSource src).state = s ∨ ∃ i r, (s.stillTakeSource src).state = s.pinFrame i r := by
  unfold State.stillTakeSource
  split
  · exact .inl rfl
  next i hi =>
    unfold State.stillTakeKnown
    split_ifs
    · exact .inl rfl
    · exact .inl rfl
    split
    · exact .inl rfl
    · exact .inr ⟨i, _, rfl⟩

/-! The stills (R155, R158) -/

/-- A pin touches no record of a ring but for its still hold. -/
theorem pinFrame_frame (i : Src) (r : FrameRec) (s : State) : ∃ cc queue rings,
    s.pinFrame i r = { s with cc := cc, op := { s.op with queue := queue }, fs := { s.fs with rings := rings } } ∧
      ∀ j, (rings.get j).map (fun q => { q with heldS := false }) = (s.ring j).map fun q => { q with heldS := false } := by
  refine ⟨_, _, (s.placeStillHold i r.slot).fs.rings,
    (fillQueue_queued (x := { Still.ofSource i r.width with id := nextId s.cc.lastId }) rfl rfl rfl).trans rfl, fun j => ?_⟩
  show ((s.placeStillHold i r.slot).ring j).map _ = _
  rw [State.placeStillHold, ring_setRing]
  split_ifs with hj
  · rw [hj, List.map_map]
    refine List.map_congr_left fun q _ => ?_
    simp only [Function.comp_apply]
    split_ifs <;> rfl
  · rfl

/-! SOURCE_POWER (R21, R22) -/

theorem source_removeRecord_ne {j : Src} (h : ∀ r, s.zc.record = some r → j ≠ r.taker) :
    s.removeRecord.source j = s.source j := by
  cases hrec : s.zc.record with
  | none => rw [State.removeRecord, hrec]
  | some r =>
    rw [removeRecord_eq hrec, source_setSource, if_neg (h r hrec)]
    rfl

theorem freeableTarget_taker (h : s.freeableTarget i = true) {r : Transition} (hr : s.zc.record = some r) : r.taker = i := by
  simp only [State.freeableTarget, hr, decide_eq_true_eq] at h
  exact h.2.2

/-- What SOURCE_POWER leaves alone in every case. -/
structure PowerFrame (src : Byte) (s t : State) : Prop where
  parts : t.gu = s.gu ∧ t.cp = s.cp ∧ t.op = s.op ∧ t.cc = s.cc ∧ t.cru = s.cru ∧ t.fs.slots = s.fs.slots
  others : ∀ i, byteSource src ≠ some i → t.source i = s.source i ∧ t.receiver i = s.receiver i ∧ t.ring i = s.ring i

theorem powerFrame_refl (src : Byte) (s : State) : PowerFrame src s s :=
  ⟨⟨rfl, rfl, rfl, rfl, rfl, rfl⟩, fun _ _ => ⟨rfl, rfl, rfl⟩⟩

theorem powerFrame_wake (h : byteSource src = some i) (s : State) : PowerFrame src s (s.wake .normal i) where
  parts := by simp
  others j hj := by
    have hne : j ≠ i := fun hji => hj (hji ▸ h)
    exact ⟨by simp [source_wake, hne], receiver_congr _ _ (by simp) j, ring_congr _ _ (by simp) j⟩

theorem powerFrame_park (h : byteSource src = some i) (hu : PowerFrame src s u) : PowerFrame src s (u.park i) where
  parts := by simpa using hu.parts
  others j hj := by
    have hne : j ≠ i := fun hji => hj (hji ▸ h)
    have hview := parkView_park i j u
    rw [if_neg hne] at hview
    simp only [State.parkView, Prod.mk.injEq] at hview
    obtain ⟨hsource, hring, hreceiver⟩ := hview
    rw [hsource, hring, hreceiver]
    exact hu.others j hj

theorem powerFrame_removeRecord (h : byteSource src = some i) (hf : s.freeableTarget i = true) :
    PowerFrame src s s.removeRecord where
  parts := by simp
  others j hj := by
    have hne : j ≠ i := fun hji => hj (hji ▸ h)
    refine ⟨source_removeRecord_ne fun r hr => ?_, receiver_congr _ _ (by simp) j, ring_congr _ _ (by simp) j⟩
    rw [freeableTarget_taker hf hr]
    exact hne

theorem powerFrame_powerWake (src : Byte) (s : State) : PowerFrame src s (s.powerWake src).state := by
  unfold State.powerWake
  split
  · exact powerFrame_refl ..
  next i hi =>
    split_ifs
    · exact powerFrame_refl ..
    · exact powerFrame_refl ..
    · unfold State.wakeKnown
      split
      · exact powerFrame_refl ..
      · exact powerFrame_wake hi s
      all_goals exact powerFrame_refl ..

theorem powerFrame_freeAndPark (h : byteSource src = some i) (s : State) : PowerFrame src s (s.freeAndPark i) := by
  unfold State.freeAndPark
  split_ifs with hf
  · exact powerFrame_park h (powerFrame_removeRecord h hf)
  · exact powerFrame_park h (powerFrame_refl src s)

theorem powerFrame_powerPark (src : Byte) (s : State) : PowerFrame src s (s.powerPark src).state := by
  unfold State.powerPark
  split
  · exact powerFrame_refl ..
  next i hi =>
    split_ifs
    · exact powerFrame_refl ..
    · exact powerFrame_refl ..
    · unfold State.parkKnown
      split_ifs
      · exact powerFrame_refl ..
      · exact powerFrame_refl ..
      · exact powerFrame_refl ..
      · exact powerFrame_refl ..
      · exact powerFrame_freeAndPark hi s

theorem row_powerFrame (h : LinkReady s) {q : Request} {queryOnly : Bool} {tag : Byte}
    (ht : (Host.Outcome.next (s.hostRequest tag queryOnly q) : Host.Outcome State Fault Refusal) = .next t)
    (hserved : PowerFrame src (s.delivered 257) ((s.delivered 257).serve q queryOnly).state) :
    t.gu = s.gu ∧ t.cp = s.cp ∧ t.op = s.op ∧ t.cc = s.cc ∧ t.cru = s.cru ∧ t.fs.slots = s.fs.slots ∧
      ∀ i, byteSource src ≠ some i → t.source i = s.source i ∧ t.receiver i = s.receiver i ∧ t.ring i = s.ring i := by
  obtain ⟨u, result, payload, ⟨⟨hgu, hcp, hop, hcc, hcru, hslots⟩, hothers⟩, rfl⟩ :=
    row_ends (P := PowerFrame src (s.delivered 257)) h ht (powerFrame_refl ..) hserved
  exact ⟨hgu, hcp, hop, hcc, hcru, hslots, hothers⟩

/-- Settles O49: each row by what its owner changes. -/
theorem requestFrames : Obligations.RequestFrames := by
  intro s t tag h
  refine ⟨?_, fun src start dir count points ht => ?_, fun count rungs ht => ?_, fun wo period n tolerance m window ht => ?_,
    fun target rate ht => ?_, fun src base width period stretch settle sync idle ht => ?_, ?_, ?_, fun src action ht => ?_⟩
  · rintro c (rfl | rfl | rfl | rfl | ⟨src, rfl⟩ | ⟨src, rfl⟩ | ⟨src, start, dir, count, points, rfl⟩ | ⟨count, rungs, rfl⟩ |
      ⟨wo, period, n, tolerance, m, window, rfl⟩) ht
    · exact row_frame (q := .nop) h ht rfl
    · exact row_frame (q := .ident) h ht rfl
    · exact row_frame (q := .resetPart) h ht rfl
    · exact row_frame (q := .zoomQuery) h ht rfl
    · exact row_frame (q := .sourceQuery src) h ht (state_sourceQuery ..)
    · exact row_frame (q := .calRead src) h ht (state_calRead ..)
    · exact row_frame (q := .calRun ..) h ht ((state_calRun ..).resolve_right nofun)
    · exact row_frame (q := .ladderSet ..) h ht ((state_ladderSet ..).resolve_right nofun)
    · exact row_frame (q := .outputSet ..) h ht ((state_outputSet ..).resolve_right nofun)
  · obtain ⟨u, result, payload, hu, rfl⟩ := row_ends (q := .calRun src start dir count points)
      (P := fun u => u = s.delivered 257 ∨ ∃ i l, byteSource src = some i ∧ u = (s.delivered 257).setCal i l) h ht (.inl rfl)
      ((state_calRun ..).imp_right And.right)
    rcases hu with rfl | ⟨i, l, hi, rfl⟩
    · exact ⟨rfl, fun _ _ => rfl⟩
    · have hne (j : Src) (hj : byteSource src ≠ some j) : ¬ j = i := fun hji => hj (hji ▸ hi)
      exact ⟨rfl, fun j hj => (get_set ..).trans (if_neg (hne j hj))⟩
  · obtain ⟨u, result, payload, hu, rfl⟩ := row_ends (q := .ladderSet count rungs)
      (P := fun u => u = s.delivered 257 ∨ ∃ l, u = (s.delivered 257).takeLadder l) h ht (.inl rfl)
      ((state_ladderSet ..).imp_right And.right)
    rcases hu with rfl | ⟨l, rfl⟩ <;> rfl
  · obtain ⟨u, result, payload, hu, rfl⟩ := row_ends (q := .outputSet wo period n tolerance m window)
      (P := fun u => ∃ x, u = { s.delivered 257 with cp := { s.cp with settings := x } }) h ht ⟨s.cp.settings, rfl⟩
      ((state_outputSet ..).elim (fun hsame => ⟨s.cp.settings, hsame⟩) fun ⟨_, hset⟩ => ⟨_, hset⟩)
    obtain ⟨x, rfl⟩ := hu
    rfl
  · obtain ⟨u, result, payload, hu, rfl⟩ := row_ends (q := .zoomSet target rate)
      (P := fun u => ∃ a b c, u = { s.delivered 257 with zc := { s.zc with target := a, shown := b, rate := c } }) h ht
      ⟨s.zc.target, s.zc.shown, s.zc.rate, rfl⟩ (state_zoomSet ..)
    obtain ⟨a, b, c, rfl⟩ := hu
    rfl
  · obtain ⟨u, result, payload, hu, rfl⟩ := row_ends (q := .sourceDefine src base width period stretch settle sync idle)
      (P := fun u => u = s.delivered 257 ∨
        ∃ i x, byteSource src = some i ∧ u = ((s.delivered 257).setSource i x).setWindow i none) h ht (.inl rfl)
      (state_sourceDefine ..)
    rcases hu with rfl | ⟨i, x, hi, rfl⟩
    · exact ⟨rfl, fun _ _ => ⟨rfl, rfl⟩⟩
    · have hne (j : Src) (hj : byteSource src ≠ some j) : ¬ j = i := fun hji => hj (hji ▸ hi)
      exact ⟨rfl, fun j hj => ⟨(get_set ..).trans (if_neg (hne j hj)), (get_set ..).trans (if_neg (hne j hj))⟩⟩
  · rintro c (rfl | ⟨a, b, d, e, rfl⟩) ht
    · obtain ⟨u, result, payload, ⟨q, rfl⟩, rfl⟩ := row_ends (q := .noticeTake)
        (P := fun u => ∃ q, u = { s.delivered 257 with nq := q }) h ht ⟨s.nq, rfl⟩ ⟨_, rfl⟩
      rfl
    · obtain ⟨u, result, payload, ⟨q, rfl⟩, rfl⟩ := row_ends (q := .noticeSetup a b d e)
        (P := fun u => ∃ q, u = { s.delivered 257 with nq := q }) h ht ⟨s.nq, rfl⟩ (state_noticeSetup ..)
      rfl
  · rintro c ⟨src, rfl | rfl⟩ ht
    · obtain ⟨u, result, payload, hu, rfl⟩ := row_ends (q := .stillTake 1 src)
        (P := fun u => u = s.delivered 257 ∨ ∃ i r, u = (s.delivered 257).pinFrame i r) h ht (.inl rfl)
        (state_stillTakeSource ..)
      rcases hu with rfl | ⟨i, r, rfl⟩
      · exact ⟨rfl, fun _ => rfl⟩
      · obtain ⟨cc, queue, rings, hpin, hrings⟩ := pinFrame_frame i r (s.delivered 257)
        rw [hpin]
        exact ⟨rfl, hrings⟩
    · obtain ⟨u, result, payload, hu, rfl⟩ := row_ends (q := .stillTake 2 src)
        (P := fun u => u = s.delivered 257 ∨ u = (s.delivered 257).createStill Still.ofFused) h ht (.inl rfl)
        (state_stillTakeFused ..)
      rcases hu with rfl | rfl <;> exact ⟨rfl, fun _ => rfl⟩
  · cases action
    · exact row_powerFrame (q := .sourcePower src 0) h ht (powerFrame_powerPark ..)
    · exact row_powerFrame (q := .sourcePower src 1) h ht (powerFrame_powerWake ..)

end Sys2Proof.Machine
end

section
/-! THEOREM. What the events of one source, of the output and of a still leave unchanged (R5, R7, R9, R13, R24 to R26, R141,
R147, R149, R159 to R162, R187). -/

namespace Sys2Proof.Machine

variable {s t u : State} {i : Src}

/-! An event of one source touches that source's parts alone -/

/-- What belongs to one source: its record, receiver, ring, slots and pending reports. -/
def State.share (s : State) (j : Src) : Source × Receiver × List FrameRec × Four Content × List Report :=
  (s.source j, s.receiver j, s.ring j, s.fs.slots.get j, s.zc.reports.get j)

/-- `t` differs from `s` at the parts of one source alone, and of the zoom state in pending reports alone. -/
structure OnlyAt (i : Src) (s t : State) : Prop where
  zc : t.zc = { s.zc with reports := t.zc.reports }
  others : ∀ j, j ≠ i → t.share j = s.share j

theorem OnlyAt.refl (i : Src) (s : State) : OnlyAt i s s := ⟨rfl, fun _ _ => rfl⟩

theorem OnlyAt.same (h : OnlyAt i s t) (hsrc : u.sources = t.sources) (hrec : u.receivers = t.receivers) (hfs : u.fs = t.fs)
    (hzc : u.zc = t.zc) : OnlyAt i s u where
  zc := by rw [hzc]; exact h.zc
  others j hj := by
    rw [← h.others j hj]
    simp only [State.share, State.source, State.receiver, State.ring, hsrc, hrec, hfs, hzc]

theorem OnlyAt.setSource (h : OnlyAt i s t) (x : Source) : OnlyAt i s (t.setSource i x) where
  zc := h.zc
  others j hj := by
    rw [← h.others j hj, State.share, source_setSource, if_neg hj]
    rfl

theorem OnlyAt.setReceiver (h : OnlyAt i s t) (x : Receiver) : OnlyAt i s (t.setReceiver i x) where
  zc := h.zc
  others j hj := by
    rw [← h.others j hj, State.share, receiver_setReceiver, if_neg hj]
    rfl

theorem OnlyAt.setRing (h : OnlyAt i s t) (x : List FrameRec) : OnlyAt i s (t.setRing i x) where
  zc := h.zc
  others j hj := by
    rw [← h.others j hj, State.share, ring_setRing, if_neg hj]
    rfl

theorem OnlyAt.setSlot (h : OnlyAt i s t) (k : Slot) (x : Content) : OnlyAt i s (t.setSlot i k x) where
  zc := h.zc
  others j hj := by
    rw [← h.others j hj, State.share, slots_setSlot, if_neg hj]
    rfl

theorem OnlyAt.setReports (h : OnlyAt i s t) (l : List Report) : OnlyAt i s (t.setReports i l) where
  zc := congrArg (fun z => { z with reports := t.zc.reports.set i l }) h.zc
  others j hj := by
    have hget : (t.setReports i l).zc.reports.get j = t.zc.reports.get j := (get_set ..).trans (if_neg hj)
    rw [← h.others j hj, State.share, hget]
    rfl

theorem OnlyAt.post (h : OnlyAt i s t) (source : Option Src) (p : Payload) : OnlyAt i s (t.post source p) :=
  h.same rfl rfl rfl rfl

theorem OnlyAt.waitTimer (h : OnlyAt i s t) (x : Timer) : OnlyAt i s (t.waitTimer x) :=
  h.same (by simp) (by simp) (by simp) (by simp)

theorem OnlyAt.postState (h : OnlyAt i s t) (purpose : Purpose) (new prev : SrcState) :
    OnlyAt i s (t.postState i purpose new prev) :=
  h.same (by simp) (by simp) (by simp) (by simp)

theorem OnlyAt.purge (h : OnlyAt i s t) : OnlyAt i s (t.purge i) := (h.setRing _).setReceiver _

theorem OnlyAt.park (h : OnlyAt i s t) : OnlyAt i s (t.park i) := by
  unfold State.park
  split_ifs
  · exact h
  · exact ((h.setSource _).purge).postState ..

theorem OnlyAt.faultSource (h : OnlyAt i s t) (cause : FaultCause) : OnlyAt i s (t.faultSource cause i) :=
  (((h.setSource _).purge).post _ _).setReports _

theorem OnlyAt.enterWarm (h : OnlyAt i s t) : OnlyAt i s (t.enterWarm i) :=
  ((h.setSource _).setSource _).postState ..

theorem OnlyAt.settleTest (h : OnlyAt i s t) (x : TestRecord) : OnlyAt i s (t.settleTest x) :=
  h.same (by simp) (by simp) (by simp) (by simp)

theorem OnlyAt.testEnd (h : OnlyAt i s t) (code : TestCode) : OnlyAt i s (t.testEnd i code) := by
  unfold State.testEnd
  split
  · exact h.park
  · exact h.park.settleTest _

/-! The receiver's events (R25 to R39) -/

theorem OnlyAt.postReceiver (h : OnlyAt i s t) (p : Payload) : OnlyAt i s (t.postReceiver i p) :=
  h.same (by simp) (by simp) (by simp) (by simp)

theorem OnlyAt.eighthBadFrame (h : OnlyAt i s t) : OnlyAt i s (t.eighthBadFrame i) := by
  unfold State.eighthBadFrame
  split_ifs
  · split
    · exact h.faultSource .link
    · exact h.testEnd .badFrames
  · exact h

theorem OnlyAt.badFrame (h : OnlyAt i s t) (cause : BadCause) (lines : Nat) (counter : Option Half) :
    OnlyAt i s (t.badFrame i cause lines counter) := by
  have hposted := OnlyAt.postReceiver (h.setReceiver { t.receiver i with run := (t.receiver i).run + 1 })
    (.linkFault cause lines ((t.receiver i).run + 1) counter)
  unfold State.badFrame
  dsimp only
  split_ifs
  · exact hposted.eighthBadFrame
  · exact hposted

theorem OnlyAt.setIntake (h : OnlyAt i s t) (x : Intake) : OnlyAt i s (t.setIntake i x) := h.setReceiver _

theorem OnlyAt.cutOff (h : OnlyAt i s t) : OnlyAt i s (t.cutOff i) := by
  unfold State.cutOff
  split
  · exact h
  · exact h
  · exact (h.setRing _).badFrame ..
  · exact (h.setRing _).badFrame ..

theorem OnlyAt.openFrame (h : OnlyAt i s t) : OnlyAt i s (t.openFrame i) := by
  unfold State.openFrame
  split_ifs
  · unfold State.appendFrame
    split
    · exact h.setIntake _
    · exact ((h.setRing _).setSlot _ _).setReceiver _
  · exact h.setIntake _

theorem onlyAt_frameStart (i : Src) (s : State) : OnlyAt i s (s.frameStart i) := by
  unfold State.frameStart
  split_ifs
  · exact .refl i s
  · exact (OnlyAt.refl i s).cutOff.openFrame

theorem OnlyAt.frameLoss (h : OnlyAt i s t) (c : Half) : OnlyAt i s (t.frameLoss i c) := by
  unfold State.frameLoss
  split
  · exact h
  · split_ifs
    · exact h
    · exact h.postReceiver _

theorem OnlyAt.takeMeta (h : OnlyAt i s t) (pixels : List Pixel) : OnlyAt i s (t.takeMeta i pixels) := by
  unfold State.takeMeta
  split
  · exact ((h.frameLoss _).setRing _).setReceiver _
  · exact ((h.setRing _).setIntake _).badFrame ..

theorem OnlyAt.takeImage (h : OnlyAt i s t) (pixels : List Pixel) : OnlyAt i s (t.takeImage i pixels) := by
  unfold State.takeImage
  split
  · exact h.setReceiver _
  · split_ifs
    · exact (h.setSlot _ _).setReceiver _
    · exact h.setReceiver _

theorem onlyAt_takeLine (i : Src) (pixels : List Pixel) (s : State) : OnlyAt i s (s.takeLine i pixels) := by
  unfold State.takeLine
  split
  · exact .refl i s
  · exact .refl i s
  · exact (OnlyAt.refl i s).takeMeta pixels
  · exact (OnlyAt.refl i s).takeImage pixels

theorem OnlyAt.firstReady (h : OnlyAt i s t) : OnlyAt i s (t.firstReady i) := by
  unfold State.firstReady
  split_ifs
  · split
    · exact h.enterWarm
    · exact h.testEnd .pass
  · exact h

theorem OnlyAt.lineCountFault (h : OnlyAt i s t) : OnlyAt i s (t.lineCountFault i) := ((h.setRing _).setIntake _).badFrame ..

theorem onlyAt_frameEnd (i : Src) (s : State) : OnlyAt i s (s.frameEnd i) := by
  have h := OnlyAt.refl i s
  unfold State.frameEnd
  split
  · exact h
  · exact h.setIntake _
  · exact h.lineCountFault
  · split_ifs
    · exact OnlyAt.firstReady (((h.setRing _).setSource _).setReceiver _)
    · exact h.lineCountFault

/-! The timers of a source (R5, R7, R9, R13) -/

theorem onlyAt_settleExpiry (i : Src) (s : State) : OnlyAt i s (s.settleExpiry i) := by
  unfold State.settleExpiry
  split
  · exact .refl i s
  · split_ifs
    · exact (((OnlyAt.refl i s).waitTimer _).setSource _).postState ..
    · exact .refl i s

theorem onlyAt_syncExpiry (i : Src) (s : State) : OnlyAt i s (s.syncExpiry i) := by
  unfold State.syncExpiry
  split
  · exact .refl i s
  · split_ifs
    · unfold State.syncFailed
      split
      · exact ((OnlyAt.refl i s).waitTimer _).faultSource .noSync
      · exact ((OnlyAt.refl i s).waitTimer _).testEnd .noSync
    · exact .refl i s

theorem onlyAt_frameTimeout (i : Src) (s : State) : OnlyAt i s (s.frameTimeout i) := by
  unfold State.frameTimeout
  split
  · exact .refl i s
  · split_ifs
    · exact ((OnlyAt.refl i s).waitTimer _).faultSource .frameTimeout
    · exact .refl i s

theorem onlyAt_idleExpiry (i : Src) (s : State) : OnlyAt i s (s.idleExpiry i) := by
  unfold State.idleExpiry
  split
  · exact .refl i s
  · split_ifs
    · exact ((OnlyAt.refl i s).waitTimer _).park
    · exact .refl i s

theorem OnlyAt.fields (h : OnlyAt i s t) {j : Src} (hj : j ≠ i) :
    t.source j = s.source j ∧ t.receiver j = s.receiver j ∧ t.ring j = s.ring j ∧
      t.fs.slots.get j = s.fs.slots.get j ∧ t.zc.reports.get j = s.zc.reports.get j := by
  simpa [State.share] using h.others j hj

/-- The parts that no event of a source reaches (R3, R73, R131, R154, R166). -/
def Untouched (s t : State) : Prop :=
  t.link = s.link ∧ t.gu = s.gu ∧ t.cp = s.cp ∧ t.op = s.op ∧ t.cc = s.cc ∧ t.pending = s.pending ∧
    t.cru.straps = s.cru.straps ∧ t.cru.lock = s.cru.lock

theorem event_fields (h : OnlyAt i s t) (hu : Untouched s t) :
    t.link = s.link ∧ t.gu = s.gu ∧ t.cp = s.cp ∧ t.op = s.op ∧ t.cc = s.cc ∧ t.pending = s.pending ∧
      t.zc = { s.zc with reports := t.zc.reports } ∧ t.cru.straps = s.cru.straps ∧ t.cru.lock = s.cru.lock ∧
      ∀ j, j ≠ i → t.source j = s.source j ∧ t.receiver j = s.receiver j ∧ t.ring j = s.ring j ∧
        t.fs.slots.get j = s.fs.slots.get j ∧ t.zc.reports.get j = s.zc.reports.get j := by
  obtain ⟨hlink, hgu, hcp, hop, hcc, hpending, hstraps, hlock⟩ := hu
  exact ⟨hlink, hgu, hcp, hop, hcc, hpending, h.zc, hstraps, hlock, fun j hj => h.fields hj⟩

/-! The compositor and the tick -/

@[simp] theorem setPicture_keeps (c : Compositor) (b : Buf) (p : Option Picture) :
    (c.setPicture b p).settings = c.settings ∧ (c.setPicture b p).sub = c.sub ∧
      (c.setPicture b p).pendingPrimary = c.pendingPrimary ∧ (c.setPicture b p).deadline = c.deadline ∧
      (c.setPicture b p).newest = c.newest ∧ (c.setPicture b p).lastSent = c.lastSent ∧
      (c.setPicture b p).fresh = c.fresh ∧ (c.setPicture b p).overruns = c.overruns ∧
      (c.setPicture b p).repeats = c.repeats ∧ (c.setPicture b p).stillCopy = c.stillCopy := by
  cases b <;> exact ⟨rfl, rfl, rfl, rfl, rfl, rfl, rfl, rfl, rfl, rfl⟩

theorem composeComplete_output (s : State) : s.composeComplete.cp.settings = s.cp.settings ∧
    s.composeComplete.cp.sub = s.cp.sub ∧ s.composeComplete.cp.deadline = s.cp.deadline := by
  unfold State.composeComplete
  split
  · exact ⟨rfl, rfl, rfl⟩
  · split_ifs
    · simp [State.completeLive]
    · exact ⟨rfl, rfl, rfl⟩

/-- What a compose begin leaves in the compositor, whether it begins or not. -/
@[simp] theorem composeBegin_output (s : State) :
    s.composeBegin.cp.settings = s.cp.settings ∧ s.composeBegin.cp.sub = s.cp.sub ∧
      s.composeBegin.cp.pendingPrimary = s.cp.pendingPrimary ∧ s.composeBegin.cp.deadline = s.cp.deadline ∧
      s.composeBegin.cp.newest = s.cp.newest ∧ s.composeBegin.cp.lastSent = s.cp.lastSent ∧
      s.composeBegin.cp.fresh = s.cp.fresh ∧ s.composeBegin.cp.overruns = s.cp.overruns ∧
      s.composeBegin.cp.stillCopy = s.cp.stillCopy := by
  unfold State.composeBegin
  split
  · simp
  · simp [State.beginCompose, State.openCompose]

theorem tickWork_output (s : State) :
    s.tickWork.cp.settings = s.cp.settings ∧ s.tickWork.cp.stillCopy = s.cp.stillCopy := by
  unfold State.tickWork
  dsimp only
  split_ifs
  · simp
  · simp

theorem tick_output (s : State) : s.tick.cp.settings = s.cp.settings ∧ s.tick.cp.stillCopy = s.cp.stillCopy := by
  unfold State.tick
  split
  · simp [tickWork_output]
  · exact ⟨rfl, rfl⟩

/-- Settles O50: a source's event reaches its own parts alone; the other events by what their operations keep. -/
theorem eventFrames : Obligations.EventFrames := by
  intro s t
  refine ⟨?_, ?_, ?_, ?_⟩
  · rintro c i (rfl | rfl | ⟨p, rfl⟩ | ⟨p, rfl⟩ | rfl | rfl | rfl | rfl) ⟨⟩
    · exact event_fields (onlyAt_frameStart i s) (by simp [Untouched])
    · exact event_fields (onlyAt_frameEnd i s) (by simp [Untouched])
    · exact event_fields (onlyAt_takeLine i p s) (by simp [Untouched])
    · exact event_fields (onlyAt_takeLine i p s) (by simp [Untouched])
    · exact event_fields (onlyAt_settleExpiry i s) (by simp [Untouched])
    · exact event_fields (onlyAt_syncExpiry i s) (by simp [Untouched])
    · exact event_fields (onlyAt_frameTimeout i s) (by simp [Untouched])
    · exact event_fields (onlyAt_idleExpiry i s) (by simp [Untouched])
  · rintro c (rfl | rfl | rfl) ⟨⟩
    · simp
    · simp
    · simp
  · rintro c (rfl | rfl | rfl) ⟨⟩
    · simp [composeComplete_output]
    · simp
    · simp
  · rintro ⟨⟩
    simp [tick_output]

end Sys2Proof.Machine
end

section
/-! THEOREM. OUTPUT_START (R134 to R136, R140). -/

namespace Sys2Proof.Machine

variable {s t u : State} {i p : Src}

/-! A role that a usable source takes (R11, R12) -/

theorem setSource_setSource (i : Src) (x y : Source) (s : State) : (s.setSource i x).setSource i y = s.setSource i y := by
  cases i <;> rfl

/-- A usable source takes another role than WARM: its reports name no role any more and its idle timer stops. -/
theorem setRole_taken (h : (s.source i).state.usable = true) {role : SrcState} (hne : (s.source i).state ≠ role)
    (hr : role ≠ .warm) : s.setRole i role =
      ((s.settleReports i).setSource i { s.source i with state := role, idle := none }).postState i
        (s.source i).purpose role (s.source i).state := by
  have hruns : ((s.settleReports i).setSource i { s.source i with state := role, idle := none }).idleRuns i = false :=
    idleRuns_of_not_warm (by simpa using hr)
  have htake : (s.settleReports i).takeRole i role =
      (((s.settleReports i).setSource i { s.source i with state := role, idle := none }).restartIdle i).postState i
        (s.source i).purpose role (s.source i).state := if_neg hne
  rw [State.setRole, if_pos h, htake, State.restartIdle, hruns, setSource_setSource, source_setSource, if_pos rfl]
  rfl

theorem source_setRole_taken (h : (s.source i).state.usable = true) {role : SrcState} (hne : (s.source i).state ≠ role)
    (hr : role ≠ .warm) : (s.setRole i role).source i = { s.source i with state := role, idle := none } := by
  rw [setRole_taken h hne hr, source_postState, source_setSource, if_pos rfl]

/-! The starting primary (R134) -/

theorem startingRung_eq {l : Ladder} {k z : Nat} {g : Rung} (hg : l[k]? = some g) (hk : k = 0 ∨ g.u ≤ z)
    (habove : ∀ j h, k < j → l[j]? = some h → z < h.u) : startingRung z l = some g.source := by
  cases l with
  | nil => cases hg
  | cons r rest =>
    have hlast : (rest.filter fun q => decide (q.u ≤ z)).getLast?.getD r = g := by
      cases k with
      | zero =>
        have hempty : rest.filter (fun q => decide (q.u ≤ z)) = [] := by
          rw [List.filter_eq_nil_iff]
          intro q hq
          obtain ⟨j, hj⟩ := List.getElem?_of_mem hq
          have := habove (j + 1) q (by omega) hj
          simp only [decide_eq_true_eq]
          omega
        rw [hempty]
        exact Option.some.inj hg
      | succ j =>
        have hj : j < rest.length := Nat.lt_of_succ_lt_succ (List.getElem?_eq_some_iff.mp hg).1
        have hsplit : rest = rest.take j ++ g :: rest.drop (j + 1) := by
          rw [← (List.getElem?_eq_some_iff.mp hg).2, List.getElem_cons_succ, List.getElem_cons_drop, List.take_append_drop]
        have hempty : (rest.drop (j + 1)).filter (fun q => decide (q.u ≤ z)) = [] := by
          rw [List.filter_eq_nil_iff]
          intro q hq
          obtain ⟨m, hm⟩ := List.getElem?_of_mem hq
          rw [List.getElem?_drop] at hm
          have := habove (j + 1 + m + 1) q (by omega) (by simpa using hm)
          simp only [decide_eq_true_eq]
          omega
        have hu : g.u ≤ z := hk.resolve_left (by omega)
        rw [hsplit, List.filter_append, List.filter_cons, if_pos (by simpa using hu), hempty]
        simp
    rw [startingRung, hlast]

/-! The request (R135, R136) -/

theorem outputStart_refused (h : s.link.part = .config) (hs : s.cru.test ≠ none ∨ s.zc.ladder = none) :
    s.outputStart = s.refuse .wrongState [] := by
  unfold State.outputStart
  rw [if_neg (not_not_intro h)]
  split_ifs with htest
  · rfl
  · rw [hs.resolve_left (by simpa using htest)]
    rfl

theorem outputStart_rung (h : s.link.part = .config) (ht : s.cru.test = none) {l : Ladder} (hl : s.zc.ladder = some l)
    (hp : startingRung s.zc.shown l = some p) : s.outputStart =
      if (s.source p).state = .fault then s.refuse .noSource []
      else ⟨s.beginOutput.placePrimary p, .ok, (s.beginOutput.placePrimary p).startBytes p⟩ := by
  unfold State.outputStart
  rw [if_neg (not_not_intro h), ht, if_neg (by decide), hl, Option.bind_some, hp]

theorem placePrimary_warm (h : (s.source p).state = .warm) : s.placePrimary p = (s.setSub .running).setRole p .primary := by
  rw [State.placePrimary, h]

theorem wake_awake (h : (s.source i).state ≠ .parked) (purpose : Purpose) : s.wake purpose i = s := if_neg fun hw => h hw.1

theorem source_awaitPrimary (p j : Src) (s : State) : (s.awaitPrimary p).source j =
    if j = p then { s.source p with idle := none } else s.source j := by
  rw [State.awaitPrimary, source_stopIdle]
  rfl

/-- A starting primary that is not WARM is awaited, and woken where it is PARKED. -/
theorem placePrimary_waits (hr : (s.source p).state.isRole = false) (hf : (s.source p).state ≠ .fault)
    (hw : (s.source p).state ≠ .warm) : s.placePrimary p = (s.awaitPrimary p).wake .normal p := by
  by_cases hp : (s.source p).state = .parked
  · rw [State.placePrimary, hp]
  · rw [wake_awake (by rw [source_awaitPrimary, if_pos rfl]; exact hp), State.placePrimary]
    cases hs : (s.source p).state <;> simp_all [SrcState.isRole]

theorem exec_outputStart (h : LinkReady s) (hp : s.link.part = .config) (tag : Byte) {result : Result} {payload : List Byte}
    (ha : (s.delivered 257).outputStart = ⟨t, result, payload⟩) :
    exec (.outputStart tag) s = .next (t.answered tag false .outputStart result payload) :=
  row_served (q := .outputStart) h rfl (decide_eq_true hp) rfl ha tag

/-! What a start leaves (R136, R140) -/

theorem OnlyAt.takeRole (h : OnlyAt i s t) (role : SrcState) : OnlyAt i s (t.takeRole i role) := by
  unfold State.takeRole
  split_ifs
  · exact h
  · exact ((h.setSource _).setSource _).postState ..

theorem OnlyAt.setRole (h : OnlyAt i s t) (role : SrcState) : OnlyAt i s (t.setRole i role) := by
  unfold State.setRole
  split_ifs
  · exact (h.setReports _).takeRole role
  · exact h.setReports _

theorem OnlyAt.wake (h : OnlyAt i s t) (purpose : Purpose) : OnlyAt i s (t.wake purpose i) := by
  unfold State.wake
  split_ifs
  · exact (h.setSource _).postState ..
  · exact h

/-- What a start leaves but for the starting primary's own parts: the output of R136 and R140, the reports of others. -/
structure Started (s t : State) (p : Src) (x : OutSub) (pending : Option Src) : Prop where
  cp : t.cp = { s.beginOutput.cp with sub := x, pendingPrimary := pending }
  link : t.link = s.beginOutput.link
  rest : t.gu = s.gu ∧ t.fs = s.fs ∧ t.op = s.op ∧ t.cc = s.cc
  reach : OnlyAt p s.beginOutput t

theorem OnlyAt.stopIdle (h : OnlyAt i s t) : OnlyAt i s (t.stopIdle i) := h.setSource _

theorem onlyAt_setSub (i : Src) (x : OutSub) (s : State) : OnlyAt i s (s.setSub x) := ⟨rfl, fun _ _ => rfl⟩

theorem onlyAt_await (p : Src) (s : State) : OnlyAt p s (s.awaitPrimary p) :=
  OnlyAt.stopIdle ⟨rfl, fun _ _ => rfl⟩

theorem cp_setRole (i : Src) (role : SrcState) (s : State) : (s.setRole i role).cp = s.cp := by simp

theorem cp_wake (purpose : Purpose) (i : Src) (s : State) : (s.wake purpose i).cp = s.cp := by simp

theorem started_warm (p : Src) (s : State) :
    Started s ((s.beginOutput.setSub .running).setRole p .primary) p .running s.cp.pendingPrimary where
  cp := by rw [cp_setRole]; rfl
  link := by simp
  rest := by simp
  reach := (onlyAt_setSub p .running s.beginOutput).setRole .primary

theorem started_waiting (p : Src) (s : State) :
    Started s ((s.beginOutput.awaitPrimary p).wake .normal p) p .starting (some p) where
  cp := by rw [cp_wake]; rfl
  link := by simp
  rest := by simp
  reach := (onlyAt_await p s.beginOutput).wake .normal

theorem idle_wake_await (p : Src) (s : State) : (((s.awaitPrimary p).wake .normal p).source p).idle = none := by
  rw [source_wake, source_awaitPrimary, if_pos rfl]
  split_ifs <;> rfl

theorem state_wake_await (p : Src) (s : State) : (((s.awaitPrimary p).wake .normal p).source p).state =
    if (s.source p).state = .parked ∧ (s.source p).defined = true then .waking else (s.source p).state := by
  rw [source_wake, source_awaitPrimary, if_pos rfl]
  by_cases hwake : (s.source p).state = .parked ∧ (s.source p).defined = true
  · rw [if_pos ⟨rfl, hwake⟩, if_pos hwake]
  · rw [if_neg fun h => hwake h.2, if_neg hwake]

theorem Started.delivered {x : OutSub} {pending : Option Src} (h : Started (s.delivered 257) u p x pending) :
    (s.undelivered u).delivered 257 = u :=
  undelivered_delivered (by rw [h.link]; rfl)

/-- The parts of a started output, before the reply is delivered. -/
theorem Started.fields {x : OutSub} {pending : Option Src} (h : Started (s.delivered 257) u p x pending) :
    (s.undelivered u).link = { s.link with part := .streaming } ∧
      u.cp.deadline = some (s.cru.time + BitVec.ofNat 32 s.cp.settings.period) ∧ u.cp.overruns = 0 ∧ u.cp.repeats = 0 ∧
      u.cp.newest = none ∧ u.cp.lastSent = none ∧ u.cp.compose = none ∧ u.cp.settings = s.cp.settings ∧
      u.cp.sub = x ∧ u.cp.pendingPrimary = pending ∧ u.zc = { s.zc with bounds := none, reports := u.zc.reports } ∧
      ∀ j, j ≠ p → u.zc.reports.get j = s.zc.reports.get j ∧ u.source j = s.source j := by
  refine ⟨?_, ?_, ?_, ?_, ?_, ?_, ?_, ?_, ?_, ?_, h.reach.zc, fun j hj => ?_⟩
  · rw [State.undelivered, h.link]
    rfl
  · rw [h.cp]; rfl
  · rw [h.cp]; rfl
  · rw [h.cp]; rfl
  · rw [h.cp]; rfl
  · rw [h.cp]; rfl
  · rw [h.cp]; rfl
  · rw [h.cp]; rfl
  · rw [h.cp]
  · rw [h.cp]
  · obtain ⟨hsource, -, -, -, hreports⟩ := h.reach.fields hj
    exact ⟨hreports, hsource⟩

/-- Settles O40: the starting primary by the rung, and its placing by whether it is WARM. -/
theorem outputStartTaken : Obligations.OutputStartTaken := by
  refine ⟨fun s tag l k g h hp ht hl hg hk habove => ?_, fun s tag h hp hs =>
    exec_outputStart h hp tag (outputStart_refused (s := s.delivered 257) hp hs)⟩
  have hstart := outputStart_rung (s := s.delivered 257) hp ht hl (startingRung_eq hg hk habove)
  refine ⟨fun hf => exec_outputStart h hp tag (hstart.trans (if_pos hf)), fun hr hf => ?_⟩
  replace hstart := exec_outputStart h hp tag (hstart.trans (if_neg hf))
  by_cases hw : (s.source g.source).state = .warm
  · have hstarted := started_warm g.source (s.delivered 257)
    have husable : (s.source g.source).state.usable = true := by rw [hw]; rfl
    have hsource := source_setRole_taken (s := (s.delivered 257).beginOutput.setSub .running) (i := g.source)
      (role := .primary) husable (fun hp => absurd (hw.symm.trans hp) (by decide)) (by decide)
    have hreports := (reports_setRole g.source g.source .primary ((s.delivered 257).beginOutput.setSub .running)).trans
      ((if_pos rfl).trans (if_pos husable))
    rw [placePrimary_warm (s := (s.delivered 257).beginOutput) hw] at hstart
    generalize ((s.delivered 257).beginOutput.setSub .running).setRole g.source .primary = u at *
    obtain ⟨hlink, hdeadline, hover, hrepeat, hnewest, hlast, hcompose, hset, hsub, hpend, hzc, hothers⟩ := hstarted.fields
    obtain ⟨hgu, hfs, hop, hcc⟩ := hstarted.rest
    refine ⟨s.undelivered u, ?_, hlink, hdeadline, hover, hrepeat, hnewest, hlast, hcompose, hset, ?_, hgu, hfs, hop, hcc, hzc,
      fun j hj => ?_, fun j hj => (hothers j hj).2, fun _ => ⟨?_, hsub, hpend⟩, fun hn => absurd hw hn⟩
    · rw [hstarted.delivered, hstart, State.startBytes, hsub, if_pos hw]
      rfl
    · rw [source_undelivered, hsource]
    · by_cases hjp : j = g.source
      · subst hjp
        have hnone : s.zc.reports.get g.source = [] := by simpa [hw] using hj
        exact hreports.trans ((congrArg (List.map Report.settled) hnone).trans hnone.symm)
      · exact (hothers j hjp).1
    · rw [source_undelivered, hsource]
  · have hstarted := started_waiting g.source (s.delivered 257)
    have hidle := idle_wake_await g.source (s.delivered 257).beginOutput
    have hstate := state_wake_await g.source (s.delivered 257).beginOutput
    have hreports : (((s.delivered 257).beginOutput.awaitPrimary g.source).wake .normal g.source).zc.reports =
        s.zc.reports := by simp
    rw [placePrimary_waits (s := (s.delivered 257).beginOutput) hr hf hw] at hstart
    generalize ((s.delivered 257).beginOutput.awaitPrimary g.source).wake .normal g.source = u at *
    obtain ⟨hlink, hdeadline, hover, hrepeat, hnewest, hlast, hcompose, hset, hsub, hpend, hzc, hothers⟩ := hstarted.fields
    obtain ⟨hgu, hfs, hop, hcc⟩ := hstarted.rest
    refine ⟨s.undelivered u, ?_, hlink, hdeadline, hover, hrepeat, hnewest, hlast, hcompose, hset, ?_, hgu, hfs, hop, hcc, hzc,
      fun j _ => congrArg (fun r => r.get j) hreports, fun j hj => (hothers j hj).2, fun h => absurd h hw,
      fun _ => ⟨hsub, hpend, ?_⟩⟩
    · rw [hstarted.delivered, hstart, State.startBytes, hsub, if_neg hw]
      rfl
    · exact hidle
    · exact hstate

end Sys2Proof.Machine
end

section
/-! THEOREM. OUTPUT_STOP (R11, R42, R80, R112, R139, R140, R163). -/

namespace Sys2Proof.Machine

variable {s t u : State} {i : Src} {x : Still}

/-! The roles (R11, R112) -/

/-- The state of a source that leaves the picture. -/
def SrcState.ended (a : SrcState) : SrcState := if a.isRole = true then .warm else a

theorem state_endRole (i j : Src) (s : State) :
    ((s.endRole i).source j).state = if j = i then (s.source i).state.ended else (s.source j).state := by
  have hset (u : State) (l : List Report) : (u.setReports i l).source j = u.source j := rfl
  rw [State.endRole, hset, SrcState.ended]
  by_cases hj : j = i
  · subst hj
    rw [if_pos rfl]
    split_ifs with hr
    · exact state_takeRole j .warm s
    · rfl
  · rw [if_neg hj]
    split_ifs
    · rw [source_takeRole_ne hj]
    · rfl

theorem state_endRoles (s : State) (j : Src) : (s.endRoles.source j).state = (s.source j).state.ended :=
  view_each_source (F := State.endRole) (V := fun s j => (s.source j).state) state_endRole s j

/-! The holds (R41, R42, R163) -/

/-- A source's record and ring, as a release of its compositor holds takes them. -/
def State.holdView (s : State) (j : Src) : Source × List FrameRec := (s.source j, s.ring j)

/-- A ring with every compositor hold released (R41). -/
def releasedView (v : Source × List FrameRec) : Source × List FrameRec :=
  (v.1, v.2.filterMap (releaseRec v.1.state.unpowered .compositor))

theorem holdView_releaseHolds (i j : Src) (s : State) :
    (s.releaseHolds .compositor i).holdView j = if j = i then releasedView (s.holdView i) else s.holdView j := by
  rw [State.holdView, State.releaseHolds, ring_setRing]
  split_ifs with hj
  · rw [hj]
    rfl
  · rfl

theorem ring_releaseAll (s : State) (j : Src) :
    s.releaseAll.ring j = (s.ring j).filterMap (releaseRec (s.source j).state.unpowered .compositor) :=
  congrArg Prod.snd (view_each_source (F := State.releaseHolds .compositor) (V := State.holdView) (g := releasedView)
    holdView_releaseHolds s j)

/-- No record of any ring carries a compositor hold. -/
def Unheld (s : State) : Prop := ∀ i, ∀ q ∈ s.ring i, q.heldC = false

theorem unheld_releaseAll (s : State) : Unheld s.releaseAll := by
  intro i q hq
  rw [ring_releaseAll, List.mem_filterMap] at hq
  obtain ⟨r, -, hr⟩ := hq
  simpa [FrameRec.holds] using holds_releaseRec (k := .compositor) hr

theorem Unheld.rings (h : Unheld s) (hfs : t.fs = s.fs) : Unheld t := fun i q hq => h i q (by rwa [ring_congr s t (by rw [hfs])] at hq)

theorem Unheld.releaseStill (h : Unheld s) (i : Src) : Unheld (s.releaseHolds .still i) := by
  intro j q hq
  rw [State.releaseHolds, ring_setRing] at hq
  split_ifs at hq with hj
  · obtain ⟨r, hr, hrq⟩ := List.mem_filterMap.mp hq
    have hheld := holds_releaseRec (k := .compositor) hrq
    simpa [FrameRec.holds, h i r hr] using hheld
  · exact h j q hq

theorem Unheld.endStill (h : Unheld s) (x : Still) : Unheld (s.endStill x) := by
  unfold State.endStill
  split
  · exact h.rings rfl
  · exact (h.releaseStill _).rings rfl

theorem Unheld.abortStill (h : Unheld s) (x : Still) (cause : StillCause) : Unheld (s.abortStill x cause) := by
  by_cases hg : s.op.group = none
  · rw [abortStill_free hg]
    exact (h.rings (t := s.abortPosted x cause) rfl).endStill x
  · rw [abortStill_busy hg]
    exact h.rings rfl

theorem abortCapture_idle (h : ∀ x, s.cc.still = some x → x.state ≠ .capturing) : s.abortCapture = s := by
  unfold State.abortCapture
  split
  · rfl
  · next x hx => exact if_neg (h x hx)

theorem abortCapture_capturing (h : s.cc.still = some x) (hx : x.state = .capturing) :
    s.abortCapture = s.abortStill x .outputStop := by
  rw [State.abortCapture, h]
  exact if_pos hx

theorem Unheld.abortCapture (h : Unheld s) : Unheld s.abortCapture := by
  unfold State.abortCapture
  split
  · exact h
  · split_ifs
    · exact Unheld.abortStill h _ _
    · exact h

/-! The stop (R139) -/

/-- The machine with its rings released and its compose discarded, before a CAPTURING still is aborted (R139). -/
def State.silenced (s : State) : State := s.removeRecord.dropPending.endRoles.clearHeld.releaseAll.discardCompose

theorem stopOutput_eq (s : State) : s.stopOutput = s.silenced.abortCapture.endOutput := rfl

theorem state_stopOutput (s : State) (i : Src) : (s.stopOutput.source i).state = (s.source i).state.ended := by
  have hsources : s.stopOutput.source i = s.removeRecord.dropPending.endRoles.source i :=
    source_congr _ _ (by simp [stopOutput_eq, State.silenced]) i
  rw [hsources, state_endRoles, state_dropPending, state_removeRecord]

theorem unheld_stopOutput (s : State) : Unheld s.stopOutput := by
  rw [stopOutput_eq]
  exact ((unheld_releaseAll _).rings (t := s.silenced) rfl).abortCapture.rings rfl

@[simp] theorem silenced_stills (s : State) : s.silenced.cc = s.cc ∧ s.silenced.op = s.op := by
  simp [State.silenced]

theorem stopOutput_fields (s : State) :
    s.stopOutput.cp.pendingPrimary = none ∧ s.stopOutput.cp.compose = s.cp.compose.map (fun k => { k with live := false }) ∧
      s.stopOutput.zc.record = none ∧ s.stopOutput.zc.held = false := by
  refine ⟨?_, ?_, ?_, ?_⟩
  · simp [stopOutput_eq, State.silenced]
  · simp [stopOutput_eq, State.silenced, State.discardCompose]
  · simp [stopOutput_eq, State.silenced]
  · simp [stopOutput_eq, State.silenced, held_clearHeld]

theorem stills_stopOutput_idle (h : ∀ x, s.cc.still = some x → x.state ≠ .capturing) :
    s.stopOutput.cc = s.cc ∧ s.stopOutput.op.queue = s.op.queue := by
  rw [stopOutput_eq, abortCapture_idle (s := s.silenced) (by simpa using h)]
  simp

theorem stills_stopOutput_capturing (h : s.cc.still = some x) (hx : x.state = .capturing) (hg : s.op.group = none) :
    s.stopOutput.cc.still = none := by
  rw [stopOutput_eq, abortCapture_capturing (s := s.silenced) (by simpa using h) hx, abortStill_free (by simpa using hg)]
  obtain ⟨hcc, -, -, -⟩ := endStill_fields x (s.silenced.abortPosted x .outputStop)
  simp [hcc]

theorem exec_outputStop (h : LinkReady s) (hp : s.link.part = .streaming) (tag : Byte) :
    exec (.outputStop tag) s = .next ((s.delivered 257).stopOutput.answered tag false .outputStop .ok []) :=
  row_served (q := .outputStop) h rfl (decide_eq_true hp) rfl (if_pos hp) tag

/-- Settles O41: the output, the roles, the holds and the still, one after the other. -/
theorem outputStopTaken : Obligations.OutputStopTaken := by
  intro s tag h
  refine ⟨fun hp => ?_, fun hp => ?_⟩
  · have hlink : (s.delivered 257).stopOutput.link = { (s.delivered 257).link with part := .config } := by
      simp [stopOutput_eq, State.silenced, State.endOutput]
    obtain ⟨hpending, hcompose, hrecord, hheld⟩ := stopOutput_fields (s.delivered 257)
    refine ⟨s.undelivered (s.delivered 257).stopOutput, ?_, ?_, rfl, rfl, hpending, by simp [State.undelivered], hcompose,
      hrecord, hheld, rfl, by simp [State.undelivered], by simp [State.undelivered], by simp [State.undelivered],
      by simp [State.undelivered], state_stopOutput (s.delivered 257), unheld_stopOutput (s.delivered 257),
      by simp [State.undelivered], by simp [State.undelivered], by simp [State.undelivered], fun x hx hs => ?_,
      fun x hx hs hg => stills_stopOutput_capturing (s := s.delivered 257) hx hs hg⟩
    · rw [undelivered_delivered (by rw [hlink]), exec_outputStop h hp]
    · rw [State.undelivered, hlink]
    · refine stills_stopOutput_idle (s := s.delivered 257) fun y hy => ?_
      cases hx.symm.trans hy
      exact hs
  · have hstopped : s.link.part.passes .outputStop = false := decide_eq_false (by rintro hs; simp [hs] at hp)
    exact congrArg Host.Outcome.next (hostRequest_stopped h tag false rfl hstopped)

end Sys2Proof.Machine
end

section
/-! SUPPORT. The tick in its parts: the send, the first stages of the zoom step, and the compose begin (R76 to R79, R141 to
R146). -/

namespace Sys2Proof.Machine

variable {s t u v : State} {d : Time} {p : Src} {k : NoticeKind}

/-! The deadline and the send (R141, R142, R149) -/

/-- The machine with the tick deadline moved on by one period. -/
def State.dueMoved (d : Time) (s : State) : State :=
  { s with cp := { s.cp with deadline := some (d + BitVec.ofNat 32 s.cp.settings.period) } }

theorem waitDeadline_due (h : ahead d s.cru.time = false) : s.waitDeadline d = s := by
  simp [State.waitDeadline, h]

theorem tick_streaming (hp : s.link.part = .streaming) (hd : s.cp.deadline = some d) (hdue : ahead d s.cru.time = false) :
    s.tick = (s.dueMoved d).tickWork := by
  rw [State.tick, hp, hd]
  simp only [waitDeadline_due hdue]
  rfl

theorem tick_elsewhere (hp : s.link.part ≠ .streaming) : s.tick = s := by
  unfold State.tick
  split
  · contradiction
  · rfl

/-- The buffer that a tick sends in RUNNING and in FROZEN (R142). -/
def State.sendBuffer (s : State) : Option Buf := if s.cp.fresh then s.cp.newest else s.cp.lastSent

/-- The send of a tick: the buffer due begins to be transmitted; with none the channel and the last sent buffer stay. -/
structure Sends (s t : State) : Prop where
  some : ∀ b, s.sendBuffer = some b → t.cp.lastSent = some b ∧
    t.op.video = some ⟨b, s.cp.picture b, ⟨s.cru.time, (s.cp.settings.wo * (s.cp.settings.wo * 9 / 16) + 1249) / 1250⟩⟩
  none : s.sendBuffer = none → t.op = s.op ∧ t.cp.lastSent = s.cp.lastSent

theorem sendChoice_on (h : s.cp.sub = .running ∨ s.cp.sub = .frozen) : s.sendChoice = s.sendBuffer := by
  rcases h with h | h <;> rw [State.sendChoice, h] <;> rfl

theorem sendChoice_starting (h : s.cp.sub = .starting) : s.sendChoice = none := by rw [State.sendChoice, h]

theorem videoSend_none (h : s.sendChoice = none) : s.videoSend = { s with cp := { s.cp with fresh := false } } := by
  rw [State.videoSend, h]

theorem videoSend_some {b : Buf} (h : s.sendChoice = some b) : s.videoSend =
    { s with
      cp := { s.cp with lastSent := some b, fresh := false }
      op := { s.op with video := some ⟨b, s.cp.picture b, s.timer s.cp.settings.videoTime⟩ } } := by
  rw [State.videoSend, h]
  rfl

theorem sends_videoSend (h : s.cp.sub = .running ∨ s.cp.sub = .frozen) : Sends s s.videoSend where
  some b hb := by
    rw [videoSend_some ((sendChoice_on h).trans hb)]
    exact ⟨rfl, rfl⟩
  none hn := by
    rw [videoSend_none ((sendChoice_on h).trans hn)]
    exact ⟨rfl, rfl⟩

/-- The machine at a tick with the deadline moved on and the video sent. -/
def State.sent (d : Time) (s : State) : State := (s.dueMoved d).videoSend

/-- What the deadline and the send leave unchanged. -/
structure Quiet (s t : State) : Prop where
  cru : t.cru = s.cru
  link : t.link = s.link
  sources : t.sources = s.sources
  fs : t.fs = s.fs
  gu : t.gu = s.gu
  settings : t.cp.settings = s.cp.settings
  compose : t.cp.compose = s.cp.compose
  newest : t.cp.newest = s.cp.newest
  overruns : t.cp.overruns = s.cp.overruns
  repeats : t.cp.repeats = s.cp.repeats
  sub : t.cp.sub = s.cp.sub
  pending : t.cp.pendingPrimary = s.cp.pendingPrimary
  ladder : t.zc.ladder = s.zc.ladder
  target : t.zc.target = s.zc.target
  rate : t.zc.rate = s.zc.rate
  pinned : t.zc.pinned = s.zc.pinned
  record : t.zc.record = s.zc.record
  reports : t.zc.reports = s.zc.reports

theorem quiet_sent (d : Time) (s : State) : Quiet s (s.sent d) := by
  constructor <;> simp [State.sent] <;> rfl

theorem sent_parts (d : Time) (s : State) : (s.sent d).zc = s.zc ∧ (s.sent d).nq = s.nq ∧ (s.sent d).cp.fresh = false ∧
    (s.sent d).cp.deadline = some (d + BitVec.ofNat 32 s.cp.settings.period) := by
  refine ⟨?_, ?_, rfl, ?_⟩ <;> simp [State.sent] <;> rfl

theorem sends_sent (h : s.cp.sub = .running ∨ s.cp.sub = .frozen) (d : Time) : Sends s (s.sent d) :=
  have hs := sends_videoSend (s := s.dueMoved d) h
  ⟨hs.some, hs.none⟩

theorem tick_due (h : TickDue s d) : s.tick = (s.sent d).promotePending.zoomStep.composeBegin := by
  have hcomposing : (s.sent d).composing = false := by
    rw [State.composing, (quiet_sent d s).compose]
    exact h.free
  rw [tick_streaming h.part h.deadline h.due, State.tickWork]
  exact if_neg (by rw [← State.sent, hcomposing]; decide)

/-- No pending primary waits that a tick would find WARM (R138). -/
def Unpromoted (s : State) : Prop := ∀ p, s.cp.sub = .starting → s.cp.pendingPrimary = some p → (s.source p).state ≠ .warm

theorem unpromoted_of_sub (h : s.cp.sub ≠ .starting) : Unpromoted s := fun _ hs => absurd hs h

theorem unpromoted_of_none (h : s.cp.pendingPrimary = none) : Unpromoted s := fun p _ hp => by simp [h] at hp

theorem promotePending_same (h : Unpromoted s) : s.promotePending = s := by
  unfold State.promotePending
  split
  · next p hs hp => exact if_neg (h p hs hp)
  · rfl

end Sys2Proof.Machine
end

section
/-! SUPPORT. The compose begin of a tick, by what it is handed (R42, R64, R111, R144 to R146, R152), and the zoom step's first
stages (R76 to R79). -/

namespace Sys2Proof.Machine

variable {s t u v : State} {d : Time} {p : Src} {k : NoticeKind} {r : Transition} {a b : Handed} {q q' : FrameRec} {l : List Chosen}

/-! What stage 5 hands over (R111) -/

theorem handed_off (h : s.cp.sub ≠ .running) : s.handed = [] := by
  unfold State.handed
  split
  · rfl
  · rfl
  · rfl
  · next hr => exact absurd hr h

theorem handed_alone (hs : s.cp.sub = .running) (hp : s.knownPrimary = some p)
    (hb : ∀ r, s.zc.record = some r → r.phase ≠ .blending) : s.handed = [⟨p, 256, .unit⟩] := by
  rw [State.handed, hs]
  cases hr : s.zc.record with
  | none => simp [hp]
  | some r => simp [hp, hb r hr]

theorem handed_pair (hs : s.cp.sub = .running) (hr : s.zc.record = some r) (hb : r.phase = .blending) :
    s.handed = [⟨r.giver, 256 - r.weight, .unit⟩, ⟨r.taker, r.weight, r.blendGains⟩] := by
  rw [State.handed, hs, hr]
  exact if_pos hb

/-! The participants with a record (R45, R146) -/

theorem choose_some (h : newestReady (s.ring a.source) = some q) : s.choose a = some ⟨a, q⟩ := by
  rw [State.choose, h, Option.map_some]

theorem choose_none (h : newestReady (s.ring a.source) = none) : s.choose a = none := by
  rw [State.choose, h, Option.map_none]

theorem chosen_one (hh : s.handed = [a]) (hq : newestReady (s.ring a.source) = some q) :
    s.chosen = [⟨{ a with weight := 256 }, q⟩] ∧ s.leftOut = [] := by
  simp [State.chosen, State.leftOut, hh, choose_some hq, hq]

theorem chosen_out (hh : s.handed = [a]) (hq : newestReady (s.ring a.source) = none) :
    s.chosen = [] ∧ s.leftOut = [a.source] := by
  simp [State.chosen, State.leftOut, hh, choose_none hq, hq]

theorem chosen_both (hh : s.handed = [a, b]) (hq : newestReady (s.ring a.source) = some q)
    (hq' : newestReady (s.ring b.source) = some q') : s.chosen = [⟨a, q⟩, ⟨b, q'⟩] ∧ s.leftOut = [] := by
  simp [State.chosen, State.leftOut, hh, choose_some hq, choose_some hq', hq, hq']

theorem chosen_first (hh : s.handed = [a, b]) (hq : newestReady (s.ring a.source) = some q)
    (hq' : newestReady (s.ring b.source) = none) :
    s.chosen = [⟨{ a with weight := 256 }, q⟩] ∧ s.leftOut = [b.source] := by
  simp [State.chosen, State.leftOut, hh, choose_some hq, choose_none hq', hq, hq']

theorem chosen_second (hh : s.handed = [a, b]) (hq : newestReady (s.ring a.source) = none)
    (hq' : newestReady (s.ring b.source) = some q') :
    s.chosen = [⟨{ b with weight := 256 }, q'⟩] ∧ s.leftOut = [a.source] := by
  simp [State.chosen, State.leftOut, hh, choose_none hq, choose_some hq', hq, hq']

/-! The compose (R64, R144) -/

theorem composeBegin_empty (h : s.handed = []) : s.composeBegin = s := by
  simp [State.composeBegin, State.chosen, State.leftOut, h, State.reportRepeat]

theorem composeBegin_some (h : s.chosen = l) (hl : l ≠ []) :
    s.composeBegin = (s.reportRepeat s.leftOut (repeated l)).beginCompose l := by
  unfold State.composeBegin
  rw [h]
  cases l with
  | nil => contradiction
  | cons x rest => rfl

theorem composeWindow_congr (hs : t.sources = s.sources) (hg : t.gu = s.gu) (hz : t.zc.shown = s.zc.shown)
    (hc : t.cp.settings = s.cp.settings) (i : Src) (width focus : Nat) :
    t.composeWindow i width focus = s.composeWindow i width focus := by
  simp only [State.composeWindow, State.lookup, source_congr s t hs, hg, hz, hc]

theorem partOf_reportRepeat (left again : List Src) (x : Chosen) (s : State) :
    (s.reportRepeat left again).partOf x = s.partOf x := by
  simp only [State.partOf]
  rw [composeWindow_congr (s := s) (by simp) (by simp) (by simp) (by simp)]

/-- The compose that begins, and the windows it records. -/
theorem compose_begun (h : s.chosen = l) (hl : l ≠ []) :
    s.composeBegin.cp.compose = some ⟨true, otherBuffer s.cp.newest, s.cp.settings.wo, l.map s.partOf⟩ ∧
      s.composeBegin.gu.windows = keepWindows s.gu.windows (l.map s.partOf) := by
  rw [composeBegin_some h hl]
  have hparts : (s.reportRepeat s.leftOut (repeated l)).partOf = s.partOf := funext fun x => partOf_reportRepeat ..
  simp [State.beginCompose, State.openCompose, hparts]

/-- A live compose of the chosen participants, in their order. -/
theorem compose_parts (h : s.chosen = l) (hl : l ≠ []) : ∃ k, s.composeBegin.cp.compose = some k ∧ k.live = true ∧
    k.parts.map Part.source = l.map (fun x => x.handed.source) ∧ k.parts.map Part.slot = l.map (fun x => x.record.slot) ∧
    k.parts.map Part.weight = l.map (fun x => x.handed.weight) ∧
    k.parts.map Part.gains = l.map (fun x => x.handed.gains) := by
  refine ⟨_, (compose_begun h hl).1, rfl, ?_⟩
  simp only [List.map_map]
  exact ⟨rfl, rfl, rfl, rfl⟩

/-! The repeats (R145, R146, R152) -/

/-- The notice of a repeat, posted. -/
def State.repeatPosted (cause : RepeatCause) (sources : List Src) (s : State) : State :=
  s.post none (.outputRepeat cause sources s.cp.overruns (min (s.cp.repeats + 1) 65535) s.zc.shown s.cru.time)

theorem beginCompose_counts (l : List Chosen) (s : State) :
    (s.beginCompose l).cp.repeats = s.cp.repeats ∧ (s.beginCompose l).nq = s.nq := by
  simp [State.beginCompose, State.openCompose]

theorem composeBegin_leftOut {i : Src} {rest : List Src} (h : s.leftOut = i :: rest) :
    s.composeBegin.cp.repeats = min (s.cp.repeats + 1) 65535 ∧
      s.composeBegin.nq = (s.repeatPosted .noFrame (i :: rest)).nq := by
  unfold State.composeBegin
  split
  · rw [h]
    exact ⟨rfl, rfl⟩
  · rw [h]
    exact beginCompose_counts ..

theorem composeBegin_alone {x : Chosen} (h : s.chosen = [x]) (hout : s.leftOut = []) : s.composeBegin.cp.repeats =
    if x.record.heldC = true then min (s.cp.repeats + 1) 65535 else s.cp.repeats := by
  rw [composeBegin_some h (by simp), (beginCompose_counts ..).1, hout]
  by_cases hheld : x.record.heldC = true
  · have hagain : repeated [x] = [x.handed.source] := by simp [repeated, hheld]
    rw [if_pos hheld, hagain]
    rfl
  · have hagain : repeated [x] = [] := by simp [repeated, hheld]
    rw [if_neg hheld, hagain]
    rfl

theorem Spares.reportRepeat (h : Spares k s t) (hk : k ≠ .outputRepeat) (left again : List Src) :
    Spares k s (t.reportRepeat left again) := by
  have hcount (cause : RepeatCause) (sources : List Src) : Spares k s (t.countRepeat cause sources) :=
    Spares.post (h.same (u := { t with cp := { t.cp with repeats := min (t.cp.repeats + 1) 65535 } }) rfl) hk.symm
  cases left with
  | nil =>
    cases again with
    | nil => exact h
    | cons => exact hcount ..
  | cons => exact hcount ..

theorem Spares.composeBegin (h : Spares k s t) (hk : k ≠ .outputRepeat) : Spares k s t.composeBegin := by
  unfold State.composeBegin
  split
  · exact h.reportRepeat hk ..
  · exact (h.reportRepeat hk ..).same (beginCompose_counts ..).2

/-! The first stages of a zoom step (R76 to R79) -/

theorem Spares.setHeld (h : Spares k s t) (hk : k ≠ .zoomHeld) (b : Bounds) : Spares k s (t.setHeld b) := by
  rw [setHeld_eq]
  dsimp only
  split_ifs
  · exact h.same rfl
  · exact Spares.post (h.same rfl) hk.symm

theorem Spares.zoomStages (h : Spares k s t) (hk : k ≠ .zoomHeld) : Spares k s t.zoomStages := by
  unfold State.zoomStages
  split
  · exact h.same rfl
  · unfold State.moveZoom
    refine Spares.setHeld ?_ hk _
    exact h.same rfl

theorem Quiet.zoomStages (h : Quiet s t) : Quiet s t.zoomStages := by
  obtain ⟨h1, h2, h3, h4, h5, h6, h7, h8, h9, h10, h11, h12, h13, h14, h15, h16, h17, h18⟩ := h
  constructor <;> simpa

theorem zoomStages_shown {b : Bounds} (h : s.stepBounds = some b) :
    s.zoomStages.zc.shown = zoomMove s.zc.shown s.zc.rate (clamp s.zc.target b.lo b.hi) ∧ s.zoomStages.zc.bounds = some b := by
  rw [zoomStages_bounded h, State.moveZoom, setHeld_eq]
  dsimp only
  split_ifs <;> exact ⟨rfl, rfl⟩

/-! What is read off a state that only the send and the first stages have touched -/

theorem lostPrimary_congr (hz : t.zc.reports = s.zc.reports) (test : Report → Bool) : t.lostPrimary test = s.lostPrimary test := by
  simp only [State.lostPrimary, hz]

theorem Quiet.primary (h : Quiet s t) : t.primary = s.primary := primary_congr h.sources

theorem Quiet.knownPrimary (h : Quiet s t) : t.knownPrimary = s.knownPrimary := by
  simp only [State.knownPrimary, h.primary, lostPrimary_congr h.reports]

theorem Quiet.source (h : Quiet s t) (i : Src) : t.source i = s.source i := source_congr s t h.sources i

theorem Quiet.ring (h : Quiet s t) (i : Src) : t.ring i = s.ring i := ring_congr s t (by rw [h.fs]) i

theorem Quiet.rangeOf (h : Quiet s t) : t.rangeOf = s.rangeOf := funext fun i => by simp only [State.rangeOf, h.source]

theorem Quiet.pairRange (h : Quiet s t) : t.pairRange = s.pairRange := funext fun r => by simp only [State.pairRange, h.source]

theorem Quiet.stepBounds (h : Quiet s t) : t.stepBounds = s.stepBounds := by
  simp only [State.stepBounds, h.sub, h.record, h.knownPrimary, h.pending, h.rangeOf, h.pairRange]

/-- The machine at a tick after the send and the first two stages of the zoom step. -/
def State.stepped (d : Time) (s : State) : State := (s.sent d).zoomStages

theorem quiet_stepped (d : Time) (s : State) : Quiet s (s.stepped d) := (quiet_sent d s).zoomStages

theorem spares_stepped (hk : k ≠ .zoomHeld) (d : Time) (s : State) : Spares k s (s.stepped d) :=
  Spares.zoomStages ((Spares.refl k s).same (sent_parts d s).2.1) hk

theorem stepped_output (d : Time) (s : State) : (s.stepped d).cp = (s.sent d).cp ∧ (s.stepped d).op = (s.sent d).op := by
  simp [State.stepped]

theorem tick_stepped (h : TickDue s d) (hno : Unpromoted s) :
    s.tick = (s.stepped d).wakePoints.handoffWork.composeBegin := by
  have hq := quiet_sent d s
  have hsent : Unpromoted (s.sent d) := fun p hs hp => by
    rw [hq.source]
    exact hno p (hq.sub ▸ hs) (hq.pending ▸ hp)
  rw [tick_due h, promotePending_same hsent]
  rfl

/-- Z and the bounds after the first two stages, where the step has the bounds of one source (R77, R78). -/
theorem stepped_shown (h : s.stepBounds = some (s.rangeOf p)) (d : Time) :
    (s.stepped d).zc.shown = s.steppedZoom p ∧ (s.stepped d).zc.bounds = some (s.rangeOf p) := by
  have hbounds : (s.sent d).stepBounds = some (s.rangeOf p) := (quiet_sent d s).stepBounds.trans h
  obtain ⟨hshown, hbound⟩ := zoomStages_shown hbounds
  rw [(sent_parts d s).1] at hshown
  exact ⟨hshown, hbound⟩

/-! Stages 3 and 4 where no wake point and no trigger applies (R81, R89) -/

theorem handoffFree_eq_false (h : s.cp.sub ≠ .running ∨ s.zc.record ≠ none ∨ s.zc.pinned = true) : s.handoffFree = false := by
  refine decide_eq_false ?_
  rintro ⟨hs, hr, hp⟩
  simp_all

theorem wakePoints_off (h : s.handoffFree = false) : s.wakePoints = s := by
  rw [State.wakePoints, h]
  exact if_neg (by decide)

theorem handoffWork_record (h : s.zc.record = some r) : s.handoffWork = s.recordWork r := by rw [State.handoffWork, h]

theorem handoffWork_off (h : s.zc.record = none) (hf : s.handoffFree = false) : s.handoffWork = s := by
  rw [State.handoffWork, h, hf]
  exact if_neg (by decide)

/-- A tick with a record: its work, between the first stages and the compose begin. -/
theorem tick_record (h : TickDue s d) (hno : Unpromoted s) (hr : s.zc.record = some r) :
    s.tick = ((s.stepped d).recordWork r).composeBegin := by
  have hrec : (s.stepped d).zc.record = some r := (quiet_stepped d s).record.trans hr
  rw [tick_stepped h hno, wakePoints_off (handoffFree_eq_false (.inr (.inl (by simp [hrec])))), handoffWork_record hrec]

/-- A tick with no record, outside RUNNING or with the pin set. -/
theorem tick_idle (h : TickDue s d) (hno : Unpromoted s) (hr : s.zc.record = none)
    (hf : s.cp.sub ≠ .running ∨ s.zc.pinned = true) : s.tick = (s.stepped d).composeBegin := by
  have hq := quiet_stepped d s
  have hfree : (s.stepped d).handoffFree = false :=
    handoffFree_eq_false (hf.elim (fun hs => .inl (by rwa [hq.sub])) fun hp => .inr (.inr (by rwa [hq.pinned])))
  rw [tick_stepped h hno, wakePoints_off hfree, handoffWork_off (hq.record.trans hr) hfree]

end Sys2Proof.Machine
end

section
/-! SUPPORT. The holds and the window of a compose, an overrun, and a rescue's change (R42, R64, R105, R107 to R109, R143). -/

namespace Sys2Proof.Machine

variable {s t u v : State} {d : Time} {p i : Src} {k : NoticeKind} {r : Transition} {q : FrameRec} {l : List Chosen}

/-! The compositor holds at a compose begin (R42, R144) -/

/-- A ring after the holds of a compose begin are settled for its source. -/
def settledRing (l : List Chosen) (i : Src) (a : SrcState) (ring : List FrameRec) : List FrameRec :=
  match l.find? fun x => decide (x.handed.source = i) with
  | some x => ring.filterMap (moveRec a.unpowered x.record.slot)
  | none => ring.filterMap (releaseRec a.unpowered .compositor)

/-- A source with its number and ring, as the holds of a compose begin take it. -/
def State.settleView (s : State) (j : Src) : Src × SrcState × List FrameRec := (j, (s.source j).state, s.ring j)

theorem ring_settleHold_same (l : List Chosen) (i : Src) (s : State) :
    (s.settleHold l i).ring i = settledRing l i (s.source i).state (s.ring i) := by
  unfold State.settleHold settledRing
  cases hx : l.find? fun x => decide (x.handed.source = i) with
  | some x =>
    dsimp only
    rw [State.moveHold, ring_setRing, if_pos rfl]
    rfl
  | none =>
    dsimp only
    rw [State.releaseHolds, ring_setRing, if_pos rfl]

theorem settleView_settleHold (l : List Chosen) (i j : Src) (s : State) : (s.settleHold l i).settleView j =
    if j = i then (fun v => (v.1, v.2.1, settledRing l v.1 v.2.1 v.2.2)) (s.settleView i) else s.settleView j := by
  have hsource : (s.settleHold l i).source j = s.source j := source_congr _ _ (by simp) j
  rw [State.settleView, hsource]
  split_ifs with hj
  · subst hj
    rw [ring_settleHold_same]
    rfl
  · rw [ring_settleHold hj]
    rfl

theorem ring_settleHolds (l : List Chosen) (j : Src) (s : State) :
    (s.settleHolds l).ring j = settledRing l j (s.source j).state (s.ring j) :=
  congrArg (fun v => v.2.2)
    (view_each_source (F := State.settleHold l) (V := State.settleView)
      (g := fun v => (v.1, v.2.1, settledRing l v.1 v.2.1 v.2.2)) (settleView_settleHold l) s j)

theorem ring_composeBegin (h : s.chosen = l) (hl : l ≠ []) (j : Src) :
    s.composeBegin.ring j = settledRing l j (s.source j).state (s.ring j) := by
  have hring (u : State) : (u.beginCompose l).ring j = (u.settleHolds l).ring j := rfl
  rw [composeBegin_some h hl, hring, ring_settleHolds, source_congr s _ (by simp), ring_congr s _ (by simp)]

/-- A participant's hold lies on its chosen record alone. -/
theorem settledRing_chosen {x : Chosen} (hx : l.find? (fun x => decide (x.handed.source = i)) = some x) {ring : List FrameRec}
    (hmem : x.record ∈ ring) (a : SrcState) :
    (∃ q ∈ settledRing l i a ring, q.slot = x.record.slot ∧ q.heldC = true) ∧
      ∀ q ∈ settledRing l i a ring, q.heldC = true → q.slot = x.record.slot := by
  have hring : settledRing l i a ring = ring.filterMap (moveRec a.unpowered x.record.slot) := by rw [settledRing, hx]
  rw [hring]
  refine ⟨⟨x.record.setHold .compositor true, List.mem_filterMap.mpr ⟨x.record, hmem, if_pos rfl⟩, rfl, rfl⟩,
    fun q hq hc => ?_⟩
  obtain ⟨y, -, hy⟩ := List.mem_filterMap.mp hq
  exact heldC_moveRec hy hc

/-- A source that is no participant keeps no compositor hold. -/
theorem settledRing_other (hx : l.find? (fun x => decide (x.handed.source = i)) = none) (a : SrcState) (ring : List FrameRec) :
    ∀ q ∈ settledRing l i a ring, q.heldC = false := by
  intro q hq
  rw [settledRing, hx] at hq
  obtain ⟨y, -, hy⟩ := List.mem_filterMap.mp hq
  simpa [FrameRec.holds] using holds_releaseRec (k := .compositor) hy

theorem otherBuffer_eq (b : Option Buf) : otherBuffer b = if b = some .ping then .pong else .ping := by
  rcases b with _ | _ | _ <;> rfl

/-! An overrun (R143, R152) -/

theorem overrun_running (h : s.cp.sub = .running) : s.overrun =
    ({ s with cp := { s.cp with overruns := min (s.cp.overruns + 1) 65535 } }).post none
      (.outputRepeat .overrun [] (min (s.cp.overruns + 1) 65535) s.cp.repeats s.zc.shown s.cru.time) := if_pos h

theorem tick_overrun (hp : s.link.part = .streaming) (hd : s.cp.deadline = some d) (hdue : ahead d s.cru.time = false)
    (hc : s.composing = true) : s.tick = (s.sent d).overrun := by
  have hcomposing : (s.sent d).composing = true := by
    rw [State.composing, (quiet_sent d s).compose]
    exact hc
  rw [tick_streaming hp hd hdue, State.tickWork]
  exact if_pos hcomposing

/-! A rescue's change (R105, R107 to R109) -/

theorem usable_warm (h : (s.source i).state = .warm) : (s.source i).state.usable = true := by rw [h]; rfl

theorem not_lost (h : (s.source i).state.usable = true) : s.lost i = false := by rw [State.lost, h]; rfl

theorem rescueTo_warm (h : (s.source r.taker).state = .warm) : s.rescueTo r =
    (((s.dropPending.setSub .running).setRole r.taker .primary).setShown
      (clamp s.zc.shown (s.source r.taker).base (s.source r.taker).zcap)).postDone r .rescue s.cru.time := by
  rw [State.rescueTo, not_lost (usable_warm h)]
  exact if_neg (by decide)

/-- The picture after a rescue: the target is PRIMARY, the output RUNNING with no pending primary, and Z in its range. -/
theorem rescueTo_fields (h : (s.source r.taker).state = .warm) :
    ((s.rescueTo r).source r.taker).state = .primary ∧
      (∀ j, j ≠ r.taker → ((s.rescueTo r).source j).state = (s.source j).state) ∧ (s.rescueTo r).cp.sub = .running ∧
      (s.rescueTo r).cp.pendingPrimary = none ∧
      (s.rescueTo r).zc.shown = clamp s.zc.shown (s.source r.taker).base (s.source r.taker).zcap := by
  have hdrop (j : Src) : ((s.dropPending.setSub .running).source j).state = (s.source j).state := state_dropPending j s
  rw [rescueTo_warm h]
  refine ⟨?_, fun j hj => ?_, ?_, ?_, rfl⟩
  · refine state_setRole r.taker .primary _ ?_
    rw [hdrop]
    exact usable_warm h
  · refine (congrArg Source.state (source_setRole_ne r.taker j .primary _ hj)).trans (hdrop j)
  · simp [State.postDone, State.setSub]
  · simp [State.postDone]

/-- HANDOFF_DONE of a rescue is on the way whatever comes after, if that posts no other. -/
theorem posted_rescueTo (hs : Spares .handoffDone s t) (h : (t.source r.taker).state = .warm)
    (hu : Spares .handoffDone (t.rescueTo r) u) :
    Posted s u (.handoffDone r.kind r.giver r.taker .rescue r.limited r.n r.gains t.cru.time) := by
  rw [rescueTo_warm h] at hu
  have hbefore : Spares .handoffDone s (((t.dropPending.setSub .running).setRole r.taker .primary).setShown
      (clamp t.zc.shown (t.source r.taker).base (t.source r.taker).zcap)) :=
    (Spares.setRole (hs.same (u := t.dropPending.setSub .running) (by simp [State.setSub])) (by decide) r.taker .primary).same rfl
  exact Spares.posted (p := .handoffDone r.kind r.giver r.taker .rescue r.limited r.n r.gains t.cru.time) hbefore hu

end Sys2Proof.Machine
end

section
/-! THEOREM. The tick (R76, R77, R108, R111, R138, R141 to R146, R151). -/

namespace Sys2Proof.Machine

variable {s t u : State} {d : Time} {p i : Src} {r : Transition} {q : FrameRec}

theorem exec_tick (s : State) : exec .tick s = .next s.tick := rfl

/-- The one PRIMARY source is the primary (R3). -/
theorem primary_eq_some (hp : (s.source p).state = .primary) (hone : ∀ j, j ≠ p → (s.source j).state ≠ .primary) :
    s.primary = some p := by
  cases hfind : s.primary with
  | none => exact absurd (List.find?_eq_none.mp hfind p (by cases p <;> decide)) (by simp [hp])
  | some j =>
    have hj : (s.source j).state = .primary := by simpa using List.find?_some hfind
    exact congrArg some (not_not.mp fun hne => hone j hne hj)

/-- The deadline and the send of a tick, which the zoom step and the compose begin leave (R141, R142). -/
theorem tick_due_output (h : TickDue s d) : s.tick.cp.deadline = some (d + BitVec.ofNat 32 s.cp.settings.period) ∧
    s.tick.cp.fresh = false ∧ s.tick.cp.lastSent = (s.sent d).cp.lastSent ∧ s.tick.op = (s.sent d).op := by
  obtain ⟨-, -, hfresh, hdeadline⟩ := sent_parts d s
  rw [tick_due h]
  refine ⟨?_, ?_, ?_, ?_⟩ <;> simp [hfresh, hdeadline, State.zoomStep]

/-! An overrun and a tick outside STREAMING (R141, R143) -/

theorem tick_overruns (hp : s.link.part = .streaming) (hd : s.cp.deadline = some d) (hdue : ahead d s.cru.time = false)
    {k : Compose} (hc : s.cp.compose = some k) (hlive : k.live = true) :
    s.tick = (s.sent d).overrun := by
  refine tick_overrun hp hd hdue ?_
  rw [State.composing, hc]
  exact hlive

/-! What the compose begin takes from a state whose rings it finds (R144 to R146) -/

theorem posted_noFrame {rest : List Src} (hs : Spares .outputRepeat s t) (hout : t.leftOut = i :: rest) :
    Posted s t.composeBegin (.outputRepeat .noFrame (i :: rest) t.cp.overruns (min (t.cp.repeats + 1) 65535) t.zc.shown
      t.cru.time) :=
  Spares.posted (p := .outputRepeat .noFrame (i :: rest) t.cp.overruns (min (t.cp.repeats + 1) 65535) t.zc.shown t.cru.time)
    hs ((Spares.refl ..).same (composeBegin_leftOut hout).2)

theorem composeBegin_left (hc : s.chosen = []) :
    s.composeBegin.cp.compose = s.cp.compose ∧ s.composeBegin.fs = s.fs := by
  rw [State.composeBegin, hc]
  simp

/-- A primary composed alone: the compose and its window, and the holds (R42, R58, R111, R144). -/
theorem composed_alone (hh : s.handed = [⟨p, 256, .unit⟩]) (hq : newestReady (s.ring p) = some q) :
    (∃ w : ComposeWindow, s.composeBegin.gu.windows.get p = some w ∧ w.zoom = s.zc.shown ∧ w.focus = q.focus.getD 0 ∧
      w.rect = (cropWindow q.width (s.source p).base s.zc.shown (s.lookup p (q.focus.getD 0))).rect ∧
      s.composeBegin.cp.compose = some ⟨true, otherBuffer s.cp.newest, s.cp.settings.wo,
        [⟨p, q.slot, 256, .unit, w⟩]⟩) ∧
      (∃ x ∈ s.composeBegin.ring p, x.slot = q.slot ∧ x.heldC = true) ∧
      (∀ x ∈ s.composeBegin.ring p, x.heldC = true → x.slot = q.slot) ∧
      (∀ j, j ≠ p → ∀ x ∈ s.composeBegin.ring j, x.heldC = false) ∧
      s.composeBegin.cp.repeats = if q.heldC then min (s.cp.repeats + 1) 65535 else s.cp.repeats := by
  obtain ⟨hchosen, hleft⟩ := chosen_one hh hq
  have hmem : q ∈ s.ring p := (List.mem_filter.mp (List.mem_of_getLast? hq)).1
  obtain ⟨hcompose, hwindows⟩ := compose_begun hchosen (by simp)
  have hring := ring_composeBegin hchosen (by simp)
  have hheld := settledRing_chosen (i := p) (l := [⟨⟨p, 256, .unit⟩, q⟩]) (by simp; rfl) hmem (s.source p).state
  refine ⟨⟨s.composeWindow p q.width (q.focus.getD 0), ?_, rfl, rfl, rfl, hcompose⟩, ?_, ?_, fun j hj => ?_,
    composeBegin_alone hchosen hleft⟩
  · rw [hwindows]
    exact (get_set ..).trans (if_pos rfl)
  · rw [hring p]
    exact hheld.1
  · rw [hring p]
    exact hheld.2
  · rw [hring j]
    exact settledRing_other (by simpa using hj.symm) _ _

/-! A RUNNING output with no record (R76 to R78, R111, R146) -/

theorem running_alone (hs : s.cp.sub = .running) (hr : s.zc.record = none) (hp : s.knownPrimary = some p) (d : Time) :
    (s.stepped d).handed = [⟨p, 256, .unit⟩] ∧ (s.stepped d).zc.shown = s.steppedZoom p := by
  have hq := quiet_stepped d s
  have hnone : ∀ r, s.zc.record = some r → r.phase ≠ .blending := by simp [hr]
  refine ⟨handed_alone (hq.sub.trans hs) (hq.knownPrimary.trans hp) ?_, (stepped_shown (stepBounds_alone hs hp hnone) d).1⟩
  rwa [hq.record]

theorem tick_composes (h : TickDue s d) (hs : s.cp.sub = .running) (hpin : s.zc.pinned = true) (hr : s.zc.record = none)
    (hp : s.primary = some p) (hq : newestReady (s.ring p) = some q) :
    ∃ t, exec .tick s = .next t ∧ t.cp.deadline = some (d + BitVec.ofNat 32 s.cp.settings.period) ∧
      t.zc.shown = s.steppedZoom p ∧ t.zc.record = none ∧ t.sources = s.sources ∧ t.cp.fresh = false ∧
      (∀ b, s.sendBuffer = some b → t.cp.lastSent = some b ∧
        t.op.video = some ⟨b, s.cp.picture b, ⟨s.cru.time,
          (s.cp.settings.wo * (s.cp.settings.wo * 9 / 16) + 1249) / 1250⟩⟩) ∧
      (∃ w : ComposeWindow, t.gu.windows.get p = some w ∧ w.zoom = t.zc.shown ∧ w.focus = q.focus.getD 0 ∧
        w.rect = (cropWindow q.width (s.source p).base t.zc.shown (s.lookup p (q.focus.getD 0))).rect ∧
        t.cp.compose = some { live := true, buffer := if s.cp.newest = some .ping then .pong else .ping,
                              wo := s.cp.settings.wo, parts := [⟨p, q.slot, 256, ⟨1024, 1024, 1024⟩, w⟩] }) ∧
      (∃ x ∈ t.ring p, x.slot = q.slot ∧ x.heldC = true) ∧
      (∀ x ∈ t.ring p, x.heldC = true → x.slot = q.slot) ∧ (∀ i, i ≠ p → ∀ x ∈ t.ring i, x.heldC = false) ∧
      t.cp.repeats = (if q.heldC then min (s.cp.repeats + 1) 65535 else s.cp.repeats) := by
  have hquiet := quiet_stepped d s
  obtain ⟨hdeadline, hfresh, hsent, hop⟩ := tick_due_output h
  obtain ⟨hhanded, hshown⟩ := running_alone hs hr (knownPrimary_eq hp) d
  have halone := composed_alone hhanded ((congrArg newestReady (hquiet.ring p)).trans hq)
  have hlookup : (s.stepped d).lookup p (q.focus.getD 0) = s.lookup p (q.focus.getD 0) := by
    rw [State.lookup, hquiet.gu]
    rfl
  have hsends := (sends_sent (.inl hs) d).some
  rw [← hop, ← hsent] at hsends
  rw [exec_tick]
  rw [tick_idle h (unpromoted_of_sub (by simp [hs])) hr (.inr hpin)] at *
  rw [hquiet.source, hquiet.newest, hquiet.settings, hquiet.repeats, otherBuffer_eq, hlookup] at halone
  obtain ⟨hwindow, hheld, honly, hothers, hrepeats⟩ := halone
  have hzc : (s.stepped d).composeBegin.zc = (s.stepped d).zc := by simp
  have hsources : (s.stepped d).composeBegin.sources = (s.stepped d).sources := by simp
  refine ⟨_, rfl, hdeadline, ?_, ?_, hsources.trans hquiet.sources, hfresh, hsends, ?_, hheld, honly, hothers, hrepeats⟩
  · rw [hzc, hshown]
  · rw [hzc, hquiet.record, hr]
  · rw [hzc]
    exact hwindow

theorem tick_no_frame (h : TickDue s d) (hs : s.cp.sub = .running) (hpin : s.zc.pinned = true) (hr : s.zc.record = none)
    (hp : s.knownPrimary = some p) (hq : newestReady (s.ring p) = none) :
    ∃ t, exec .tick s = .next t ∧ t.zc.shown = s.steppedZoom p ∧ t.sources = s.sources ∧ t.cp.compose = s.cp.compose ∧
      t.cp.newest = s.cp.newest ∧ t.fs = s.fs ∧ t.cp.repeats = min (s.cp.repeats + 1) 65535 ∧
      Posted s t (.outputRepeat .noFrame [p] s.cp.overruns (min (s.cp.repeats + 1) 65535) t.zc.shown s.cru.time) := by
  have hquiet := quiet_stepped d s
  obtain ⟨hhanded, hshown⟩ := running_alone hs hr hp d
  obtain ⟨hchosen, hleft⟩ := chosen_out hhanded ((congrArg newestReady (hquiet.ring p)).trans hq)
  obtain ⟨hcompose, hfs⟩ := composeBegin_left hchosen
  have hrepeats := (composeBegin_leftOut hleft).1
  have hposted := posted_noFrame (spares_stepped (k := .outputRepeat) (by decide) d s) hleft
  rw [hquiet.overruns, hquiet.repeats, hquiet.cru] at hposted
  rw [exec_tick, tick_idle h (unpromoted_of_sub (by simp [hs])) hr (.inr hpin)]
  refine ⟨_, rfl, ?_, ?_, hcompose.trans hquiet.compose, ?_, hfs.trans hquiet.fs, ?_, ?_⟩
  · simpa using hshown
  · simpa using hquiet.sources
  · simpa using hquiet.newest
  · rw [hrepeats, hquiet.repeats]
  · simpa using hposted

/-! A blend with one of its frames missing (R99, R111, R146) -/

/-- The machine at a tick that advances a blend, before the compose begin. -/
def State.advanced (d : Time) (r : Transition) (s : State) : State := (s.stepped d).advanceBlend r

theorem tick_blends (h : TickDue s d) (hs : s.cp.sub = .running) (hr : s.zc.record = some r) (hk : r.kind ≠ .rescue)
    (hb : r.phase = .blending) (hi : r.index < r.n) : s.tick = (s.advanced d r).composeBegin := by
  rw [tick_record h (unpromoted_of_sub (by simp [hs])) hr, recordWork_eq, if_neg hk, if_pos hb, if_pos hi]
  rfl

/-- What a blend hands over after its index advance. -/
theorem advanced_handed (hs : s.cp.sub = .running) (hb : r.phase = .blending) (d : Time) : (s.advanced d r).handed =
    [⟨r.giver, 256 - Transition.weight { r with index := r.index + 1 }, .unit⟩,
      ⟨r.taker, Transition.weight { r with index := r.index + 1 }, Transition.blendGains { r with index := r.index + 1 }⟩] :=
  handed_pair (r := { r with index := r.index + 1 }) ((quiet_stepped d s).sub.trans hs) rfl hb

theorem advanced_ring (d : Time) (r : Transition) (s : State) (i : Src) : (s.advanced d r).ring i = s.ring i :=
  (quiet_stepped d s).ring i

/-- The participant of a blend that has a frame is composed alone, at weight 256 with its own gains. -/
theorem advanced_alone (hs : s.cp.sub = .running) (hb : r.phase = .blending) {alone out : Src}
    (hparts : alone = r.giver ∧ out = r.taker ∨ alone = r.taker ∧ out = r.giver)
    (hq : newestReady (s.ring alone) = some q) (hout : newestReady (s.ring out) = none) (d : Time) :
    (s.advanced d r).chosen = [⟨⟨alone, 256, if alone = r.giver then ⟨1024, 1024, 1024⟩
        else Transition.blendGains { r with index := r.index + 1 }⟩, q⟩] ∧ (s.advanced d r).leftOut = [out] := by
  have hhanded := advanced_handed hs hb d
  rw [← advanced_ring d r s] at hq hout
  rcases hparts with ⟨rfl, rfl⟩ | ⟨rfl, rfl⟩
  · rw [if_pos rfl]
    exact chosen_first hhanded hq hout
  · have hne : r.taker ≠ r.giver := fun he => by rw [he, hout] at hq; cases hq
    rw [if_neg hne]
    exact chosen_second hhanded hout hq

theorem tick_blends_alone (h : TickDue s d) (hs : s.cp.sub = .running) (hr : s.zc.record = some r) (hk : r.kind ≠ .rescue)
    (hb : r.phase = .blending) (hi : r.index < r.n) {alone out : Src}
    (hparts : alone = r.giver ∧ out = r.taker ∨ alone = r.taker ∧ out = r.giver)
    (hq : newestReady (s.ring alone) = some q) (hout : newestReady (s.ring out) = none) :
    ∃ t k, exec .tick s = .next t ∧ t.cp.compose = some k ∧ k.live = true ∧ k.parts.map Part.source = [alone] ∧
      k.parts.map Part.slot = [q.slot] ∧ k.parts.map Part.weight = [256] ∧
      k.parts.map Part.gains = [if alone = r.giver then ⟨1024, 1024, 1024⟩
        else Transition.blendGains { r with index := r.index + 1 }] ∧
      t.cp.repeats = min (s.cp.repeats + 1) 65535 ∧
      Posted s t (.outputRepeat .noFrame [out] s.cp.overruns (min (s.cp.repeats + 1) 65535) t.zc.shown s.cru.time) := by
  have hquiet := quiet_stepped d s
  obtain ⟨hchosen, hleft⟩ := advanced_alone hs hb hparts hq hout d
  obtain ⟨k, hcompose, hlive, hsource, hslot, hweight, hgains⟩ := compose_parts hchosen (by simp)
  have hrepeats := (composeBegin_leftOut hleft).1
  have hspares : Spares .outputRepeat s (s.advanced d r) := (spares_stepped (by decide) d s).same rfl
  have hposted := posted_noFrame hspares hleft
  have hcp : (s.advanced d r).cp = (s.stepped d).cp := rfl
  have hcru : (s.advanced d r).cru = s.cru := hquiet.cru
  rw [hcp, hquiet.overruns, hquiet.repeats, hcru] at hposted
  rw [hcp, hquiet.repeats] at hrepeats
  rw [exec_tick, tick_blends h hs hr hk hb hi]
  refine ⟨_, k, rfl, hcompose, hlive, hsource, hslot, hweight, hgains, hrepeats, ?_⟩
  simpa using hposted

/-! A STARTING output (R137, R138, R142) -/

theorem settleReports_empty (h : s.zc.reports.get p = []) : s.settleReports p = s := by
  have hset : (s.zc.reports.get p).map Report.settled = s.zc.reports.get p := by rw [h]; rfl
  rw [State.settleReports, hset, State.setReports, set_get]

/-- A STARTING output with a WARM pending primary, as that of a RUNNING one (R138). -/
def State.promoted (p : Src) (s : State) : State :=
  ({ s with cp := { s.cp with pendingPrimary := none, sub := .running } }.setSource p
    { s.source p with state := .primary, idle := none }).post (some p) (.sourceState .primary .warm s.cru.time)

theorem sent_starting (h : s.cp.sub = .starting) (d : Time) : s.sent d =
    { s with cp := { s.cp with deadline := some (d + BitVec.ofNat 32 s.cp.settings.period), fresh := false } } :=
  videoSend_none (sendChoice_starting (s := s.dueMoved d) h)

theorem promoted_sent (hs : s.cp.sub = .starting) (hp : s.cp.pendingPrimary = some p) (hw : (s.source p).state = .warm)
    (hpurpose : (s.source p).purpose = .normal) (hreports : s.zc.reports.get p = []) (hfresh : s.cp.fresh = false)
    (hlast : s.cp.lastSent = none) (d : Time) : (s.sent d).promotePending = (s.promoted p).sent d := by
  have hright : (s.promoted p).sent d = { s.promoted p with cp := { (s.promoted p).cp with
      deadline := some (d + BitVec.ofNat 32 s.cp.settings.period), fresh := false } } := by
    refine videoSend_none ((sendChoice_on (s := (s.promoted p).dueMoved d) (.inl rfl)).trans ?_)
    refine (if_neg ?_).trans hlast
    show ¬ s.cp.fresh = true
    simp [hfresh]
  have hwarm : (s.sent d).promotePending = (((s.sent d).setPending none).setSub .running).setRole p .primary := by
    unfold State.promotePending
    rw [(quiet_sent d s).sub, hs, (quiet_sent d s).pending, hp]
    exact if_pos (by rwa [(quiet_sent d s).source])
  have hsource : (((s.sent d).setPending none).setSub .running).source p = s.source p := (quiet_sent d s).source p
  rw [hwarm, hright, setRole_taken (by rw [hsource, hw]; rfl) (by rw [hsource, hw]; decide) (by decide), hsource, hw, hpurpose,
    settleReports_empty (by rw [← hreports]; exact congrArg (fun z => z.reports.get p) (sent_parts d s).1), sent_starting hs]
  rfl

/-- A WARM pending primary becomes the primary of a RUNNING output before the tick goes on (R138). -/
theorem tick_promotes (h : TickDue s d) (hs : s.cp.sub = .starting) (hp : s.cp.pendingPrimary = some p)
    (hw : (s.source p).state = .warm) (hpurpose : (s.source p).purpose = .normal) (hreports : s.zc.reports.get p = [])
    (hfresh : s.cp.fresh = false) (hlast : s.cp.lastSent = none) :
    exec .tick s = exec .tick (s.promoted p) := by
  have hdue : TickDue (s.promoted p) d := ⟨h.part, h.deadline, h.due, h.free⟩
  have hsame : ((s.promoted p).sent d).promotePending = (s.promoted p).sent d :=
    promotePending_same (unpromoted_of_sub (by rw [(quiet_sent d _).sub]; exact fun hn => OutSub.noConfusion hn))
  rw [exec_tick, exec_tick, tick_due h, tick_due hdue, hsame,
    promoted_sent hs hp hw hpurpose hreports hfresh hlast]

/-- A STARTING output whose pending primary is not WARM moves Z, and sends and composes nothing (R137, R142). -/
theorem tick_waits (h : TickDue s d) (hs : s.cp.sub = .starting) (hr : s.zc.record = none)
    (hp : s.cp.pendingPrimary = some p) (hw : (s.source p).state ≠ .warm) :
    ∃ t, exec .tick s = .next t ∧ t.cp.deadline = some (d + BitVec.ofNat 32 s.cp.settings.period) ∧
      t.zc.shown = s.steppedZoom p ∧ t.zc.bounds = some ⟨(s.source p).base, (s.source p).zcap, .one p⟩ ∧
      t.cp.sub = .starting ∧ t.cp.pendingPrimary = some p ∧ t.cp.compose = s.cp.compose ∧ t.sources = s.sources ∧
      t.fs = s.fs ∧ t.op = s.op ∧ t.cp.repeats = s.cp.repeats ∧ t.cp.overruns = s.cp.overruns := by
  have hquiet := quiet_stepped d s
  have hbounds : s.stepBounds = some (s.rangeOf p) := by simp [State.stepBounds, hs, hr, hp]
  obtain ⟨hshown, hbound⟩ := stepped_shown hbounds d
  obtain ⟨hcp, hop⟩ := stepped_output d s
  have hsend : (s.sent d).op = s.op := by
    rw [State.sent, videoSend_none (sendChoice_starting (s := s.dueMoved d) hs)]
    rfl
  have hempty : (s.stepped d).handed = [] := handed_off (by simp [hquiet.sub, hs])
  have hno : Unpromoted s := fun j _ hj => by
    obtain rfl := Option.some.inj (hp.symm.trans hj)
    exact hw
  rw [exec_tick, tick_idle h hno hr (.inl (by simp [hs])), composeBegin_empty hempty]
  refine ⟨_, rfl, ?_, hshown, hbound, hquiet.sub.trans hs, hquiet.pending.trans hp, hquiet.compose, hquiet.sources,
    hquiet.fs, hop.trans hsend, hquiet.repeats, hquiet.overruns⟩
  rw [hcp]
  exact (sent_parts d s).2.2.2

/-! A rescue, and a frozen output with none (R77, R108, R111, R151) -/

/-- A removal of the record touches the idle timer of its target alone (R8). -/
theorem source_removeRecord (j : Src) (s : State) :
    ∃ idle, s.removeRecord.source j = { s.source j with idle := idle } := by
  cases hrec : s.zc.record with
  | none => exact ⟨_, by rw [State.removeRecord, hrec]⟩
  | some r =>
    by_cases hj : j = r.taker
    · subst hj
      rw [removeRecord_eq hrec, source_setSource, if_pos rfl]
      exact ⟨_, rfl⟩
    · refine ⟨(s.source j).idle, source_removeRecord_ne fun q hq => ?_⟩
      rwa [← Option.some.inj (hrec.symm.trans hq)]

theorem rescueWork_warm (h : (s.source r.taker).state = .warm) : s.rescueWork r = s.removeRecord.rescueTo r := if_pos h

/-- The bounds of a tick with a rescue in being are those of its target (R77). -/
theorem rescue_bounds (hs : s.cp.sub = .starting ∨ s.cp.sub = .frozen) (hr : s.zc.record = some r) :
    s.stepBounds = some (s.rangeOf r.taker) := by
  rcases hs with hs | hs <;> simp [State.stepBounds, hs, hr]

theorem tick_rescue (h : TickDue s d) (hpend : s.cp.pendingPrimary = none) (hr : s.zc.record = some r)
    (hk : r.kind = .rescue) : s.tick = ((s.stepped d).rescueWork r).composeBegin := by
  rw [tick_record h (unpromoted_of_none hpend) hr, recordWork_eq, if_pos hk]

/-- A rescue whose target is not WARM yet: Z moves and nothing is composed (R77, R111). -/
theorem tick_rescue_waits (h : TickDue s d) (hs : s.cp.sub = .starting ∨ s.cp.sub = .frozen)
    (hpend : s.cp.pendingPrimary = none) (hr : s.zc.record = some r) (hk : r.kind = .rescue)
    (hw : (s.source r.taker).state ≠ .warm) :
    ∃ t, exec .tick s = .next t ∧ t.zc.record = some r ∧ t.zc.shown = s.steppedZoom r.taker ∧
      t.cp.sub = s.cp.sub ∧ t.sources = s.sources ∧ t.fs = s.fs ∧ t.cp.compose = s.cp.compose := by
  have hquiet := quiet_stepped d s
  have hshown := (stepped_shown (rescue_bounds hs hr) d).1
  have hwait : (s.stepped d).rescueWork r = s.stepped d := if_neg (by rwa [hquiet.source])
  have hempty : (s.stepped d).handed = [] := handed_off (by rw [hquiet.sub]; rcases hs with hs | hs <;> simp [hs])
  rw [exec_tick, tick_rescue h hpend hr hk, hwait, composeBegin_empty hempty]
  exact ⟨_, rfl, hquiet.record.trans hr, hshown, hquiet.sub, hquiet.sources, hquiet.fs, hquiet.compose⟩

/-- A rescue whose target is WARM: it becomes PRIMARY and is composed alone (R108, R111). -/
theorem tick_rescues (h : TickDue s d) (hs : s.cp.sub = .starting ∨ s.cp.sub = .frozen)
    (hpend : s.cp.pendingPrimary = none) (hnone : ∀ j, (s.source j).state ≠ .primary) (hr : s.zc.record = some r)
    (hk : r.kind = .rescue) (hw : (s.source r.taker).state = .warm) :
    ∃ t, exec .tick s = .next t ∧ (t.source r.taker).state = .primary ∧ t.cp.sub = .running ∧ t.zc.record = none ∧
      t.zc.shown = clamp (s.steppedZoom r.taker) (s.source r.taker).base (s.source r.taker).zcap ∧
      Posted s t (.handoffDone .rescue r.giver r.taker .rescue r.limited r.n r.gains s.cru.time) ∧
      ∀ q, newestReady (s.ring r.taker) = some q → ∃ k, t.cp.compose = some k ∧ k.live = true ∧
        k.parts.map Part.source = [r.taker] ∧ k.parts.map Part.slot = [q.slot] ∧
        k.parts.map Part.weight = [256] ∧ k.parts.map Part.gains = [⟨1024, 1024, 1024⟩] := by
  have hquiet := quiet_stepped d s
  have hshown := (stepped_shown (rescue_bounds hs hr) d).1
  have hbefore (j : Src) : ((s.stepped d).removeRecord.source j).state = (s.source j).state :=
    (state_removeRecord j _).trans (congrArg Source.state (hquiet.source j))
  have hwarm := (hbefore r.taker).trans hw
  obtain ⟨hprimary, hothers, hsub, -, hclamp⟩ := rescueTo_fields hwarm
  have hspares : Spares .handoffDone s (s.stepped d).removeRecord := (spares_stepped (by decide) d s).removeRecord
  have hposted := posted_rescueTo hspares hwarm
    (Spares.composeBegin (Spares.refl .handoffDone ((s.stepped d).removeRecord.rescueTo r)) (by decide))
  have hring : ((s.stepped d).removeRecord.rescueTo r).ring r.taker = s.ring r.taker :=
    (ring_congr (s.stepped d) _ (by simp) r.taker).trans (hquiet.ring r.taker)
  obtain ⟨idle, hidle⟩ := source_removeRecord r.taker (s.stepped d)
  rw [hidle, hquiet.source] at hclamp
  have hcru : (s.stepped d).removeRecord.cru = s.cru := by simpa using hquiet.cru
  have hknown := knownPrimary_eq (primary_eq_some hprimary fun j hj => by rw [hothers j hj, hbefore]; exact hnone j)
  have hhanded := handed_alone hsub hknown (by simp)
  rw [hk, hcru] at hposted
  rw [exec_tick, tick_rescue h hpend hr hk, rescueWork_warm (by rwa [hquiet.source])]
  refine ⟨_, rfl, ?_, ?_, ?_, ?_, hposted, fun q hq => compose_parts (chosen_one hhanded (by rw [← hq, ← hring])).1 (by simp)⟩
  · rwa [source_congr _ _ (composeBegin_keeps _).2.2.1]
  · simpa using hsub
  · simp
  · have hz : (s.stepped d).removeRecord.zc.shown = s.steppedZoom r.taker := by simpa using hshown
    rw [hz] at hclamp
    rw [(composeBegin_keeps _).2.2.2.2.2.2.1]
    exact hclamp

/-- A frozen output with no record: no bounds, nothing composed, the video sent on (R77, R151, log 17). -/
theorem tick_frozen (h : TickDue s d) (hs : s.cp.sub = .frozen) (hpend : s.cp.pendingPrimary = none)
    (hr : s.zc.record = none) :
    ∃ t, exec .tick s = .next t ∧ t.sources = s.sources ∧ t.fs = s.fs ∧
      t.nq = s.nq ∧ t.zc = { s.zc with bounds := none } ∧ t.cp.sub = .frozen ∧ t.cp.compose = s.cp.compose ∧
      t.cp.repeats = s.cp.repeats ∧
      ∀ b, s.sendBuffer = some b → t.cp.lastSent = some b ∧
        t.op.video = some ⟨b, s.cp.picture b, ⟨s.cru.time,
          (s.cp.settings.wo * (s.cp.settings.wo * 9 / 16) + 1249) / 1250⟩⟩ := by
  have hquiet := quiet_stepped d s
  have hbounds : (s.sent d).stepBounds = none := by
    rw [(quiet_sent d s).stepBounds]
    simp [State.stepBounds, hs, hr]
  have hstepped : s.stepped d = { s.sent d with zc := { (s.sent d).zc with bounds := none } } := by
    rw [State.stepped, State.zoomStages, hbounds]
  have hempty : (s.stepped d).handed = [] := handed_off (by simp [hquiet.sub, hs])
  obtain ⟨hzc, hnq, -, -⟩ := sent_parts d s
  obtain ⟨hcp, hop⟩ := stepped_output d s
  rw [exec_tick, tick_idle h (unpromoted_of_none hpend) hr (.inl (by simp [hs])), composeBegin_empty hempty]
  refine ⟨_, rfl, hquiet.sources, hquiet.fs, ?_, ?_, hquiet.sub.trans hs, hquiet.compose, hquiet.repeats, fun b hb => ?_⟩
  · rw [hstepped]
    exact hnq
  · rw [hstepped, hzc]
  · rw [hcp, hop]
    exact (sends_sent (.inr hs) d).some b hb

/-- Settles O42: a tick by the output's sub-state, its record and the frames of its participants. -/
theorem tickWorks : Obligations.TickWorks := by
  refine ⟨⟨fun s hp => congrArg Host.Outcome.next (tick_elsewhere hp), fun s d k hp hd hdue hs hc hlive => ?_⟩,
    fun s d p q h hs hpin hr hp hq => tick_composes h hs hpin hr hp hq,
    ⟨fun s d p h hs hpin hr hp hq => tick_no_frame h hs hpin hr hp hq,
      fun s d r alone out q h hs hr hk hb hi hparts hq hout => tick_blends_alone h hs hr hk hb hi hparts hq hout⟩,
    fun s d p h hs hr hp => ⟨fun hw hpurpose hreports hfresh hlast => tick_promotes h hs hp hw hpurpose hreports hfresh hlast,
      tick_waits h hs hr hp⟩,
    fun s d h hs hpend hnone => ⟨fun r z hr hk hz => ⟨fun hw => ?_, fun hw => ?_⟩,
      fun hr hfrozen => tick_frozen h hfrozen hpend hr⟩⟩
  · have hq := quiet_sent d s
    have hsends := sends_sent (.inl hs) d
    obtain ⟨hzc, hnq, hfresh, hdeadline⟩ := sent_parts d s
    rw [exec_tick, tick_overruns hp hd hdue hc hlive, overrun_running (hq.sub.trans hs)]
    have hover := congrArg (fun n => min (n + 1) 65535) hq.overruns
    refine ⟨_, rfl, hdeadline, hover, hq.repeats, hq.compose.trans hc, hzc, hq.sources, hq.fs, hq.cru, hfresh, hsends.some,
      hsends.none, ?_⟩
    rw [← hnq, ← hq.cru, ← hzc, ← hq.overruns, ← hq.repeats]
    rfl
  · subst hz
    exact tick_rescues h hs hpend hnone hr hk hw
  · subst hz
    exact tick_rescue_waits h hs hpend hr hk hw

end Sys2Proof.Machine
end

section
/-! SUPPORT. Stage 4 on a record that stands, by its phase (R89, R92, R94 to R100, R110). -/

namespace Sys2Proof.Machine

variable {s t u v : State} {d : Time} {p i : Src} {k : NoticeKind} {r : Transition} {b : Rung}

/-! An occurrence after others of its kind (R183) -/

theorem Spares.trans (h : Spares k s t) (h' : Spares k t u) : Spares k s u :=
  ⟨h'.1.trans h.1, fun e he => (h'.2 e he).trans (h.2 e he)⟩

/-- The latest occurrence of its kind is on the way, whatever of its kind was posted before it. -/
theorem posted_last {p : Payload} (hm : t.nq.masked = s.nq.masked) {source : Option Src}
    (hu : Spares p.kind (t.post source p) u) : Posted s u p := by
  rcases Spares.posted (Spares.refl p.kind t) hu with hmask | hposted
  · left
    rwa [NoticeQueue.isMasked, hm] at hmask
  · exact .inr hposted

/-! Passing the picture (R97, R100, R110) -/

theorem usable_primary (h : (s.source i).state = .primary) : (s.source i).state.usable = true := by rw [h]; rfl

theorem usable_outgoing (h : (s.source i).state = .outgoing) : (s.source i).state.usable = true := by rw [h]; rfl

theorem usable_incoming (h : (s.source i).state = .incoming) : (s.source i).state.usable = true := by rw [h]; rfl

theorem Spares.passRoles (h : Spares k s t) (hk : k ≠ .sourceState) (r : Transition) : Spares k s (t.passRoles r) :=
  (h.setRole hk _ _).setRole hk _ _

theorem passPicture_done (hg : (s.source r.giver).state.usable = true) (ht : (s.source r.taker).state.usable = true)
    (change : SpoiledChange) (mode : HandMode) :
    s.passPicture r change mode = (s.removeRecord.passRoles r).postDone r mode s.cru.time := by
  rw [State.passPicture, not_lost ht, not_lost hg]
  rfl

theorem state_passRoles (hg : (s.source r.giver).state.usable = true) (ht : (s.source r.taker).state.usable = true)
    (hne : r.giver ≠ r.taker) :
    ((s.passRoles r).source r.giver).state = .warm ∧ ((s.passRoles r).source r.taker).state = .primary := by
  have htaker : ((s.setRole r.giver .warm).source r.taker).state = (s.source r.taker).state := by
    rw [source_setRole_ne _ _ _ _ hne.symm]
  exact ⟨by rw [State.passRoles, source_setRole_ne _ _ _ _ hne, state_setRole _ _ _ hg],
    state_setRole _ _ _ (by rwa [htaker])⟩

/-- The picture passes between two sources with power: the giver is WARM, the taker PRIMARY, and the record is gone. -/
theorem passPicture_fields (hg : (s.source r.giver).state.usable = true) (ht : (s.source r.taker).state.usable = true)
    (hne : r.giver ≠ r.taker) (change : SpoiledChange) (mode : HandMode) :
    (s.passPicture r change mode).zc.record = none ∧ ((s.passPicture r change mode).source r.giver).state = .warm ∧
      ((s.passPicture r change mode).source r.taker).state = .primary := by
  have hstates := state_passRoles (s := s.removeRecord) (by rwa [state_removeRecord]) (by rwa [state_removeRecord]) hne
  rw [passPicture_done hg ht]
  exact ⟨by simp [State.postDone], hstates⟩

theorem posted_passPicture (hs : Spares .handoffDone s t) (hg : (t.source r.giver).state.usable = true)
    (ht : (t.source r.taker).state.usable = true) {change : SpoiledChange} {mode : HandMode}
    (hu : Spares .handoffDone (t.passPicture r change mode) u) :
    Posted s u (.handoffDone r.kind r.giver r.taker mode r.limited r.n r.gains t.cru.time) := by
  rw [passPicture_done hg ht] at hu
  exact Spares.posted (p := .handoffDone r.kind r.giver r.taker mode r.limited r.n r.gains t.cru.time)
    (hs.removeRecord.passRoles (by decide) r) hu

theorem source_passPicture_ne {j : Src} (hg : j ≠ r.giver) (ht : j ≠ r.taker) (hr : s.zc.record = some r)
    (change : SpoiledChange) (mode : HandMode) : (s.passPicture r change mode).source j = s.source j := by
  have hroles : (s.removeRecord.passRoles r).source j = s.source j := by
    rw [State.passRoles, source_setRole_ne _ _ _ _ ht, source_setRole_ne _ _ _ _ hg, source_removeRecord_ne]
    intro q hq
    rwa [← Option.some.inj (hr.symm.trans hq)]
  unfold State.passPicture
  split_ifs <;> exact hroles

/-! The blend start (R98) -/

theorem startBlend_fields (hg : (s.source r.giver).state.usable = true) (ht : (s.source r.taker).state.usable = true)
    (hne : r.giver ≠ r.taker) : (s.startBlend r).zc.record = some { r with phase := .blending, index := 1 } ∧
      ((s.startBlend r).source r.giver).state = .outgoing ∧ ((s.startBlend r).source r.taker).state = .incoming := by
  have htaker : ((s.setRole r.giver .outgoing).source r.taker).state = (s.source r.taker).state := by
    rw [source_setRole_ne _ _ _ _ hne.symm]
  have hgiver : (((s.setRole r.giver .outgoing).setRole r.taker .incoming).source r.giver).state = .outgoing := by
    rw [source_setRole_ne _ _ _ _ hne, state_setRole _ _ _ hg]
  exact ⟨rfl, hgiver, state_setRole r.taker .incoming _ (by rwa [htaker])⟩

theorem Spares.startBlend (h : Spares k s t) (hk : k ≠ .sourceState) (r : Transition) : Spares k s (t.startBlend r) :=
  ((h.setRole hk r.giver .outgoing).setRole hk r.taker .incoming).same rfl

/-! The disarm (R94) -/

theorem disarms_iff (hb : s.boundary r = some b) : s.disarms r = true ↔
    (r.kind = .up ∧ s.zc.shown < b.d) ∨ (r.kind = .down ∧ b.u ≤ s.zc.shown) := by
  rw [State.disarms, hb]
  cases r.kind <;> simp

theorem recordWork_disarmed (hk : r.kind ≠ .rescue) (hp : r.phase ≠ .blending) (hd : s.disarms r = true) :
    s.recordWork r = s.removeRecord := by
  rw [recordWork_eq, if_neg hk, if_neg hp, if_pos hd]

theorem recordWork_armed (hk : r.kind ≠ .rescue) (hp : r.phase = .armed) (hd : ¬ s.disarms r = true) :
    s.recordWork r = s.armedWork r := by
  rw [recordWork_eq, if_neg hk, if_neg (by simp [hp]), if_neg hd, if_neg (by simp [hp])]

theorem recordWork_matching (hk : r.kind ≠ .rescue) (hp : r.phase = .matching) (hd : ¬ s.disarms r = true) :
    s.recordWork r = s.matchingWork r := by
  rw [recordWork_eq, if_neg hk, if_neg (by simp [hp]), if_neg hd, if_pos hp]

theorem recordWork_blending (hk : r.kind ≠ .rescue) (hp : r.phase = .blending) :
    s.recordWork r = if r.index < r.n then s.advanceBlend r else s.completeBlend r := by
  rw [recordWork_eq, if_neg hk, if_pos hp]

/-! ARMED (R92) -/

theorem armedWork_parked (h : (s.source r.taker).state = .parked) : s.armedWork r = s.wake .normal r.taker := by
  rw [State.armedWork, h]

theorem armedWork_warm (h : (s.source r.taker).state = .warm) : s.armedWork r =
    if r.n = 0 then s.passPicture r .cut .cut else s.setRecord (some { r with phase := .matching, ticks := 0, run := 0 }) := by
  rw [State.armedWork, h]
  rfl

theorem armedWork_waits (hp : (s.source r.taker).state ≠ .parked) (hw : (s.source r.taker).state ≠ .warm) :
    s.armedWork r = s := by
  rw [State.armedWork]
  cases h : (s.source r.taker).state <;> simp_all

/-- The ARMED work of a tick leaves Z and every source but the two of its record. -/
theorem armedWork_frame (hr : s.zc.record = some r) : (s.armedWork r).zc.shown = s.zc.shown ∧
    ∀ j, j ≠ r.taker → j ≠ r.giver → (s.armedWork r).source j = s.source j := by
  refine ⟨by simp, fun j ht hg => ?_⟩
  by_cases hp : (s.source r.taker).state = .parked
  · rw [armedWork_parked hp, source_wake, if_neg fun h => ht h.1]
  by_cases hw : (s.source r.taker).state = .warm
  · rw [armedWork_warm hw]
    split_ifs
    · exact source_passPicture_ne hg ht hr _ _
    · rfl
  · rw [armedWork_waits hp hw]

/-! MATCHING (R95, R96) -/

theorem matchUpdate_stale (h : ∀ o n, newestReady (s.ring r.giver) = some o → newestReady (s.ring r.taker) = some n →
    r.lastPair = some (o.start, n.start)) : s.matchUpdate r = s.setRecord (some r) := by
  unfold State.matchUpdate
  split
  · next o n ho hn => exact if_pos (h o n ho hn)
  · rfl

/-- A match update posts MATCH_LIMITED only where a ratio was limited (R95, R116). -/
theorem matchUpdate_newer {o n : FrameRec} {a c : Triple} (ho : newestReady (s.ring r.giver) = some o)
    (hn : newestReady (s.ring r.taker) = some n) (ha : o.means = some a) (hc : n.means = some c)
    (hpair : r.lastPair ≠ some (o.start, n.start)) {q : Transition}
    (hq : q = r.matchUpdate a c o.start n.start s.cp.settings.tolerance) : s.matchUpdate r =
      if anyClamped a c = true then (s.setRecord (some q)).postLimited q .ratio else s.setRecord (some q) := by
  subst hq
  rw [State.matchUpdate, ho, hn]
  simp only [FrameRec.meansOr, ha, hc, Option.getD_some]
  exact if_neg hpair

theorem matchingWork_eq {q : Transition}
    (h : (s.matchUpdate { r with ticks := min (r.ticks + 1) 255 }).zc.record = some q) :
    s.matchingWork r = (s.matchUpdate { r with ticks := min (r.ticks + 1) 255 }).decideMatch q := by
  rw [State.matchingWork]
  simp only [h]

theorem decideMatch_goes (hm : r.run < s.cp.settings.m) (hw : r.ticks < s.cp.settings.window) : s.decideMatch r = s := by
  rw [State.decideMatch, if_neg (by omega), if_neg (by omega)]

theorem decideMatch_converged (hm : s.cp.settings.m ≤ r.run) : s.decideMatch r = s.startBlend r := if_pos hm

theorem decideMatch_expired (hm : r.run < s.cp.settings.m) (hw : s.cp.settings.window ≤ r.ticks) : s.decideMatch r =
    (s.postLimited { r with limited := true } .window).startBlend { r with limited := true } := by
  rw [State.decideMatch, if_neg (by omega), if_pos hw]

/-- MATCH_LIMITED of an expired window is on the way (R116). -/
theorem posted_expired (hs : t.nq.masked = s.nq.masked) (hm : r.run < t.cp.settings.m)
    (hw : t.cp.settings.window ≤ r.ticks) (hu : Spares .matchLimited (t.decideMatch r) u) :
    Posted s u (.matchLimited .window r.giver r.taker r.gains r.run r.ticks t.cru.time) := by
  rw [decideMatch_expired hm hw] at hu
  exact posted_last (p := .matchLimited .window r.giver r.taker r.gains r.run r.ticks t.cru.time) hs
    (((Spares.refl .matchLimited _).startBlend (by decide) { r with limited := true }).trans hu)

end Sys2Proof.Machine
end

section
/-! THEOREM. A tick with a record, and MATCH_WINDOW_EXPIRY (R8, R76, R88, R92, R94 to R100, R110, R113, R116). -/

namespace Sys2Proof.Machine

variable {s t u v : State} {d : Time} {p i : Src} {k : NoticeKind} {r : Transition} {b : Rung}

/-! The tick of a RUNNING output with a record (R76, R77) -/

theorem source_composeBegin (i : Src) (s : State) : s.composeBegin.source i = s.source i := source_congr _ _ (by simp) i

theorem sources_composeBegin (s : State) : s.composeBegin.sources = s.sources := by simp

theorem zc_composeBegin (s : State) : s.composeBegin.zc = s.zc := by simp

theorem tick_worked (h : TickDue s d) (hs : s.cp.sub = .running) (hr : s.zc.record = some r) :
    s.tick = ((s.stepped d).recordWork r).composeBegin := tick_record h (unpromoted_of_sub (by simp [hs])) hr

theorem Quiet.boundary (h : Quiet s t) (r : Transition) : t.boundary r = s.boundary r := by
  rw [State.boundary, h.ladder]
  rfl

/-- The Z of a step that the record of a primary's hand-off finds (R77). -/
theorem stepped_handing (hs : s.cp.sub = .running) (hr : s.zc.record = some r) (hb : r.phase ≠ .blending)
    (hp : s.primary = some p) (d : Time) : (s.stepped d).zc.shown = s.steppedZoom p := by
  refine (stepped_shown (stepBounds_alone hs (knownPrimary_eq hp) fun q hq => ?_) d).1
  rwa [← Option.some.inj (hr.symm.trans hq)]

theorem state_primary (h : s.primary = some p) : (s.source p).state = .primary := by
  simpa using List.find?_some h

/-! A blend in progress (R99, R100, R110) -/

/-- A blend below N advances, and with both frames there both are composed (R99, R111). -/
theorem tick_advances (h : TickDue s d) (hs : s.cp.sub = .running) (hr : s.zc.record = some r) (hk : r.kind ≠ .rescue)
    (hb : r.phase = .blending) (hi : r.index < r.n) (hg : (s.source r.giver).state = .outgoing)
    (ht : (s.source r.taker).state = .incoming) :
    ∃ t, exec .tick s = .next t ∧ t.zc.record = some { r with index := r.index + 1 } ∧
      (t.source r.giver).state = .outgoing ∧ (t.source r.taker).state = .incoming ∧
      ∀ o n, newestReady (s.ring r.giver) = some o → newestReady (s.ring r.taker) = some n →
        ∃ k, t.cp.compose = some k ∧ k.live = true ∧ k.parts.map Part.source = [r.giver, r.taker] ∧
        k.parts.map Part.slot = [o.slot, n.slot] ∧
        k.parts.map Part.gains = [⟨1024, 1024, 1024⟩, Transition.blendGains { r with index := r.index + 1 }] ∧
        k.parts.map Part.weight =
          [256 - 256 * (r.index + 1) / (r.n + 1), 256 * (r.index + 1) / (r.n + 1)] := by
  have hstate (j : Src) : ((s.advanced d r).composeBegin.source j) = s.source j :=
    (source_composeBegin ..).trans ((quiet_stepped d s).source j)
  rw [exec_tick, tick_blends h hs hr hk hb hi]
  refine ⟨_, rfl, ?_, ?_, ?_, fun o n ho hn => ?_⟩
  · rw [zc_composeBegin]
    rfl
  · rwa [hstate]
  · rwa [hstate]
  · rw [← advanced_ring d r s] at ho hn
    obtain ⟨k, hk, hlive, hsource, hslot, hweight, hgains⟩ :=
      compose_parts (chosen_both (advanced_handed hs hb d) ho hn).1 (by simp)
    exact ⟨k, hk, hlive, hsource, hslot, hgains, hweight⟩

theorem tick_completing (h : TickDue s d) (hs : s.cp.sub = .running) (hr : s.zc.record = some r) (hk : r.kind ≠ .rescue)
    (hb : r.phase = .blending) (hi : r.n ≤ r.index) :
    s.tick = ((s.stepped d).passPicture r .completion .blend).composeBegin := by
  rw [tick_worked h hs hr, recordWork_blending hk hb, if_neg (by omega)]
  rfl

theorem tick_completes (h : TickDue s d) (hs : s.cp.sub = .running) (hr : s.zc.record = some r) (hk : r.kind ≠ .rescue)
    (hb : r.phase = .blending) (hne : r.giver ≠ r.taker) (hi : r.n ≤ r.index)
    (hg : (s.source r.giver).state = .outgoing) (ht : (s.source r.taker).state = .incoming) :
    ∃ t, exec .tick s = .next t ∧ t.zc.record = none ∧ (t.source r.giver).state = .warm ∧
      (t.source r.taker).state = .primary ∧
      Posted s t (.handoffDone r.kind r.giver r.taker .blend r.limited r.n r.gains s.cru.time) := by
  have hq := quiet_stepped d s
  have hgiver : ((s.stepped d).source r.giver).state.usable = true := by rw [hq.source, hg]; rfl
  have htaker : ((s.stepped d).source r.taker).state.usable = true := by rw [hq.source, ht]; rfl
  obtain ⟨hrec, hwarm, hprimary⟩ := passPicture_fields hgiver htaker hne .completion .blend
  have hposted := posted_passPicture (spares_stepped (by decide) d s) hgiver htaker
    ((Spares.refl .handoffDone ((s.stepped d).passPicture r .completion .blend)).composeBegin (by decide))
  rw [hq.cru] at hposted
  rw [exec_tick, tick_completing h hs hr hk hb hi]
  refine ⟨_, rfl, ?_, ?_, ?_, hposted⟩
  · rwa [zc_composeBegin]
  · rwa [source_composeBegin]
  · rwa [source_composeBegin]

/-- A removal of a record whose target has no power stops its idle timer. -/
theorem source_removeRecord_lost (hr : s.zc.record = some r) (h : (s.source r.taker).state ≠ .warm) :
    s.removeRecord.source r.taker = { s.source r.taker with idle := none } := by
  rw [removeRecord_eq hr, source_setSource, if_pos rfl, if_neg fun hw => h hw.1]

theorem lost_eq_true (h : (s.source i).state = .fault) : s.lost i = true := by rw [State.lost, h]; rfl

theorem passPicture_takerLost (h : s.lost r.taker = true) (change : SpoiledChange) (mode : HandMode) :
    s.passPicture r change mode = (s.removeRecord.passRoles r).spoil r.taker ⟨change, r, s.cru.time⟩ := if_pos h

theorem passPicture_giverLost (ht : s.lost r.taker = false) (hg : s.lost r.giver = true) (change : SpoiledChange)
    (mode : HandMode) :
    s.passPicture r change mode = (s.removeRecord.passRoles r).spoil r.giver ⟨change, r, s.cru.time⟩ := by
  rw [State.passPicture, ht, hg]
  rfl

/-- A change that finds a source with one pending report in FAULT is left to that report (R12, R110). -/
theorem reports_spoiled {s : State} {y : Report} (h : (s.source i).state.usable = false) (hy : s.zc.reports.get i = [y])
    (role : SrcState) (x : Spoiled) : ((s.setRole i role).spoil i x).zc.reports.get i = [⟨role, some x⟩] := by
  rw [reports_spoil, if_pos rfl, reports_setRole, if_pos rfl, if_neg (by simp [h]), hy]
  rfl

theorem reports_setRole_ne {i j : Src} (h : j ≠ i) (role : SrcState) (s : State) :
    (s.setRole i role).zc.reports.get j = s.zc.reports.get j := by rw [reports_setRole, if_neg h]

theorem Spares.spoil (h : Spares k s t) (i : Src) (x : Spoiled) : Spares k s (t.spoil i x) := h.same rfl

/-- A completion that finds the taker in FAULT (R110). -/
theorem passPicture_takerFault {y : Report} (hr : s.zc.record = some r) (hg : (s.source r.giver).state.usable = true)
    (ht : (s.source r.taker).state = .fault) (hne : r.giver ≠ r.taker) (hy : s.zc.reports.get r.taker = [y])
    (change : SpoiledChange) (mode : HandMode) :
    (s.passPicture r change mode).zc.record = none ∧ ((s.passPicture r change mode).source r.giver).state = .warm ∧
      (s.passPicture r change mode).source r.taker = { s.source r.taker with idle := none } ∧
      (s.passPicture r change mode).zc.reports.get r.taker = [⟨.primary, some ⟨change, r, s.cru.time⟩⟩] ∧
      Spares .handoffDone s (s.passPicture r change mode) := by
  have hgiver : (s.removeRecord.source r.giver).state.usable = true := by rwa [state_removeRecord]
  have hsame : (s.removeRecord.setRole r.giver .warm).source r.taker = { s.source r.taker with idle := none } := by
    rw [source_setRole_ne _ _ _ _ hne.symm, source_removeRecord_lost hr (by simp [ht])]
  have htaker : ((s.removeRecord.setRole r.giver .warm).source r.taker).state.usable = false := by
    rw [hsame]
    exact congrArg SrcState.usable ht
  rw [passPicture_takerLost (lost_eq_true ht)]
  refine ⟨by simp [State.spoil], ?_, ?_, reports_spoiled (y := y) htaker ?_ .primary _, ?_⟩
  · rw [source_spoil, State.passRoles, source_setRole_ne _ _ _ _ hne, state_setRole _ _ _ hgiver]
  · rw [source_spoil, State.passRoles, source_setRole_lost _ _ _ htaker, hsame]
  · rw [reports_setRole_ne hne.symm]
    simpa using hy
  · exact ((Spares.refl ..).removeRecord.passRoles (by decide) r).spoil _ _

/-- A completion that finds the giver in FAULT (R110). -/
theorem passPicture_giverFault {y : Report} (hr : s.zc.record = some r) (hg : (s.source r.giver).state = .fault)
    (ht : (s.source r.taker).state.usable = true) (hne : r.giver ≠ r.taker) (hy : s.zc.reports.get r.giver = [y])
    (change : SpoiledChange) (mode : HandMode) :
    (s.passPicture r change mode).zc.record = none ∧ (s.passPicture r change mode).source r.giver = s.source r.giver ∧
      ((s.passPicture r change mode).source r.taker).state = .primary ∧
      (s.passPicture r change mode).zc.reports.get r.giver = [⟨.warm, some ⟨change, r, s.cru.time⟩⟩] ∧
      Spares .handoffDone s (s.passPicture r change mode) := by
  have hsame : s.removeRecord.source r.giver = s.source r.giver :=
    source_removeRecord_ne fun q hq => by rwa [← Option.some.inj (hr.symm.trans hq)]
  have hgiver : (s.removeRecord.source r.giver).state.usable = false := by
    rw [hsame]
    exact congrArg SrcState.usable hg
  have htaker : ((s.removeRecord.setRole r.giver .warm).source r.taker).state.usable = true := by
    rwa [source_setRole_ne _ _ _ _ hne.symm, state_removeRecord]
  have hreports : (s.removeRecord.passRoles r).zc.reports.get r.giver =
      (s.removeRecord.setRole r.giver .warm).zc.reports.get r.giver := reports_setRole_ne hne _ _
  rw [passPicture_giverLost (not_lost ht) (lost_eq_true hg)]
  refine ⟨by simp [State.spoil], ?_, ?_, ?_, ?_⟩
  · rw [source_spoil, State.passRoles, source_setRole_ne _ _ _ _ hne, source_setRole_lost _ _ _ hgiver, hsame]
  · rw [source_spoil, State.passRoles, state_setRole _ _ _ htaker]
  · rw [reports_spoil, if_pos rfl, hreports, ← reports_spoiled hgiver (y := y) (by simpa using hy) .warm, reports_spoil, if_pos rfl]
  · exact ((Spares.refl ..).removeRecord.passRoles (by decide) r).spoil _ _

theorem tick_taker_fault (h : TickDue s d) (hs : s.cp.sub = .running) (hr : s.zc.record = some r) (hk : r.kind ≠ .rescue)
    (hb : r.phase = .blending) (hne : r.giver ≠ r.taker) {y : Report} (hi : r.n ≤ r.index)
    (hg : (s.source r.giver).state = .outgoing) (ht : (s.source r.taker).state = .fault)
    (hy : s.zc.reports.get r.taker = [y]) :
    ∃ t, exec .tick s = .next t ∧ t.zc.record = none ∧ (t.source r.giver).state = .warm ∧
      t.source r.taker = { s.source r.taker with idle := none } ∧ NotPosted s t .handoffDone ∧
      t.zc.reports.get r.taker = [⟨.primary, some ⟨.completion, r, s.cru.time⟩⟩] := by
  have hq := quiet_stepped d s
  obtain ⟨hrec, hgiver, htaker, hreports, hspares⟩ := passPicture_takerFault (s := s.stepped d) (hq.record.trans hr)
    (by rw [hq.source, hg]; rfl) (by rw [hq.source, ht]) hne (by rw [hq.reports, hy]) .completion .blend
  rw [hq.cru] at hreports
  rw [hq.source] at htaker
  rw [exec_tick, tick_completing h hs hr hk hb hi]
  refine ⟨_, rfl, ?_, ?_, ?_, (((spares_stepped (by decide) d s).trans hspares).composeBegin (by decide)).notPosted, ?_⟩
  · rwa [zc_composeBegin]
  · rwa [source_composeBegin]
  · rwa [source_composeBegin]
  · rwa [zc_composeBegin]

theorem tick_giver_fault (h : TickDue s d) (hs : s.cp.sub = .running) (hr : s.zc.record = some r) (hk : r.kind ≠ .rescue)
    (hb : r.phase = .blending) (hne : r.giver ≠ r.taker) {y : Report} (hi : r.n ≤ r.index)
    (hg : (s.source r.giver).state = .fault) (ht : (s.source r.taker).state = .incoming)
    (hy : s.zc.reports.get r.giver = [y]) :
    ∃ t, exec .tick s = .next t ∧ t.zc.record = none ∧ t.source r.giver = s.source r.giver ∧
      (t.source r.taker).state = .primary ∧ NotPosted s t .handoffDone ∧
      t.zc.reports.get r.giver = [⟨.warm, some ⟨.completion, r, s.cru.time⟩⟩] := by
  have hq := quiet_stepped d s
  obtain ⟨hrec, hgiver, htaker, hreports, hspares⟩ := passPicture_giverFault (s := s.stepped d) (hq.record.trans hr)
    (by rw [hq.source, hg]) (by rw [hq.source, ht]; rfl) hne (by rw [hq.reports, hy]) .completion .blend
  rw [hq.cru] at hreports
  rw [hq.source] at hgiver
  rw [exec_tick, tick_completing h hs hr hk hb hi]
  refine ⟨_, rfl, ?_, ?_, ?_, (((spares_stepped (by decide) d s).trans hspares).composeBegin (by decide)).notPosted, ?_⟩
  · rwa [zc_composeBegin]
  · rwa [source_composeBegin]
  · rwa [source_composeBegin]
  · rwa [zc_composeBegin]

/-! A record in ARMED or MATCHING (R92, R94 to R98) -/

/-- A record of the primary's hand-off before its blend, which a tick finds. -/
structure HandingTick (s : State) (d : Time) (r : Transition) : Prop where
  due : TickDue s d
  running : s.cp.sub = .running
  record : s.zc.record = some r
  kind : r.kind ≠ .rescue
  phase : r.phase ≠ .blending
  primary : s.primary = some r.giver
  ne : r.giver ≠ r.taker

/-- Z has passed the other point of the record's boundary (R94). -/
def Crossed (b : Rung) (z : Nat) (r : Transition) : Prop := (r.kind = .up ∧ z < b.d) ∨ (r.kind = .down ∧ b.u ≤ z)

theorem HandingTick.shown (h : HandingTick s d r) : (s.stepped d).zc.shown = s.steppedZoom r.giver :=
  stepped_handing h.running h.record h.phase h.primary d

theorem HandingTick.disarms (h : HandingTick s d r) (hb : s.boundary r = some b) :
    (s.stepped d).disarms r = true ↔ Crossed b (s.steppedZoom r.giver) r := by
  rw [disarms_iff (((quiet_stepped d s).boundary r).trans hb), h.shown]
  rfl

theorem HandingTick.tick (h : HandingTick s d r) : s.tick = ((s.stepped d).recordWork r).composeBegin :=
  tick_worked h.due h.running h.record

theorem HandingTick.giver (h : HandingTick s d r) : ((s.stepped d).source r.giver).state.usable = true := by
  rw [(quiet_stepped d s).source, state_primary h.primary]
  rfl

theorem tick_disarms (h : HandingTick s d r) (hb : s.boundary r = some b) (hc : Crossed b (s.steppedZoom r.giver) r) :
    ∃ t, exec .tick s = .next t ∧ t.zc.record = none ∧ t.zc.shown = s.steppedZoom r.giver ∧
      (∀ j, j ≠ r.taker → t.source j = s.source j) ∧ NotPosted s t .handoffDone ∧ NotPosted s t .handoffAborted ∧
      t.source r.taker = { s.source r.taker with
        idle := if (s.source r.taker).state = .warm ∧ (s.source r.taker).idleTwenties ≠ 0
          then some ⟨s.cru.time, (s.source r.taker).idleTwenties * 20000⟩ else none } := by
  have hq := quiet_stepped d s
  have hrec := hq.record.trans h.record
  have hspares {k : NoticeKind} (hz : k ≠ .zoomHeld) (ho : k ≠ .outputRepeat) :
      Spares k s (s.stepped d).removeRecord.composeBegin := (spares_stepped hz d s).removeRecord.composeBegin ho
  have hpending : (s.stepped d).isPending r.taker = false := by simp [State.isPending, hq.sub, h.running]
  rw [exec_tick, h.tick, recordWork_disarmed h.kind h.phase ((h.disarms hb).mpr hc)]
  refine ⟨_, rfl, ?_, ?_, fun j hj => ?_, (hspares (by decide) (by decide)).notPosted,
    (hspares (by decide) (by decide)).notPosted, ?_⟩
  · rw [zc_composeBegin, record_removeRecord]
  · rw [zc_composeBegin, ← h.shown]
    simp
  · rw [source_composeBegin, source_removeRecord_ne, hq.source]
    intro q hr
    rwa [← Option.some.inj (hrec.symm.trans hr)]
  · rw [source_composeBegin, removeRecord_eq hrec, source_setSource, if_pos rfl, hpending, hq.source, hq.cru]
    simp

theorem tick_armed (h : HandingTick s d r) (hb : s.boundary r = some b) (hc : ¬ Crossed b (s.steppedZoom r.giver) r)
    (ha : r.phase = .armed) : s.tick = ((s.stepped d).armedWork r).composeBegin := by
  rw [h.tick, recordWork_armed h.kind ha (mt (h.disarms hb).mp hc)]

/-- The ARMED work of a tick (R92). -/
theorem tick_armed_cases (h : HandingTick s d r) (hb : s.boundary r = some b)
    (hc : ¬ Crossed b (s.steppedZoom r.giver) r) (ha : r.phase = .armed) :
    ∃ t, exec .tick s = .next t ∧ t.zc.shown = s.steppedZoom r.giver ∧
      (∀ j, j ≠ r.taker → j ≠ r.giver → t.source j = s.source j) ∧
      ((s.source r.taker).state = .parked → (s.source r.taker).defined = true →
        t.zc.record = some r ∧ t.source r.taker = s.wokenRec r.taker ∧ t.source r.giver = s.source r.giver) ∧
      ((s.source r.taker).state = .waking ∨ (s.source r.taker).state = .syncing ∨ (s.source r.taker).state = .fault →
        t.zc.record = some r ∧ t.sources = s.sources) ∧
      ((s.source r.taker).state = .warm → r.n ≠ 0 →
        t.zc.record = some { r with phase := .matching, ticks := 0, run := 0 } ∧ t.sources = s.sources) ∧
      ((s.source r.taker).state = .warm → r.n = 0 → t.zc.record = none ∧ (t.source r.giver).state = .warm ∧
        (t.source r.taker).state = .primary ∧
        Posted s t (.handoffDone r.kind r.giver r.taker .cut r.limited 0 r.gains s.cru.time)) := by
  have hq := quiet_stepped d s
  have hrec := hq.record.trans h.record
  obtain ⟨hshown, hframe⟩ := armedWork_frame hrec
  rw [exec_tick, tick_armed h hb hc ha]
  simp only [zc_composeBegin, source_composeBegin, sources_composeBegin, Host.Outcome.next.injEq, exists_eq_left']
  refine ⟨hshown.trans h.shown, fun j ht hg => (hframe j ht hg).trans (hq.source j), fun hp hdef => ?_, fun hwait => ?_,
    fun hw hn => ?_, fun hw hn => ?_⟩
  · have hwake : (s.stepped d).wokenRec r.taker = s.wokenRec r.taker := by
      rw [State.wokenRec, hq.source, hq.cru]
      rfl
    rw [armedWork_parked (by rwa [hq.source]), source_wake, if_pos ⟨rfl, by rw [hq.source]; exact ⟨hp, hdef⟩⟩, source_wake,
      if_neg fun hj => h.ne hj.1, ← hwake]
    exact ⟨by simpa using hrec, rfl, hq.source _⟩
  · rw [armedWork_waits (by rw [hq.source]; grind) (by rw [hq.source]; grind)]
    exact ⟨hrec, hq.sources⟩
  · rw [armedWork_warm (by rwa [hq.source]), if_neg hn]
    exact ⟨rfl, hq.sources⟩
  · have htaker : ((s.stepped d).source r.taker).state.usable = true := by rw [hq.source, hw]; rfl
    obtain ⟨hnone, hwarm, hprimary⟩ := passPicture_fields h.giver htaker h.ne .cut .cut
    have hposted := posted_passPicture (spares_stepped (by decide) d s) h.giver htaker
      ((Spares.refl .handoffDone ((s.stepped d).passPicture r .cut .cut)).composeBegin (by decide))
    rw [hq.cru, hn] at hposted
    rw [armedWork_warm (by rwa [hq.source]), if_pos hn]
    exact ⟨hnone, hwarm, hprimary, hposted⟩

/-- A match update: the record replaced, with MATCH_LIMITED where a ratio was limited (R95, R116). -/
def State.updated (q : Transition) (clamped : Bool) (s : State) : State :=
  if clamped = true then (s.setRecord (some q)).postLimited q .ratio else s.setRecord (some q)

theorem updated_fields (q : Transition) (clamped : Bool) (s : State) : (s.updated q clamped).zc.record = some q ∧
    (s.updated q clamped).sources = s.sources ∧ (s.updated q clamped).cp = s.cp ∧ (s.updated q clamped).cru = s.cru ∧
    (s.updated q clamped).nq.masked = s.nq.masked := by
  unfold State.updated
  split_ifs
  · exact ⟨rfl, rfl, rfl, rfl, masked_post ..⟩
  · exact ⟨rfl, rfl, rfl, rfl, rfl⟩

theorem Spares.updated (h : Spares k s t) (q : Transition) {clamped : Bool} (hk : clamped = true → k ≠ .matchLimited) :
    Spares k s (t.updated q clamped) := by
  unfold State.updated
  split_ifs with hc
  · exact Spares.post (h.same rfl) (hk hc).symm
  · exact h.same rfl

/-- The MATCHING work of a tick whose match update leaves this record. -/
structure MatchingTick (s : State) (d : Time) (q : Transition) (clamped : Bool) : Prop where
  tick : s.tick = (((s.stepped d).updated q clamped).decideMatch q).composeBegin
  giver : (s.source q.giver).state = .primary
  taker : (s.source q.taker).state = .warm
  ne : q.giver ≠ q.taker

variable {q : Transition} {clamped : Bool}

theorem matchingWork_of_updated (h : s.matchUpdate { r with ticks := min (r.ticks + 1) 255 } = s.updated q clamped) :
    s.matchingWork r = (s.updated q clamped).decideMatch q := by
  rw [matchingWork_eq (q := q) (by rw [h]; exact (updated_fields ..).1), h]

theorem matching_goes (h : MatchingTick s d q clamped) (hm : q.run < s.cp.settings.m) (hw : q.ticks < s.cp.settings.window) :
    s.tick.zc.record = some q ∧ s.tick.sources = s.sources ∧
      (clamped = true → Posted s s.tick (.matchLimited .ratio q.giver q.taker q.gains q.run q.ticks s.cru.time)) := by
  have hq := quiet_stepped d s
  obtain ⟨hrec, hsources, hcp, -⟩ := updated_fields q clamped (s.stepped d)
  rw [← hq.settings, ← hcp] at hm hw
  rw [h.tick, decideMatch_goes hm hw, zc_composeBegin, sources_composeBegin]
  refine ⟨hrec, hsources.trans hq.sources, fun hc => ?_⟩
  rw [State.updated, if_pos hc, ← hq.cru]
  exact Spares.posted (p := .matchLimited .ratio q.giver q.taker q.gains q.run q.ticks (s.stepped d).cru.time)
    ((spares_stepped (k := .matchLimited) (by decide) d s).same rfl)
    ((Spares.refl .matchLimited _).composeBegin (by decide))

theorem updated_usable (h : MatchingTick s d q clamped) : ((((s.stepped d).updated q clamped).source q.giver).state.usable = true) ∧
    (((s.stepped d).updated q clamped).source q.taker).state.usable = true := by
  have hsource (j : Src) : ((s.stepped d).updated q clamped).source j = s.source j :=
    source_congr s _ ((updated_fields ..).2.1.trans (quiet_stepped d s).sources) j
  rw [hsource, hsource, h.giver, h.taker]
  exact ⟨rfl, rfl⟩

theorem matching_converges (h : MatchingTick s d q clamped) (hm : s.cp.settings.m ≤ q.run) :
    s.tick.zc.record = some { q with phase := .blending, index := 1 } ∧ (s.tick.source q.giver).state = .outgoing ∧
      (s.tick.source q.taker).state = .incoming ∧ (clamped = false → NotPosted s s.tick .matchLimited) := by
  have hq := quiet_stepped d s
  obtain ⟨-, -, hcp, -⟩ := updated_fields q clamped (s.stepped d)
  obtain ⟨hg, ht⟩ := updated_usable h
  rw [← hq.settings, ← hcp] at hm
  rw [h.tick, decideMatch_converged hm, zc_composeBegin, source_composeBegin, source_composeBegin]
  obtain ⟨hrec, hout, hinc⟩ := startBlend_fields hg ht h.ne
  refine ⟨hrec, hout, hinc, fun hc => ?_⟩
  exact ((((spares_stepped (by decide) d s).updated q fun hn => absurd (hn.symm.trans hc) (by decide)).startBlend (by decide)
    q).composeBegin (by decide)).notPosted

theorem matching_expires (h : MatchingTick s d q clamped) (hm : q.run < s.cp.settings.m)
    (hw : s.cp.settings.window ≤ q.ticks) :
    s.tick.zc.record = some { q with phase := .blending, index := 1, limited := true } ∧
      (s.tick.source q.giver).state = .outgoing ∧ (s.tick.source q.taker).state = .incoming ∧
      Posted s s.tick (.matchLimited .window q.giver q.taker q.gains q.run q.ticks s.cru.time) := by
  have hq := quiet_stepped d s
  obtain ⟨-, -, hcp, hcru, hmasked⟩ := updated_fields q clamped (s.stepped d)
  obtain ⟨hg, ht⟩ := updated_usable h
  rw [← hq.settings, ← hcp] at hm hw
  have hmask : ((s.stepped d).updated q clamped).nq.masked = s.nq.masked :=
    hmasked.trans (spares_stepped (k := .matchLimited) (by decide) d s).1
  have hposted := posted_expired hmask hm hw ((Spares.refl .matchLimited _).composeBegin (by decide))
  rw [hcru, hq.cru] at hposted
  rw [h.tick, zc_composeBegin, source_composeBegin, source_composeBegin]
  rw [decideMatch_expired hm hw] at hposted ⊢
  obtain ⟨hrec, hout, hinc⟩ := startBlend_fields
    (s := ((s.stepped d).updated q clamped).postLimited { q with limited := true } .window)
    (r := { q with limited := true }) hg ht h.ne
  exact ⟨hrec, hout, hinc, hposted⟩

/-- A tick in MATCHING, by what its match update leaves. -/
theorem HandingTick.matching (h : HandingTick s d r) (hd : ¬ (s.stepped d).disarms r = true) (hm : r.phase = .matching)
    (hw : (s.source r.taker).state = .warm) (hg : q.giver = r.giver) (ht : q.taker = r.taker)
    (hu : (s.stepped d).matchUpdate { r with ticks := min (r.ticks + 1) 255 } = (s.stepped d).updated q clamped) :
    MatchingTick s d q clamped where
  tick := by rw [h.tick, recordWork_matching h.kind hm hd, matchingWork_of_updated hu]
  giver := by rw [hg, state_primary h.primary]
  taker := by rwa [ht]
  ne := by rw [hg, ht]; exact h.ne

theorem HandingTick.newer (h : HandingTick s d r) {o n : FrameRec} {a c : Triple} (hd : ¬ (s.stepped d).disarms r = true)
    (hm : r.phase = .matching) (hw : (s.source r.taker).state = .warm) (ho : newestReady (s.ring r.giver) = some o)
    (hn : newestReady (s.ring r.taker) = some n) (ha : o.means = some a) (hc : n.means = some c)
    (hpair : r.lastPair ≠ some (o.start, n.start)) :
    MatchingTick s d (Transition.matchUpdate { r with ticks := min (r.ticks + 1) 255 } a c o.start n.start
      s.cp.settings.tolerance) (anyClamped a c) := by
  have hq := quiet_stepped d s
  refine h.matching hd hm hw rfl rfl ?_
  rw [← hq.ring] at ho hn
  exact matchUpdate_newer (r := { r with ticks := min (r.ticks + 1) 255 }) ho hn ha hc hpair (by rw [hq.settings])

theorem HandingTick.stale (h : HandingTick s d r) (hd : ¬ (s.stepped d).disarms r = true) (hm : r.phase = .matching)
    (hw : (s.source r.taker).state = .warm)
    (hpair : ∀ o n, newestReady (s.ring r.giver) = some o → newestReady (s.ring r.taker) = some n →
      r.lastPair = some (o.start, n.start)) :
    MatchingTick s d { r with ticks := min (r.ticks + 1) 255 } false := by
  have hq := quiet_stepped d s
  refine h.matching hd hm hw rfl rfl (matchUpdate_stale fun o n ho hn => ?_)
  rw [hq.ring] at ho hn
  exact hpair o n ho hn

/-! MATCH_WINDOW_EXPIRY (R96) -/

theorem windowDue_iff (hr : s.zc.record = some r) : s.windowDue = true ↔
    r.phase = .matching ∧ s.cp.settings.window ≤ min (r.ticks + 1) 255 := by
  rw [State.windowDue, hr]
  exact decide_eq_true_iff

theorem exec_matchWindowExpiry (s : State) :
    exec .matchWindowExpiry s = .next (if s.windowDue = true then s.tick else s) := rfl

/-- Settles O37: the work of a tick on the record it finds, by its phase. -/
theorem blendRuns : Obligations.BlendRuns := by
  refine ⟨fun s r d h hs hr hk hm => ⟨fun hwindow hmax hrun hne hg ht hp hb hpair => ?_, fun hearly => ?_⟩,
    fun s r d h hs hr hk hb hne => ⟨tick_advances h hs hr hk hb, tick_completes h hs hr hk hb hne,
      fun y => tick_taker_fault h hs hr hk hb hne, fun y => tick_giver_fault h hs hr hk hb hne⟩,
    fun s r d b z h hs hr hk hb hp hne hbound hz => ?_⟩
  · have hh : HandingTick s d r := ⟨h, hs, hr, hk, by simp [hm], hp, hne⟩
    have hd : ¬ (s.stepped d).disarms r = true := fun hdis => by
      cases hbound : s.boundary r with
      | none => simp [State.disarms, (quiet_stepped d s).boundary, hbound] at hdis
      | some b =>
        obtain ⟨hup, hdown⟩ := hb b hbound
        rcases (hh.disarms hbound).mp hdis with ⟨hkind, hz⟩ | ⟨hkind, hz⟩
        · exact absurd hz (not_lt.mpr (hup hkind))
        · exact absurd hz (not_le.mpr (hdown hkind))
    have hdue : s.cp.settings.window ≤ min (r.ticks + 1) 255 := le_min hwindow hmax
    obtain ⟨hrec, hout, hinc, hposted⟩ := matching_expires (hh.stale hd hm ht hpair) hrun hdue
    rw [exec_matchWindowExpiry, if_pos ((windowDue_iff hr).mpr ⟨hm, hdue⟩)]
    exact ⟨_, rfl, hout, hinc, hrec, hposted⟩
  · rw [exec_matchWindowExpiry, if_neg fun hdue => absurd ((windowDue_iff hr).mp hdue).2 (not_le.mpr hearly)]
  · subst hz
    have hh : HandingTick s d r := ⟨h, hs, hr, hk, hb, hp, hne⟩
    refine ⟨tick_disarms hh hbound, tick_armed_cases hh hbound, fun o n a c hc hm hw ho hn ha hc' hpair => ?_⟩
    have hnewer := hh.newer (mt (hh.disarms hbound).mp hc) hm hw ho hn ha hc' hpair
    refine ⟨fun hclamp hrun hwin => ⟨_, rfl, (matching_goes hnewer hrun hwin).2.2 hclamp⟩, fun hrun hwin => ?_,
      fun hrun => ⟨_, rfl, matching_converges hnewer hrun⟩, fun hrun hwin => ⟨_, rfl, matching_expires hnewer hrun hwin⟩⟩
    obtain ⟨hrec, hsources, -⟩ := matching_goes hnewer hrun hwin
    exact ⟨_, rfl, hrec, hsources⟩

end Sys2Proof.Machine
end

section
/-! THEOREM. The triggers, the wake points of a tick, and the record a trigger creates (R6, R76, R81, R89 to R92, R97). -/

namespace Sys2Proof.Machine

variable {s t u : State} {d : Time} {p i j : Src} {r : Transition} {l : Ladder} {k z : Nat} {g : Rung}

/-! The rungs beside the primary's (R81, R90) -/

/-- The rung above rung `k`, where Z stands at or above its point. -/
def rungAbove (point : Rung → Nat) (l : Ladder) (k z : Nat) : Option Rung := l[k + 1]?.filter fun g => decide (point g ≤ z)

/-- The rung below rung `k`, where Z stands below the point of rung `k`. -/
def rungBelow (point : Rung → Nat) (l : Ladder) (k z : Nat) : Option Rung :=
  if 0 < k ∧ (l[k]?.map point).any (fun y => decide (z < y)) = true then l[k - 1]? else none

theorem rungAbove_eq_some {point : Rung → Nat} : rungAbove point l k z = some g ↔ l[k + 1]? = some g ∧ point g ≤ z := by
  simp [rungAbove, Option.filter_eq_some_iff]

theorem rungBelow_eq_some {point : Rung → Nat} : rungBelow point l k z = some g ↔
    ∃ h, 0 < k ∧ l[k]? = some h ∧ z < point h ∧ l[k - 1]? = some g := by
  unfold rungBelow
  cases hk : l[k]? with
  | none => simp
  | some h =>
    simp only [Option.map_some, Option.any_some, decide_eq_true_eq, Option.some.injEq]
    split_ifs with hz
    · exact ⟨fun hg => ⟨h, hz.1, rfl, hz.2, hg⟩, fun ⟨_, _, _, _, hg⟩ => hg⟩
    · refine ⟨False.elim, ?_⟩
      rintro ⟨_, hpos, rfl, hlt, -⟩
      exact absurd ⟨hpos, hlt⟩ hz

theorem triggerTarget_eq (s : State) (o : Option Rung) : (o.map Rung.source).bind s.triggerTarget =
    (o.filter fun g => decide ((s.source g.source).state ≠ .fault)).map Rung.source := by
  cases o with
  | none => rfl
  | some g =>
    by_cases hf : (s.source g.source).state = .fault <;> simp [State.triggerTarget, hf]

theorem upTarget_eq (s : State) (l : Ladder) (k : Nat) :
    s.upTarget l k = ((rungAbove Rung.u l k s.zc.shown).map Rung.source).bind s.triggerTarget := by
  unfold State.upTarget rungAbove
  cases l[k + 1]? with
  | none => rfl
  | some g => by_cases hu : g.u ≤ s.zc.shown <;> simp [hu, Option.filter]

theorem downTarget_eq (s : State) (l : Ladder) (k : Nat) :
    s.downTarget l k = ((rungBelow Rung.d l k s.zc.shown).map Rung.source).bind s.triggerTarget := by
  unfold State.downTarget rungBelow
  cases k with
  | zero => simp
  | succ below =>
    cases l[below + 1]? with
    | none => simp
    | some g =>
      by_cases hd : s.zc.shown < g.d
      · cases hq : l[below]? <;> simp [hd, hq]
      · simp [hd]

/-! The trigger (R90, R91) -/

theorem steadyPrimary_of_primary (h : s.primary = some p) : s.steadyPrimary = some p := by rw [State.steadyPrimary, h]

theorem primaryRung_eq (hl : s.zc.ladder = some l) (hp : s.primary = some p) (hk : rungOf l p = some k) :
    s.primaryRung = some (l, k, p) := by
  rw [State.primaryRung, hl, steadyPrimary_of_primary hp]
  exact congrArg (Option.map fun k => (l, k, p)) hk

/-- The triggers of R90 and the record of R91, as the ladder gives them. -/
theorem trigger_of_rungs (h : s.primaryRung = some (l, k, p)) :
    s.trigger =
      match (rungAbove Rung.u l k s.zc.shown).filter fun g => decide ((s.source g.source).state ≠ .fault),
        (rungBelow Rung.d l k s.zc.shown).filter fun g => decide ((s.source g.source).state ≠ .fault) with
      | some g, _ => some (.fresh .up p g.source s.cp.settings.n)
      | none, some g => some (.fresh .down p g.source s.cp.settings.n)
      | none, none => none := by
  simp only [State.trigger, h, upTarget_eq, downTarget_eq, triggerTarget_eq]
  cases (rungAbove Rung.u l k s.zc.shown).filter fun g => decide ((s.source g.source).state ≠ .fault) with
  | some g => rfl
  | none =>
    cases (rungBelow Rung.d l k s.zc.shown).filter fun g => decide ((s.source g.source).state ≠ .fault) <;> rfl

/-- What the triggers read. -/
theorem trigger_congr (hz : t.zc.ladder = s.zc.ladder) (hshown : t.zc.shown = s.zc.shown) (hp : t.steadyPrimary = s.steadyPrimary)
    (hf : ∀ i, (t.source i).state = .fault ↔ (s.source i).state = .fault) (hc : t.cp.settings = s.cp.settings) :
    t.trigger = s.trigger := by
  have htarget : t.triggerTarget = s.triggerTarget := funext fun i => if_congr (hf i) rfl rfl
  have hrung : t.primaryRung = s.primaryRung := by rw [State.primaryRung, hz, hp, State.primaryRung]
  simp only [State.trigger, hrung, upTarget_eq, downTarget_eq, htarget, hshown, hc]

/-- Another rung of the ladder has another source (R70). -/
theorem rung_source_ne (hnodup : (l.map Rung.source).Nodup) (hk : rungOf l p = some k) {m : Nat} (hm : m ≠ k)
    (hg : l[m]? = some g) : g.source ≠ p := by
  obtain ⟨hlt, hp, -⟩ := List.findIdx?_eq_some_iff_getElem.mp hk
  obtain ⟨hlt', rfl⟩ := List.getElem?_eq_some_iff.mp hg
  intro he
  have hsame : (l.map Rung.source)[m]'(by simpa) = (l.map Rung.source)[k]'(by simpa) := by
    rw [List.getElem_map, List.getElem_map, he, of_decide_eq_true hp]
  exact hm ((List.Nodup.getElem_inj_iff hnodup).mp hsame)

/-- A trigger's record hands over from the primary to another source of the ladder (R88, R91). -/
theorem trigger_shape (h : s.primaryRung = some (l, k, p)) (hnodup : (l.map Rung.source).Nodup)
    (hk : rungOf l p = some k) (hr : s.trigger = some r) :
    ∃ kind t, t ≠ p ∧ r = .fresh kind p t s.cp.settings.n := by
  rw [trigger_of_rungs h] at hr
  split at hr
  · next _ g hup =>
    obtain ⟨habove, -⟩ := rungAbove_eq_some.mp (Option.filter_eq_some_iff.mp hup).1
    exact ⟨.up, g.source, rung_source_ne hnodup hk (by omega) habove, (Option.some.inj hr).symm⟩
  · next g _ hdown =>
    obtain ⟨-, hpos, -, -, hbelow⟩ := rungBelow_eq_some.mp (Option.filter_eq_some_iff.mp hdown).1
    exact ⟨.down, g.source, rung_source_ne hnodup hk (by omega) hbelow, (Option.some.inj hr).symm⟩
  · cases hr

/-! The wake points (R6, R81) -/

/-- The wake points of rung `k` at this Z name a PARKED and described source (R81). -/
def State.Wakes (s : State) (l : Ladder) (k z : Nat) (j : Src) : Prop :=
  (s.source j).state = .parked ∧ (s.source j).defined = true ∧
    ((∃ g, l[k + 1]? = some g ∧ g.source = j ∧ g.wu ≤ z) ∨
      ∃ g q, 0 < k ∧ l[k]? = some g ∧ z < g.wd ∧ l[k - 1]? = some q ∧ q.source = j)

theorem wakes_iff : s.Wakes l k z j ↔ (s.source j).state = .parked ∧ (s.source j).defined = true ∧
    ((rungAbove Rung.wu l k z).map Rung.source = some j ∨ (rungBelow Rung.wd l k z).map Rung.source = some j) := by
  have hup : (rungAbove Rung.wu l k z).map Rung.source = some j ↔ ∃ g, l[k + 1]? = some g ∧ g.source = j ∧ g.wu ≤ z := by
    simp only [Option.map_eq_some_iff, rungAbove_eq_some]
    grind
  have hlow : (rungBelow Rung.wd l k z).map Rung.source = some j ↔
      ∃ g q, 0 < k ∧ l[k]? = some g ∧ z < g.wd ∧ l[k - 1]? = some q ∧ q.source = j := by
    simp only [Option.map_eq_some_iff, rungBelow_eq_some]
    grind
  rw [hup, hlow, State.Wakes]

/-- A wake of the source named, if any. -/
def State.wakeNamed (o : Option Src) (s : State) : State :=
  match o with
  | none => s
  | some i => s.wake .normal i

theorem wakeUpper_eq (s : State) (l : Ladder) (k : Nat) :
    s.wakeUpper l k = s.wakeNamed ((rungAbove Rung.wu l k s.zc.shown).map Rung.source) := by
  unfold State.wakeUpper rungAbove
  cases l[k + 1]? with
  | none => rfl
  | some g => by_cases hu : g.wu ≤ s.zc.shown <;> simp [hu, Option.filter, State.wakeNamed]

theorem wakeLower_eq (s : State) (l : Ladder) (k : Nat) :
    s.wakeLower l k = s.wakeNamed ((rungBelow Rung.wd l k s.zc.shown).map Rung.source) := by
  unfold State.wakeLower rungBelow
  cases k with
  | zero => simp [State.wakeNamed]
  | succ below =>
    cases l[below + 1]? with
    | none => simp [State.wakeNamed]
    | some g =>
      by_cases hd : s.zc.shown < g.wd
      · cases hq : l[below]? <;> simp [hd, hq, State.wakeNamed]
      · simp [hd, State.wakeNamed]

theorem wakeNamed_keeps (o : Option Src) (s : State) :
    (s.wakeNamed o).zc = s.zc ∧ (s.wakeNamed o).cru = s.cru ∧ (s.wakeNamed o).cp = s.cp := by
  cases o <;> simp [State.wakeNamed]

theorem source_wakeNamed (o : Option Src) (j : Src) (s : State) : (s.wakeNamed o).source j =
    if o = some j ∧ (s.source j).state = .parked ∧ (s.source j).defined = true then s.wokenRec j else s.source j := by
  cases o with
  | none => simp [State.wakeNamed]
  | some i =>
    rw [State.wakeNamed, source_wake]
    by_cases hj : j = i
    · subst hj
      simp only [true_and]
      rfl
    · rw [if_neg fun h => hj h.1, if_neg fun h => hj (Option.some.inj h.1).symm]

theorem wakePoints_eq (hf : s.handoffFree = true) (h : s.primaryRung = some (l, k, p)) : s.wakePoints =
    (s.wakeNamed ((rungAbove Rung.wu l k s.zc.shown).map Rung.source)).wakeNamed
      ((rungBelow Rung.wd l k s.zc.shown).map Rung.source) := by
  simp only [State.wakePoints, if_pos hf, h]
  rw [wakeLower_eq, wakeUpper_eq, (wakeNamed_keeps ..).1]

/-- The wake points wake the sources they name, and no other (R6, R81). -/
theorem source_wakePoints (hf : s.handoffFree = true) (h : s.primaryRung = some (l, k, p)) (j : Src) :
    (s.Wakes l k s.zc.shown j → s.wakePoints.source j = s.wokenRec j) ∧
      (¬ s.Wakes l k s.zc.shown j → s.wakePoints.source j = s.source j) := by
  rw [wakes_iff, wakePoints_eq hf h, source_wakeNamed]
  by_cases hup : (rungAbove Rung.wu l k s.zc.shown).map Rung.source = some j ∧ (s.source j).state = .parked ∧
      (s.source j).defined = true
  · have hwoken := (source_wakeNamed _ j s).trans (if_pos hup)
    rw [if_neg (by rw [hwoken]; exact fun hn => SrcState.noConfusion hn.2.1), hwoken]
    exact ⟨fun _ => rfl, fun hn => absurd ⟨hup.2.1, hup.2.2, .inl hup.1⟩ hn⟩
  · have hsame := (source_wakeNamed _ j s).trans (if_neg hup)
    have hrec : (s.wakeNamed ((rungAbove Rung.wu l k s.zc.shown).map Rung.source)).wokenRec j = s.wokenRec j := by
      rw [State.wokenRec, hsame, (wakeNamed_keeps ..).2.1]
      rfl
    rw [hsame, hrec]
    refine ⟨fun ⟨hp, hd, hany⟩ => if_pos ⟨hany.resolve_left fun hn => hup ⟨hn, hp, hd⟩, hp, hd⟩, fun hn => if_neg ?_⟩
    rintro ⟨hlow, hp, hd⟩
    exact hn ⟨hp, hd, .inr hlow⟩

end Sys2Proof.Machine
end

section
/-! THEOREM. A tick with no record and no pin (R6, R76 to R78, R81, R89 to R92, R97). -/

namespace Sys2Proof.Machine

variable {s t u w : State} {d : Time} {p i j : Src} {r : Transition} {l : Ladder} {k z : Nat}

/-! What the wake points of a tick leave (R76, R81) -/

/-- A free tick: RUNNING, no record, no pin, and the primary on rung `k` of a ladder of distinct sources. -/
structure FreeTick (s : State) (d : Time) (l : Ladder) (k : Nat) (p : Src) : Prop where
  due : TickDue s d
  running : s.cp.sub = .running
  record : s.zc.record = none
  pinned : s.zc.pinned = false
  ladder : s.zc.ladder = some l
  nodup : (l.map Rung.source).Nodup
  primary : s.primary = some p
  rung : rungOf l p = some k

/-- The machine at a free tick after the wake points. -/
def State.woken (d : Time) (s : State) : State := (s.stepped d).wakePoints

/-- The wake points have been taken on the way from `s` to `w`. -/
structure Woken (s w : State) (l : Ladder) (k z : Nat) : Prop where
  wakes : ∀ j, s.Wakes l k z j → w.source j = s.wokenRec j
  stays : ∀ j, ¬ s.Wakes l k z j → w.source j = s.source j
  cru : w.cru = s.cru
  record : w.zc.record = none
  shown : w.zc.shown = z
  spares : Spares .handoffDone s w

theorem Woken.awake (h : Woken s w l k z) (hj : (s.source j).state ≠ .parked) : w.source j = s.source j :=
  h.stays j fun hw => hj hw.1

theorem Spares.wakePoints {kind : NoticeKind} (h : Spares kind s t) (hk : kind ≠ .sourceState) : Spares kind s t.wakePoints := by
  unfold State.wakePoints
  split_ifs
  · split
    · exact h
    · rw [wakeLower_eq, wakeUpper_eq]
      unfold State.wakeNamed
      split <;> split <;> simp only [h, h.wake hk, (h.wake hk _ _).wake hk]
  · exact h

theorem FreeTick.shown (h : FreeTick s d l k p) : (s.stepped d).zc.shown = s.steppedZoom p :=
  (stepped_shown (stepBounds_alone h.running (knownPrimary_eq h.primary) (by simp [h.record])) d).1

theorem FreeTick.free (h : FreeTick s d l k p) : (s.stepped d).handoffFree = true := by
  have hq := quiet_stepped d s
  exact decide_eq_true ⟨hq.sub.trans h.running, hq.record.trans h.record, hq.pinned.trans h.pinned⟩

theorem FreeTick.primaryRung (h : FreeTick s d l k p) : (s.stepped d).primaryRung = some (l, k, p) := by
  have hq := quiet_stepped d s
  exact primaryRung_eq (hq.ladder.trans h.ladder) (hq.primary.trans h.primary) h.rung

theorem wakes_congr (h : ∀ i, t.source i = s.source i) : t.Wakes l k z j ↔ s.Wakes l k z j := by
  rw [State.Wakes, State.Wakes, h]

theorem FreeTick.woken (h : FreeTick s d l k p) : Woken s (s.woken d) l k (s.steppedZoom p) := by
  have hq := quiet_stepped d s
  have hsource := source_wakePoints h.free h.primaryRung
  have hrec (j : Src) : (s.stepped d).wokenRec j = s.wokenRec j := by
    rw [State.wokenRec, hq.source, hq.cru]
    rfl
  rw [h.shown] at hsource
  refine ⟨fun j hj => ((hsource j).1 ((wakes_congr hq.source).mpr hj)).trans (hrec j),
    fun j hj => ((hsource j).2 (mt (wakes_congr hq.source).mp hj)).trans (hq.source j), ?_, ?_, ?_,
    (spares_stepped (by decide) d s).wakePoints (by decide)⟩
  · simpa [State.woken] using hq.cru
  · simpa [State.woken] using hq.record.trans h.record
  · simpa [State.woken] using h.shown

/-- A source is PRIMARY after the wake points if it was before them. -/
theorem Woken.primary (h : Woken s w l k z) (hp : s.primary = some p) : w.primary = some p := by
  have hstate (j : Src) : (w.source j).state = .primary ↔ (s.source j).state = .primary := by
    by_cases hj : s.Wakes l k z j
    · rw [h.wakes j hj, hj.1]
      exact ⟨fun hn => SrcState.noConfusion hn, fun hn => SrcState.noConfusion hn⟩
    · rw [h.stays j hj]
  rw [← hp]
  simp only [State.primary, hstate]

theorem Woken.fault (h : Woken s w l k z) (j : Src) : (w.source j).state = .fault ↔ (s.source j).state = .fault := by
  by_cases hj : s.Wakes l k z j
  · rw [h.wakes j hj, hj.1]
    exact ⟨fun hn => SrcState.noConfusion hn, fun hn => SrcState.noConfusion hn⟩
  · rw [h.stays j hj]

/-- The machine with this Z. -/
def State.zoomedTo (z : Nat) (s : State) : State := { s with zc := { s.zc with shown := z } }

/-- The triggers of a free tick read the Z that its step left (R76, R90). -/
theorem FreeTick.trigger (h : FreeTick s d l k p) :
    (s.woken d).trigger = (s.zoomedTo (s.steppedZoom p)).trigger := by
  have hw := h.woken
  have hq := quiet_stepped d s
  refine trigger_congr ?_ hw.shown ?_ hw.fault ?_
  · simpa [State.woken, State.zoomedTo] using hq.ladder
  · rw [steadyPrimary_of_primary (hw.primary h.primary)]
    exact (steadyPrimary_of_primary (s := s.zoomedTo _) h.primary).symm
  · simpa [State.woken, State.zoomedTo] using hq.settings

theorem FreeTick.tick (h : FreeTick s d l k p) : s.tick = (s.woken d).handoffWork.composeBegin :=
  tick_stepped h.due (unpromoted_of_sub (by simp [h.running]))

theorem FreeTick.handoffFree (h : FreeTick s d l k p) : (s.woken d).handoffFree = true := by
  have hq := quiet_stepped d s
  refine decide_eq_true ⟨?_, h.woken.record, ?_⟩
  · simpa [State.woken] using hq.sub.trans h.running
  · simpa [State.woken] using hq.pinned.trans h.pinned

theorem FreeTick.tick_quiet (h : FreeTick s d l k p) (ht : (s.zoomedTo (s.steppedZoom p)).trigger = none) :
    s.tick = (s.woken d).composeBegin := by
  have hwork : (s.woken d).handoffWork = s.woken d := by
    rw [State.handoffWork, h.woken.record]
    simp only [if_pos h.handoffFree, h.trigger, ht]
  rw [h.tick, hwork]

theorem FreeTick.tick_fires (h : FreeTick s d l k p) (ht : (s.zoomedTo (s.steppedZoom p)).trigger = some r) :
    s.tick = (((s.woken d).createRecord r).armedWork r).composeBegin := by
  have hwork : (s.woken d).handoffWork = ((s.woken d).createRecord r).armedWork r := by
    rw [State.handoffWork, h.woken.record]
    simp only [if_pos h.handoffFree, h.trigger, ht]
  rw [h.tick, hwork]

/-! The record of a trigger takes its ARMED work at once (R91, R92, R97) -/

theorem source_createRecord (h : s.zc.record = none) (r : Transition) (j : Src) : (s.createRecord r).source j =
    if j = r.taker then { s.source r.taker with idle := none } else s.source j := by
  have hremove : s.removeRecord = s := by rw [State.removeRecord, h]
  rw [State.createRecord, hremove, source_stopIdle]
  rfl

theorem nq_createRecord (r : Transition) (s : State) : (s.createRecord r).nq = s.nq := by simp

theorem armed_others (hw : Woken s w l k z) (hj : j ≠ r.taker) (hg : j ≠ r.giver) :
    ((w.createRecord r).armedWork r).source j = w.source j := by
  rw [(armedWork_frame (record_createRecord r w)).2 j hj hg, source_createRecord hw.record, if_neg hj]

theorem armed_shown (hw : Woken s w l k z) : ((w.createRecord r).armedWork r).zc.shown = z := by
  rw [(armedWork_frame (record_createRecord r w)).1]
  simpa using hw.shown

theorem createRecord_taker (hw : Woken s w l k z) : (w.createRecord r).source r.taker = { w.source r.taker with idle := none } := by
  rw [source_createRecord hw.record, if_pos rfl]

theorem createRecord_giver (hw : Woken s w l k z) (hne : r.taker ≠ r.giver) (hp : (s.source r.giver).state = .primary) :
    (w.createRecord r).source r.giver = s.source r.giver := by
  rw [source_createRecord hw.record, if_neg hne.symm, hw.awake (by simp [hp])]

/-- The ARMED work with a target that is not WARM: the record waits in ARMED, its target powered (R6, R92). -/
theorem armed_cold (hw : Woken s w l k z) (hne : r.taker ≠ r.giver) (hp : (s.source r.giver).state = .primary)
    (hc : (s.source r.taker).state ≠ .warm) :
    ((w.createRecord r).armedWork r).zc.record = some r ∧
      ((w.createRecord r).armedWork r).source r.giver = s.source r.giver ∧
      ((s.source r.taker).state = .parked → (s.source r.taker).defined = true →
        ((w.createRecord r).armedWork r).source r.taker = { s.wokenRec r.taker with idle := none }) ∧
      ((s.source r.taker).state ≠ .parked →
        (((w.createRecord r).armedWork r).source r.taker).state = (s.source r.taker).state) := by
  have htaker := createRecord_taker (r := r) hw
  have hgiver := createRecord_giver hw hne hp
  by_cases hwake : s.Wakes l k z r.taker
  · rw [hw.wakes _ hwake] at htaker
    have hstate : ((w.createRecord r).source r.taker).state = .waking := by rw [htaker]; rfl
    rw [armedWork_waits (by simp [hstate]) (by simp [hstate])]
    exact ⟨rfl, hgiver, fun _ _ => htaker, fun hn => absurd hwake.1 hn⟩
  · rw [hw.stays _ hwake] at htaker
    have hstate : ((w.createRecord r).source r.taker).state = (s.source r.taker).state := by rw [htaker]
    by_cases hparked : (s.source r.taker).state = .parked
    · rw [armedWork_parked (hstate.trans hparked), source_wake, source_wake, if_neg fun hn => hne.symm hn.1]
      refine ⟨by simp [record_createRecord], hgiver, fun _ hd => ?_, fun hn => absurd hparked hn⟩
      have hcru : (w.createRecord r).cru = s.cru := by simpa using hw.cru
      rw [htaker, if_pos ⟨rfl, hparked, hd⟩, State.timer, hcru]
      rfl
    · rw [armedWork_waits (hstate ▸ hparked) (hstate ▸ hc)]
      exact ⟨rfl, hgiver, fun hn => absurd hn hparked, fun _ => hstate⟩

theorem armed_matching (hw : Woken s w l k z) (hne : r.taker ≠ r.giver) (hp : (s.source r.giver).state = .primary)
    (hc : (s.source r.taker).state = .warm) (hn : r.n ≠ 0) (hticks : r.ticks = 0) (hrun : r.run = 0) :
    ((w.createRecord r).armedWork r).zc.record = some { r with phase := .matching } ∧
      ((w.createRecord r).armedWork r).source r.giver = s.source r.giver ∧
      ((w.createRecord r).armedWork r).source r.taker = { s.source r.taker with idle := none } := by
  have htaker := createRecord_taker (r := r) hw
  rw [hw.awake (by simp [hc])] at htaker
  have hsame : ({ r with phase := .matching, ticks := 0, run := 0 } : Transition) = { r with phase := .matching } := by
    rcases r
    cases hticks
    cases hrun
    rfl
  rw [armedWork_warm (by rw [htaker]; exact hc), if_neg hn, hsame]
  exact ⟨rfl, createRecord_giver hw hne hp, htaker⟩

theorem armed_cut (hw : Woken s w l k z) (hne : r.taker ≠ r.giver) (hp : (s.source r.giver).state = .primary)
    (hc : (s.source r.taker).state = .warm) (hn : r.n = 0) (ht : Spares .handoffDone ((w.createRecord r).armedWork r) t) :
    ((w.createRecord r).armedWork r).zc.record = none ∧
      (((w.createRecord r).armedWork r).source r.giver).state = .warm ∧
      (((w.createRecord r).armedWork r).source r.taker).state = .primary ∧
      Posted s t (.handoffDone r.kind r.giver r.taker .cut r.limited 0 r.gains s.cru.time) := by
  have htaker : ((w.createRecord r).source r.taker).state = .warm := by
    rw [createRecord_taker hw, hw.awake (by simp [hc])]
    exact hc
  have hgiver : ((w.createRecord r).source r.giver).state.usable = true := by
    rw [createRecord_giver hw hne hp]
    exact usable_primary hp
  have hcru : (w.createRecord r).cru = s.cru := by simpa using hw.cru
  rw [armedWork_warm htaker, if_pos hn] at ht ⊢
  obtain ⟨hrec, hwarm, hprimary⟩ := passPicture_fields hgiver (usable_warm htaker) hne.symm .cut .cut
  have hposted := posted_passPicture (hw.spares.same (nq_createRecord r w)) hgiver (usable_warm htaker) ht
  rw [hn, hcru] at hposted
  exact ⟨hrec, hwarm, hprimary, hposted⟩

theorem rungAbove_filter (point : Rung → Nat) (l : Ladder) (k z : Nat) (test : Rung → Prop) [DecidablePred test] :
    (rungAbove point l k z).filter (fun g => decide (test g)) =
      l[k + 1]?.filter fun g => decide (point g ≤ z ∧ test g) := by
  unfold rungAbove
  cases l[k + 1]? with
  | none => rfl
  | some g => by_cases hz : point g ≤ z <;> simp [Option.filter, hz]

theorem rungBelow_filter (point : Rung → Nat) (l : Ladder) (k z : Nat) (test : Rung → Bool) :
    (rungBelow point l k z).filter test =
      if 0 < k ∧ (l[k]?.map point).any (fun y => decide (z < y)) = true then l[k - 1]?.filter test else none := by
  unfold rungBelow
  split_ifs <;> rfl

/-- Settles O36: the triggers by the two rungs beside the primary's; a tick by whether one fires, and by its target. -/
theorem triggerCreatesRecord : Obligations.TriggerCreatesRecord := by
  refine ⟨fun s l k p hl hp hk => ?_, fun s d l k z p hdue hs hr hpin hl hnodup hp hk hz => ?_⟩
  · rw [trigger_of_rungs (primaryRung_eq hl hp hk), rungAbove_filter, rungBelow_filter]
    rfl
  · subst hz
    have h : FreeTick s d l k p := ⟨hdue, hs, hr, hpin, hl, hnodup, hp, hk⟩
    have hw := h.woken
    refine ⟨fun ht => ⟨_, rfl, ?_⟩, fun r ht => ⟨_, rfl, ?_⟩⟩
    · rw [h.tick_quiet ht]
      simp only [zc_composeBegin, source_composeBegin]
      exact ⟨hw.shown, hw.record, fun j _ => ⟨hw.wakes j, hw.stays j⟩⟩
    · obtain ⟨kind, t, hne, rfl⟩ := trigger_shape (s := s.zoomedTo (s.steppedZoom p)) (primaryRung_eq hl hp hk) hnodup hk ht
      have hprimary := state_primary hp
      rw [h.tick_fires ht]
      simp only [zc_composeBegin, source_composeBegin]
      refine ⟨armed_shown hw, fun j hj => ?_, armed_cold hw hne hprimary,
        fun hc hn => armed_matching hw hne hprimary hc hn rfl rfl,
        fun hc hn => armed_cut hw hne hprimary hc hn ((Spares.refl .handoffDone _).composeBegin (by decide))⟩
      obtain ⟨htaker, hgiver⟩ := hj _ rfl
      rw [armed_others hw htaker hgiver]
      exact ⟨hw.wakes j, hw.stays j⟩

end Sys2Proof.Machine
end

section
/-! SUPPORT. A rescue, from the choice of its target to what it leaves (R104 to R109, R115). -/

namespace Sys2Proof.Machine

variable {s t u : State} {p i j : Src} {r : Transition} {k : NoticeKind}

/-! The choice (R105, R106) -/

theorem candidate_some (test : SrcState → Bool) (h : test (s.source i).state = true) : s.candidate test (some i) = some i := if_pos h

theorem candidate_none {test : SrcState → Bool} {o : Option Src} (h : ∀ q, o = some q → test (s.source q).state = false) :
    s.candidate test o = none := by
  cases o with
  | none => rfl
  | some q => exact if_neg (by rw [h q rfl]; decide)

theorem neighbour_lower {test : SrcState → Bool} (h : s.lowerOf i = some p) (hp : test (s.source p).state = true) :
    s.neighbour i test = some p := by
  rw [State.neighbour, h, candidate_some test hp]

theorem neighbour_upper {test : SrcState → Bool} (h : ∀ q, s.lowerOf i = some q → test (s.source q).state = false) :
    s.neighbour i test = s.candidate test (s.upperOf i) := by
  rw [State.neighbour, candidate_none h]

theorem notWarm {x : SrcState} (h : x ≠ .warm) : x.isWarm = false := decide_eq_false h

theorem neighbour_warm (h : WarmChoice s i p) : s.neighbour i SrcState.isWarm = some p := by
  obtain ⟨hp, hlow | ⟨hup, hlow⟩⟩ := h
  · exact neighbour_lower hlow (by rw [hp]; rfl)
  · rw [neighbour_upper fun q hq => notWarm (hlow q hq), hup]
    exact candidate_some _ (by rw [hp]; rfl)

theorem neighbour_noneWarm (h : ∀ q, s.lowerOf i = some q ∨ s.upperOf i = some q → (s.source q).state ≠ .warm) :
    s.neighbour i SrcState.isWarm = none := by
  rw [neighbour_upper fun q hq => notWarm (h q (.inl hq))]
  exact candidate_none fun q hq => notWarm (h q (.inr hq))

theorem neighbour_cold (h : ColdChoice s i p) : s.neighbour i SrcState.notFault = some p := by
  obtain ⟨-, -, hp, hplace⟩ := h
  have hok : (s.source p).state.notFault = true := by rcases hp with hp | hp | hp <;> rw [hp] <;> rfl
  rcases hplace with hlow | ⟨hup, hlow⟩
  · exact neighbour_lower hlow hok
  · rw [neighbour_upper fun q hq => by rw [hlow q hq]; rfl, hup]
    exact candidate_some _ hok

theorem neighbour_allFault (h : NoChoice s i) : s.neighbour i SrcState.notFault = none := by
  rw [neighbour_upper fun q hq => by rw [h q (.inl hq)]; rfl]
  exact candidate_none fun q hq => by rw [h q (.inr hq)]; rfl

theorem noChoice_noneWarm (h : NoChoice s i) :
    ∀ q, s.lowerOf i = some q ∨ s.upperOf i = some q → (s.source q).state ≠ .warm := fun q hq hw =>
  SrcState.noConfusion (hw.symm.trans (h q hq))

/-! The machine as a rescue begins -/

/-- A machine that differs from `s` in idle timers, pending reports and a removal of the record at most. -/
structure Alike (s u : State) : Prop where
  ladder : u.zc.ladder = s.zc.ladder
  target : u.zc.target = s.zc.target
  shown : u.zc.shown = s.zc.shown
  cp : u.cp = s.cp
  cru : u.cru = s.cru
  source : ∀ j, ∃ idle, u.source j = { s.source j with idle := idle }
  spares : ∀ k, k ≠ .handoffAborted → Spares k s u

theorem Alike.state (h : Alike s u) (j : Src) : (u.source j).state = (s.source j).state := by
  obtain ⟨idle, hj⟩ := h.source j
  rw [hj]

theorem Alike.lowerOf (h : Alike s u) (i : Src) : u.lowerOf i = s.lowerOf i := by rw [State.lowerOf, h.ladder]; rfl

theorem Alike.upperOf (h : Alike s u) (i : Src) : u.upperOf i = s.upperOf i := by rw [State.upperOf, h.ladder]; rfl

theorem alike_setReports (i : Src) (rest : List Report) (s : State) : Alike s (s.setReports i rest) :=
  ⟨rfl, rfl, rfl, rfl, rfl, fun j => ⟨(s.source j).idle, rfl⟩, fun k _ => (Spares.refl k s).same rfl⟩

theorem Alike.removeRecord (h : Alike s u) : Alike s u.removeRecord where
  ladder := by simpa using h.ladder
  target := by simpa using h.target
  shown := by simpa using h.shown
  cp := by simpa using h.cp
  cru := by simpa using h.cru
  source j := by
    obtain ⟨idle, hj⟩ := h.source j
    obtain ⟨idle', hj'⟩ := source_removeRecord j u
    exact ⟨idle', by rw [hj', hj]⟩
  spares k hk := (h.spares k hk).removeRecord

theorem Alike.postAborted (h : Alike s u) (r : Transition) (cause : AbortCause) (time : Time) :
    Alike s (u.postAborted r cause time) :=
  ⟨h.ladder, h.target, h.shown, h.cp, h.cru, h.source, fun k hk => (h.spares k hk).post hk.symm⟩

theorem Alike.choices (h : Alike s u) (i p : Src) : (WarmChoice u i p ↔ WarmChoice s i p) ∧
    (ColdChoice u i p ↔ ColdChoice s i p) ∧ (NoChoice u i ↔ NoChoice s i) := by
  obtain ⟨idle, hp⟩ := h.source p
  have hdefined : (u.source p).defined = (s.source p).defined := by rw [hp]
  simp only [WarmChoice, ColdChoice, NoChoice, h.state, h.lowerOf, h.upperOf, hdefined, and_self]

/-! What a rescue leaves (R105 to R109) -/

/-- The picture has passed to `p` (R105, R107, R109). -/
def Passes (s t : State) (p : Src) : Prop :=
  (t.source p).state = .primary ∧ t.cp.sub = .running ∧ t.cp.pendingPrimary = none ∧ t.zc.record = none ∧
    t.zc.target = s.zc.target ∧ t.zc.shown = clamp s.zc.shown (s.source p).base (s.source p).zcap

/-- The rescue `r` waits for its target, which has been woken if it was PARKED (R106, R107, R109). -/
def Waits (s t : State) (r : Transition) (p : Src) : Prop :=
  t.zc.record = some r ∧ t.zc.shown = s.zc.shown ∧
    (t.source p).state = if (s.source p).state = .parked then .waking else (s.source p).state

theorem Spares.rescueTo (h : Spares k s t) (hs : k ≠ .sourceState) (hd : k ≠ .handoffDone) (r : Transition) :
    Spares k s (t.rescueTo r) := by
  unfold State.rescueTo
  split_ifs
  · exact h.same rfl
  · refine Spares.post ?_ hd.symm
    exact (Spares.setRole (h.same (u := t.dropPending.setSub .running) (by simp [State.setSub])) hs _ _).same rfl

theorem rescueTo_passes (h : Alike s u) (hrec : u.zc.record = none) (hw : (s.source r.taker).state = .warm) :
    Passes s (u.rescueTo r) r.taker ∧ Posted s (u.rescueTo r)
      (.handoffDone r.kind r.giver r.taker .rescue r.limited r.n r.gains s.cru.time) := by
  have hwarm := (h.state r.taker).trans hw
  obtain ⟨hprimary, -, hsub, hpend, hclamp⟩ := rescueTo_fields hwarm
  obtain ⟨idle, hsource⟩ := h.source r.taker
  have hposted := posted_rescueTo (h.spares .handoffDone (by decide)) hwarm (Spares.refl ..)
  rw [h.cru] at hposted
  rw [hsource, h.shown] at hclamp
  exact ⟨⟨hprimary, hsub, hpend, by simpa using hrec, by simpa using h.target, hclamp⟩, hposted⟩

theorem source_createRecord_idle (r : Transition) (j : Src) (s : State) :
    ∃ idle, (s.createRecord r).source j = { s.source j with idle := idle } := by
  obtain ⟨idle, hremove⟩ := source_removeRecord j s
  rw [State.createRecord, source_stopIdle, source_setRecord]
  split_ifs with hj
  · subst hj
    exact ⟨none, by rw [hremove]⟩
  · exact ⟨idle, hremove⟩

theorem state_wake_parked (hp : (s.source i).state = .parked) (hd : (s.source i).defined = true) (purpose : Purpose) :
    ((s.wake purpose i).source i).state = .waking := by rw [source_wake, if_pos ⟨rfl, hp, hd⟩]

theorem waits_created (h : Alike s u) (hd : (s.source r.taker).defined = true) :
    Waits s ((u.createRecord r).wake .normal r.taker) r r.taker := by
  obtain ⟨idle, hsource⟩ := source_createRecord_idle r r.taker u
  obtain ⟨idle', hu⟩ := h.source r.taker
  rw [hu] at hsource
  have hstate : ((u.createRecord r).source r.taker).state = (s.source r.taker).state := by rw [hsource]
  refine ⟨by simp, by simpa using h.shown, ?_⟩
  by_cases hp : (s.source r.taker).state = .parked
  · rw [if_pos hp, state_wake_parked (hstate.trans hp) (by rw [hsource]; exact hd)]
  · rw [if_neg hp, wake_awake (hstate ▸ hp), hstate]

theorem Waits.same (h : Waits s t r p) (hz : u.zc = t.zc) (hp : (u.source p).state = (t.source p).state) : Waits s u r p := by
  rw [Waits, hz, hp]
  exact h

theorem Spares.createRecord (h : Spares k s t) (r : Transition) : Spares k s (t.createRecord r) := h.same (nq_createRecord r t)

theorem Spares.dropPending (h : Spares k s t) : Spares k s t.dropPending := h.same (by simp)

theorem zc_dropPending (s : State) : s.dropPending.zc = s.zc := by simp

/-! The end of a rescue with no target (R106, R107, R109) -/

theorem giveUp_fields (i : Src) (s : State) : (s.giveUp i).zc = s.zc ∧ (s.giveUp i).cp.sub = .frozen ∧
    (s.giveUp i).cp.pendingPrimary = none :=
  ⟨zc_dropPending s, rfl, pendingPrimary_dropPending s⟩

theorem posted_frozen (h : Spares .outputFrozen s t) (i : Src) (o : Option Src) :
    Posted s (t.postFrozen i o) (.outputFrozen i o t.zc.target t.zc.shown t.cru.time) :=
  Spares.posted (p := .outputFrozen i o t.zc.target t.zc.shown t.cru.time) h (Spares.refl ..)

theorem posted_giveUp (h : Spares .outputFrozen s t) (i : Src) :
    Posted s (t.giveUp i) (.outputFrozen i none t.zc.target t.zc.shown t.cru.time) := by
  have hposted := posted_frozen (t := t.dropPending.setSub .frozen) (h.dropPending.same rfl) i none
  have hz : (t.dropPending.setSub .frozen).zc = t.zc := zc_dropPending t
  have hc : (t.dropPending.setSub .frozen).cru = t.cru := by simp [State.setSub]
  rw [hz, hc] at hposted
  exact hposted

theorem Spares.giveUp (h : Spares k s t) (hf : k ≠ .outputFrozen) (i : Src) : Spares k s (t.giveUp i) :=
  Spares.post (h.dropPending.same (u := t.dropPending.setSub .frozen) rfl) hf.symm

/-! The wait for a target (R106, R107) -/

theorem freezeFor_starting (h : s.cp.sub = .starting) (i p : Src) : s.freezeFor i p = s.dropPending := if_pos h

theorem freezeFor_running (h : s.cp.sub = .running) (i p : Src) :
    s.freezeFor i p = (s.setSub .frozen).postFrozen i (some p) := if_neg (by rw [h]; decide)

theorem Spares.freezeFor (h : Spares k s t) (hf : k ≠ .outputFrozen) (i p : Src) : Spares k s (t.freezeFor i p) := by
  unfold State.freezeFor
  split_ifs
  · exact h.dropPending
  · exact Spares.post (h.same rfl) hf.symm

theorem Waits.freezeFor (h : Waits s t r p) (i q : Src) : Waits s (t.freezeFor i q) r p := by
  unfold State.freezeFor
  split_ifs
  · exact h.same (zc_dropPending t) (state_dropPending p t)
  · exact h.same rfl rfl

/-! The rescue (R105 to R107) -/

theorem rescue_warm (h : Alike s u) (hrec : u.zc.record = none) (hp : WarmChoice s i p) :
    Passes s (u.rescue i) p ∧ Posted s (u.rescue i)
      (.handoffDone .rescue i p .rescue false 0 ⟨1024, 1024, 1024⟩ s.cru.time) := by
  have heq : u.rescue i = u.rescueTo (.fresh .rescue i p 0) := by
    rw [State.rescue, neighbour_warm ((h.choices i p).1.mpr hp)]
  rw [heq]
  exact rescueTo_passes (r := .fresh .rescue i p 0) h hrec hp.1

/-- The machine as a rescue toward a cold target leaves it, before the output freezes. -/
def State.rescuing (i p : Src) (s : State) : State :=
  (s.createRecord (.fresh .rescue i p s.cp.settings.n)).wake .normal p

theorem rescue_cold (h : Alike s u) (hp : ColdChoice s i p) : u.rescue i = (u.rescuing i p).freezeFor i p := by
  have hcold := (h.choices i p).2.1.mpr hp
  rw [State.rescue, neighbour_noneWarm hcold.1, neighbour_cold hcold]
  rfl

theorem rescuing_waits (h : Alike s u) (hp : ColdChoice s i p) :
    Waits s (u.rescuing i p) (.fresh .rescue i p s.cp.settings.n) p := by
  rw [State.rescuing, h.cp]
  exact waits_created (r := .fresh .rescue i p s.cp.settings.n) h hp.2.1

theorem rescuing_keeps (h : Alike s u) (i p : Src) : (u.rescuing i p).cp = s.cp ∧ (u.rescuing i p).zc.target = s.zc.target ∧
    (u.rescuing i p).cru = s.cru := by
  refine ⟨?_, ?_, ?_⟩
  · simpa [State.rescuing] using h.cp
  · simpa [State.rescuing] using h.target
  · simpa [State.rescuing] using h.cru

theorem Spares.rescuing (h : Spares k s u) (hs : k ≠ .sourceState) (i p : Src) : Spares k s (u.rescuing i p) :=
  (h.createRecord _).wake hs _ _

theorem rescue_none (h : Alike s u) (hn : NoChoice s i) : u.rescue i = u.giveUp i := by
  have hnone := (h.choices i i).2.2.mpr hn
  rw [State.rescue, neighbour_noneWarm (noChoice_noneWarm hnone), neighbour_allFault hnone]

theorem Spares.rescue (h : Spares k s t) (hs : k ≠ .sourceState) (hd : k ≠ .handoffDone) (hf : k ≠ .outputFrozen)
    (i : Src) : Spares k s (t.rescue i) := by
  unfold State.rescue
  split
  · exact h.rescueTo hs hd _
  · split
    · exact (h.rescuing hs _ _).freezeFor hf _ _
    · exact h.giveUp hf i

end Sys2Proof.Machine
end

section
/-! THEOREM. A fault report as the zoom controller takes it (R15, R93, R102 to R110, R113 to R115). -/

namespace Sys2Proof.Machine

variable {s t u : State} {p i j : Src} {r : Transition} {k : NoticeKind} {x : Report} {rest : List Report}

/-! The report taken (R15) -/

theorem exec_faultReport_none (h : s.zc.reports.get i = []) : exec (.faultReport i) s = .next s := by
  show Host.Outcome.next (s.takeReport i) = _
  rw [State.takeReport, h]

theorem exec_faultReport (h : s.zc.reports.get i = x :: rest) : exec (.faultReport i) s = .next
    (if s.link.part = .streaming then (s.setReports i rest).handleReport i x else s.setReports i rest) := by
  show Host.Outcome.next (s.takeReport i) = _
  rw [State.takeReport, h]

/-- The machine as the handling of a report with nothing spoiled leaves it. -/
def State.faultHandled (i : Src) (x : Report) (rest : List Report) (s : State) : State :=
  (s.setReports i rest).handleFault i x.role

theorem exec_faultReport_plain (h : s.zc.reports.get i = x :: rest) (hp : s.link.part = .streaming) (hx : x.spoiled = none) :
    exec (.faultReport i) s = .next (s.faultHandled i x rest) := by
  rw [exec_faultReport h, if_pos hp, State.handleReport, hx]
  rfl

/-! A fault by the record it meets (R93, R102 to R104, R107, R109) -/

theorem handleFault_none (h : s.zc.record = none) (i : Src) (role : SrcState) : s.handleFault i role = s.reportAlone i role := by
  rw [State.handleFault, h]

theorem handleFault_some (h : s.zc.record = some r) (i : Src) (role : SrcState) :
    s.handleFault i role = s.reportOnRecord i role r := by
  rw [State.handleFault, h]

theorem faultHandled_pending (hs : s.cp.sub = .starting) (hf : (s.source i).state = .fault) (hr : s.zc.record = none)
    (hp : s.cp.pendingPrimary = some i) : s.faultHandled i x rest = (s.setReports i rest).rescue i := by
  have hpending : (s.setReports i rest).isPending i = true := decide_eq_true ⟨hs, hp⟩
  rw [State.faultHandled, handleFault_none (s := s.setReports i rest) hr, State.reportAlone, if_neg fun hn => OutSub.noConfusion (hs.symm.trans hn.1),
    if_pos ⟨hpending, hf⟩]

theorem faultHandled_target (hr : s.zc.record = some r) (hk : r.kind ≠ .rescue) (hi : r.taker = i) (hb : r.phase ≠ .blending)
    (hf : (s.source i).state = .fault) : s.faultHandled i x rest = (s.setReports i rest).targetFault r := by
  rw [State.faultHandled, handleFault_some (s := s.setReports i rest) hr, reportOnRecord_eq, if_neg hk, if_neg hb]
  exact if_pos ⟨hi, hf⟩

theorem faultHandled_incoming (hr : s.zc.record = some r) (hk : r.kind ≠ .rescue) (hi : r.taker = i) (hb : r.phase = .blending)
    (hx : x.role = .incoming) : s.faultHandled i x rest = (s.setReports i rest).incomingFault r := by
  rw [State.faultHandled, handleFault_some (s := s.setReports i rest) hr, reportOnRecord_eq, if_neg hk, if_pos hb]
  exact if_pos ⟨hi, hx⟩

theorem faultHandled_outgoing (hr : s.zc.record = some r) (hk : r.kind ≠ .rescue) (hi : r.giver = i) (hb : r.phase = .blending)
    (hx : x.role = .outgoing) : s.faultHandled i x rest = (s.setReports i rest).outgoingFault r := by
  rw [State.faultHandled, handleFault_some (s := s.setReports i rest) hr, reportOnRecord_eq, if_neg hk, if_pos hb, if_neg (by simp [hx])]
  exact if_pos ⟨hi, hx⟩

theorem faultHandled_primary (hs : s.cp.sub = .running) (hx : x.role = .primary)
    (hr : ∀ r, s.zc.record = some r → r.kind ≠ .rescue ∧ r.phase ≠ .blending ∧ r.taker ≠ i) :
    s.faultHandled i x rest = (s.setReports i rest).primaryFault i := by
  cases hrec : s.zc.record with
  | none =>
    rw [State.faultHandled, handleFault_none (s := s.setReports i rest) hrec]
    exact if_pos ⟨hs, hx⟩
  | some r =>
    obtain ⟨hk, hb, ht⟩ := hr r hrec
    rw [State.faultHandled, handleFault_some (s := s.setReports i rest) hrec, reportOnRecord_eq, if_neg hk, if_neg hb, if_neg fun hn => ht hn.1]
    exact if_pos hx

theorem faultHandled_rescue (hr : s.zc.record = some r) (hk : r.kind = .rescue) (hi : r.taker = i)
    (hf : (s.source i).state = .fault) : s.faultHandled i x rest = (s.setReports i rest).tryOther r := by
  rw [State.faultHandled, handleFault_some (s := s.setReports i rest) hr, reportOnRecord_eq, if_pos hk]
  exact if_pos ⟨hi, hf⟩

/-! A fault of the pending primary of a STARTING output (R107) -/

theorem rescue_pending (h : Alike s u) (hr : u.zc.record = none) (hs : s.cp.sub = .starting) :
    (∀ p, WarmChoice s i p → Passes s (u.rescue i) p ∧
        Posted s (u.rescue i) (.handoffDone .rescue i p .rescue false 0 ⟨1024, 1024, 1024⟩ s.cru.time)) ∧
      (∀ p, ColdChoice s i p → Waits s (u.rescue i) (.fresh .rescue i p s.cp.settings.n) p ∧
        (u.rescue i).cp.sub = .starting ∧ (u.rescue i).cp.pendingPrimary = none ∧ NotPosted s (u.rescue i) .outputFrozen) ∧
      (NoChoice s i → (u.rescue i).zc.record = none ∧ (u.rescue i).cp.sub = .frozen ∧
        (u.rescue i).cp.pendingPrimary = none ∧
        Posted s (u.rescue i) (.outputFrozen i none s.zc.target s.zc.shown s.cru.time)) := by
  refine ⟨fun p hp => rescue_warm h hr hp, fun p hp => ?_, fun hn => ?_⟩
  · have hsub : (u.rescuing i p).cp.sub = .starting := by rw [(rescuing_keeps h i p).1, hs]
    have hspares : Spares .outputFrozen s (u.rescuing i p) := (h.spares _ (by decide)).rescuing (by decide) i p
    have hwaits := (rescuing_waits h hp).freezeFor i p
    rw [rescue_cold h hp]
    rw [freezeFor_starting hsub] at hwaits ⊢
    exact ⟨hwaits, by simpa using hsub, pendingPrimary_dropPending _, hspares.dropPending.notPosted⟩
  · obtain ⟨hzc, hsub, hpend⟩ := giveUp_fields i u
    have hposted := posted_giveUp (h.spares .outputFrozen (by decide)) i
    rw [h.target, h.shown, h.cru] at hposted
    rw [rescue_none h hn]
    exact ⟨by rw [hzc, hr], hsub, hpend, hposted⟩

/-! A fault of the PRIMARY of a RUNNING output (R104 to R106) -/

theorem rescue_running (h : Alike s u) (hr : u.zc.record = none) (hs : s.cp.sub = .running) :
    (∀ p, WarmChoice s i p → Passes s (u.rescue i) p ∧
        Posted s (u.rescue i) (.handoffDone .rescue i p .rescue false 0 ⟨1024, 1024, 1024⟩ s.cru.time)) ∧
      (∀ p, ColdChoice s i p → Waits s (u.rescue i) (.fresh .rescue i p s.cp.settings.n) p ∧
        (u.rescue i).cp.sub = .frozen ∧
        Posted s (u.rescue i) (.outputFrozen i (some p) s.zc.target s.zc.shown s.cru.time)) ∧
      (NoChoice s i → (u.rescue i).zc.record = none ∧ (u.rescue i).cp.sub = .frozen ∧
        Posted s (u.rescue i) (.outputFrozen i none s.zc.target s.zc.shown s.cru.time)) := by
  refine ⟨fun p hp => rescue_warm h hr hp, fun p hp => ?_, fun hn => ?_⟩
  · obtain ⟨hcp, htarget, hcru⟩ := rescuing_keeps h i p
    have hspares : Spares .outputFrozen s (u.rescuing i p) := (h.spares _ (by decide)).rescuing (by decide) i p
    have hwaits := rescuing_waits h hp
    have hposted := posted_frozen (t := (u.rescuing i p).setSub .frozen) (hspares.same rfl) i (some p)
    have hshown : ((u.rescuing i p).setSub .frozen).zc.shown = s.zc.shown := hwaits.2.1
    have htarget' : ((u.rescuing i p).setSub .frozen).zc.target = s.zc.target := htarget
    have hcru' : ((u.rescuing i p).setSub .frozen).cru = s.cru := hcru
    rw [hshown, htarget', hcru'] at hposted
    rw [rescue_cold h hp, freezeFor_running (by rw [hcp, hs])]
    exact ⟨hwaits.same rfl rfl, rfl, hposted⟩
  · obtain ⟨hzc, hsub, -⟩ := giveUp_fields i u
    have hposted := posted_giveUp (h.spares .outputFrozen (by decide)) i
    rw [h.target, h.shown, h.cru] at hposted
    rw [rescue_none h hn]
    exact ⟨by rw [hzc, hr], hsub, hposted⟩

theorem posted_aborted (h : Spares .handoffAborted s t) (r : Transition) (cause : AbortCause) (time : Time)
    (hu : Spares .handoffAborted (t.postAborted r cause time) u) :
    Posted s u (.handoffAborted r.kind r.giver r.taker r.phase r.index cause time) :=
  Spares.posted (p := .handoffAborted r.kind r.giver r.taker r.phase r.index cause time) h hu

/-- The rescue of a faulted primary begins once its record, if any, is removed with HANDOFF_ABORTED (R104). -/
theorem primaryFault_from (i : Src) (rest : List Report) (s : State) :
    ∃ u, (s.setReports i rest).primaryFault i = u.rescue i ∧ Alike s u ∧ u.zc.record = none ∧
      ∀ r, s.zc.record = some r → ∀ t, Spares .handoffAborted u t →
        Posted s t (.handoffAborted r.kind r.giver r.taker r.phase r.index .primaryFault s.cru.time) := by
  have halike := alike_setReports i rest s
  cases hrec : s.zc.record with
  | none =>
    refine ⟨s.setReports i rest, ?_, halike, hrec, by simp⟩
    rw [State.primaryFault, show (s.setReports i rest).zc.record = none from hrec]
  | some r =>
    refine ⟨(s.setReports i rest).removeRecord.postAborted r .primaryFault s.cru.time, ?_,
      halike.removeRecord.postAborted _ _ _, record_removeRecord _, fun q hq t ht => ?_⟩
    · rw [State.primaryFault, show (s.setReports i rest).zc.record = some r from hrec]
      rfl
    · obtain rfl := Option.some.inj hq
      exact posted_aborted ((Spares.refl .handoffAborted s).same (u := s.setReports i rest) rfl).removeRecord _ _ _ ht

/-! A fault of a target or of a source of a blend (R93, R102, R103) -/

theorem targetFault_fields (hr : s.zc.record = some r) : (s.targetFault r).zc = { s.zc with record := none } ∧
    (∀ j, ((s.targetFault r).source j).state = (s.source j).state) ∧
    (s.targetFault r).nq = s.nq.post s.cru.straps.attnMode s.cru.time none
      (.handoffAborted r.kind r.giver r.taker r.phase r.index .targetFault s.cru.time) := by
  refine ⟨?_, fun j => state_removeRecord j s, ?_⟩
  · show s.removeRecord.zc = _
    rw [removeRecord_eq hr]
    rfl
  · show s.removeRecord.nq.post s.removeRecord.cru.straps.attnMode s.removeRecord.cru.time none _ = _
    rw [removeRecord_eq hr]
    rfl

/-- A source that gets the picture back, or gets it at once, as its record is removed (R102, R103). -/
theorem setRole_restored (hu : (s.source p).state.usable = true) (hne : p ≠ i) :
    (s.removeRecord.setRole p .primary).zc.record = none ∧
      (s.removeRecord.setRole p .primary).zc.shown = s.zc.shown ∧
      ((s.removeRecord.setRole p .primary).source p).state = .primary ∧
      ((s.removeRecord.setRole p .primary).source i).state = (s.source i).state := by
  refine ⟨by simp, by simp, state_setRole _ _ _ (by rwa [state_removeRecord]), ?_⟩
  rw [source_setRole_ne _ _ _ _ hne.symm, state_removeRecord]

theorem spares_restored (k : NoticeKind) (hk : k ≠ .sourceState) (p : Src) (s : State) :
    Spares k s (s.removeRecord.setRole p .primary) := (Spares.refl k s).removeRecord.setRole hk p .primary

theorem incomingFault_fields (hg : (s.source r.giver).state = .outgoing) (hne : r.giver ≠ r.taker) :
    (s.incomingFault r).zc.record = none ∧ (s.incomingFault r).zc.shown = s.zc.shown ∧
      ((s.incomingFault r).source r.giver).state = .primary ∧
      ((s.incomingFault r).source r.taker).state = (s.source r.taker).state ∧
      Posted s (s.incomingFault r)
        (.handoffAborted r.kind r.giver r.taker r.phase r.index .incomingFault s.cru.time) := by
  obtain ⟨hrec, hshown, hprimary, htaker⟩ := setRole_restored (i := r.taker) (usable_outgoing hg) hne
  exact ⟨hrec, hshown, hprimary, htaker, posted_aborted (spares_restored _ (by decide) _ s) _ _ _ (Spares.refl ..)⟩

theorem outgoingFault_fields (ht : (s.source r.taker).state = .incoming) (hne : r.taker ≠ r.giver) :
    (s.outgoingFault r).zc.record = none ∧ (s.outgoingFault r).zc.shown = s.zc.shown ∧
      ((s.outgoingFault r).source r.taker).state = .primary ∧
      ((s.outgoingFault r).source r.giver).state = (s.source r.giver).state ∧
      Posted s (s.outgoingFault r) (.handoffDone r.kind r.giver r.taker .cut r.limited r.n r.gains s.cru.time) := by
  obtain ⟨hrec, hshown, hprimary, hgiver⟩ := setRole_restored (i := r.giver) (usable_incoming ht) hne
  exact ⟨hrec, hshown, hprimary, hgiver,
    Spares.posted (p := .handoffDone r.kind r.giver r.taker .cut r.limited r.n r.gains s.cru.time)
      (spares_restored .handoffDone (by decide) _ s) (Spares.refl ..)⟩

/-! A fault of a rescue target (R109) -/

/-- The neighbour of a faulted source that a failed target leaves (R109). -/
def State.otherOf (s : State) (r : Transition) (i : Src) : Option Src :=
  if s.lowerOf r.giver = some i then s.upperOf r.giver else s.lowerOf r.giver

theorem tryOther_warm (ho : s.otherOf r r.taker = some p) (hr : r.retargeted = false) (hp : (s.source p).state = .warm) :
    s.tryOther r = s.removeRecord.rescueTo { r with taker := p } := by
  have hother : s.otherAdjacent r.giver r.taker = some p := ho
  simp [State.tryOther, hr, hother, hp]

theorem tryOther_cold (ho : s.otherOf r r.taker = some p) (hr : r.retargeted = false)
    (hp : (s.source p).state = .parked ∨ (s.source p).state = .waking ∨ (s.source p).state = .syncing) :
    s.tryOther r = s.retarget r p := by
  have hother : s.otherAdjacent r.giver r.taker = some p := ho
  rcases hp with hp | hp | hp <;> simp [State.tryOther, hr, hother, hp]

theorem tryOther_fails (h : r.retargeted = true ∨ ∀ p, s.otherOf r r.taker = some p → (s.source p).state = .fault) :
    s.tryOther r = s.rescueFailed r := by
  by_cases hr : r.retargeted = true
  · simp [State.tryOther, hr]
  · have hother : s.otherAdjacent r.giver r.taker = s.otherOf r r.taker := rfl
    have hfault := h.resolve_left hr
    cases ho : s.otherOf r r.taker with
    | none => simp [State.tryOther, hr, hother, ho]
    | some p => simp [State.tryOther, hr, hother, ho, hfault p ho]

/-- The record goes on toward the other neighbour, which the frozen output is told of (R109, R115). -/
theorem retarget_waits (h : Alike s u) (hd : (s.source p).defined = true) :
    Waits s (u.retarget r p) { r with taker := p, retargeted := true } p ∧ (u.retarget r p).cp.sub = s.cp.sub ∧
      (s.cp.sub = .frozen → Posted s (u.retarget r p) (.outputFrozen r.giver (some p) s.zc.target s.zc.shown s.cru.time)) ∧
      (s.cp.sub = .starting → NotPosted s (u.retarget r p) .outputFrozen) := by
  have hwaits := waits_created (r := { r with taker := p, retargeted := true }) h hd
  have hspares := ((h.spares .outputFrozen (by decide)).createRecord { r with taker := p, retargeted := true }).wake (by decide)
    .normal p
  have hcp : ((u.createRecord { r with taker := p, retargeted := true }).wake .normal p).cp = s.cp := by simpa using h.cp
  have htarget : ((u.createRecord { r with taker := p, retargeted := true }).wake .normal p).zc.target = s.zc.target := by
    simpa using h.target
  have hcru : ((u.createRecord { r with taker := p, retargeted := true }).wake .normal p).cru = s.cru := by simpa using h.cru
  have hsub : u.cp.sub = s.cp.sub := by rw [h.cp]
  unfold State.retarget
  generalize (u.createRecord { r with taker := p, retargeted := true }).wake .normal p = w at *
  rw [hsub]
  by_cases hf : s.cp.sub = .frozen
  · have hposted := posted_frozen hspares r.giver (some p)
    rw [htarget, hwaits.2.1, hcru] at hposted
    simp only [if_pos hf]
    exact ⟨hwaits.same rfl rfl, congrArg Compositor.sub hcp, fun _ => hposted,
      fun hs => OutSub.noConfusion (hs.symm.trans hf)⟩
  · simp only [if_neg hf]
    exact ⟨hwaits, congrArg Compositor.sub hcp, fun hs => absurd hs hf, fun _ => hspares.notPosted⟩

/-- A rescue given up: HANDOFF_ABORTED, and the output frozen with no target (R109, R114, R115). -/
theorem rescueFailed_fields (h : Alike s u) (hs : Spares .handoffAborted s u) (r : Transition) :
    (u.rescueFailed r).zc.record = none ∧ (u.rescueFailed r).zc.shown = s.zc.shown ∧ (u.rescueFailed r).cp.sub = .frozen ∧
      Posted s (u.rescueFailed r) (.handoffAborted r.kind r.giver r.taker r.phase r.index .rescueFailed s.cru.time) ∧
      Posted s (u.rescueFailed r) (.outputFrozen r.giver none s.zc.target s.zc.shown s.cru.time) := by
  have halike := h.removeRecord.postAborted r .rescueFailed s.cru.time
  obtain ⟨hzc, hsub, -⟩ := giveUp_fields r.giver (u.removeRecord.postAborted r .rescueFailed s.cru.time)
  have hposted := posted_giveUp (halike.spares .outputFrozen (by decide)) r.giver
  have haborted := posted_aborted hs.removeRecord r .rescueFailed s.cru.time
    ((Spares.refl .handoffAborted _).giveUp (by decide) r.giver)
  rw [halike.target, halike.shown, halike.cru] at hposted
  rw [State.rescueFailed, h.cru]
  exact ⟨by rw [hzc]; exact record_removeRecord u, by rw [hzc, halike.shown], hsub, haborted, hposted⟩

/-! The report of a fault that a change had met (R110, R113, R114) -/

variable {y : Spoiled}

theorem exec_faultReport_spoiled (h : s.zc.reports.get i = x :: rest) (hp : s.link.part = .streaming)
    (hx : x.spoiled = some y) : exec (.faultReport i) s = .next
      (if y.record.taker = i then (s.setReports i rest).settleTaker y
        else ((s.setReports i rest).postDone y.record .cut y.time).handleFault i x.role) := by
  rw [exec_faultReport h, if_pos hp, State.handleReport, hx]

/-- The giver of a spoiled change is PRIMARY again (R110). -/
def State.givenBack (y : Spoiled) (s : State) : State :=
  (s.setRole y.record.giver .primary).postAborted y.record
    (if y.change = .completion then .incomingFault else .targetFault) y.time

theorem settleTaker_givesBack (hc : y.change ≠ .rescue) (hg : (s.source y.record.giver).state = .warm) :
    s.settleTaker y = s.givenBack y := by
  have hback (cause : AbortCause) : s.takeBack y cause =
      (s.setRole y.record.giver .primary).postAborted y.record cause y.time :=
    if_neg fun hn => by simp [not_lost (usable_warm hg)] at hn
  rw [State.settleTaker, State.givenBack]
  cases hchange : y.change with
  | rescue => exact absurd hchange hc
  | completion => exact hback _
  | cut => exact hback _

theorem givenBack_fields (hg : (s.source y.record.giver).state = .warm) (hi : y.record.giver ≠ i) :
    ((s.givenBack y).source y.record.giver).state = .primary ∧ (s.givenBack y).source i = s.source i ∧
      (s.givenBack y).zc.record = s.zc.record := by
  refine ⟨state_setRole _ _ _ (usable_warm hg), source_setRole_ne _ _ _ _ hi.symm, ?_⟩
  simp [State.givenBack, State.postAborted]

theorem posted_givenBack (h : Spares .handoffAborted s t) (y : Spoiled) :
    Posted s (t.givenBack y) (.handoffAborted y.record.kind y.record.giver y.record.taker y.record.phase y.record.index
      (if y.change = .completion then .incomingFault else .targetFault) y.time) :=
  posted_aborted (h.setRole (by decide) _ _) _ _ _ (Spares.refl ..)

/-- A report that names no role is left with nothing to do in a RUNNING output with no record. -/
theorem handleFault_idle (hr : s.zc.record = none) (hs : s.cp.sub = .running) {role : SrcState} (hx : role.isRole = false)
    (i : Src) : s.handleFault i role = s := by
  have hpending : s.isPending i = false := by simp [State.isPending, hs]
  rw [handleFault_none hr, State.reportAlone, if_neg, if_neg fun hn => by simp [hpending] at hn]
  rintro ⟨-, rfl⟩
  cases hx

/-- Settles O38: the report by the output's sub-state, the record it meets, and what a change had left to it. -/
theorem faultReportHandled : Obligations.FaultReportHandled := by
  refine ⟨fun s i h => exec_faultReport_none h, fun s i x rest hl => ?_⟩
  have halike := alike_setReports i rest s
  refine ⟨fun hp => ?_, fun hp hs hx hf hr hpend => ?_, fun hp hs hx => ⟨fun r hr hk hi hb hf => ?_,
    fun r hr hk hi hb hrole hne hg => ?_, fun r hr hk hi hb hrole hne ht => ?_, fun hrole hrec => ?_⟩,
    fun r hp hx hs hpend hr hk hi hf => ?_, fun y hp hx hc => ⟨fun hi hne hg => ?_, fun hi hrole hr hs => ?_⟩⟩
  · rw [exec_faultReport hl, if_neg hp]
    rfl
  · obtain ⟨hwarm, hcold, hnone⟩ := rescue_pending (i := i) halike hr hs
    have hexec := exec_faultReport_plain hl hp hx
    rw [faultHandled_pending hs hf hr hpend] at hexec
    exact ⟨fun p hc => ⟨_, hexec, hwarm p hc⟩, fun p hc => ⟨_, hexec, hcold p hc⟩, fun hc => ⟨_, hexec, hnone hc⟩⟩
  · have hexec := exec_faultReport_plain hl hp hx
    rw [faultHandled_target hr hk hi hb hf] at hexec
    subst hi
    exact ⟨_, hexec, targetFault_fields (s := s.setReports r.taker rest) hr⟩
  · have hexec := exec_faultReport_plain hl hp hx
    rw [faultHandled_incoming hr hk hi hb hrole] at hexec
    subst hi
    obtain ⟨hrec, hshown, hgiver, htaker, hposted⟩ := incomingFault_fields (s := s.setReports r.taker rest) hg hne
    rw [hb] at hposted
    exact ⟨_, hexec, hrec, hshown, hgiver, htaker, hposted⟩
  · have hexec := exec_faultReport_plain hl hp hx
    rw [faultHandled_outgoing hr hk hi hb hrole] at hexec
    subst hi
    exact ⟨_, hexec, outgoingFault_fields (s := s.setReports r.giver rest) ht hne⟩
  · have hexec := exec_faultReport_plain hl hp hx
    obtain ⟨u, heq, hu, hnorec, haborted⟩ := primaryFault_from i rest s
    rw [faultHandled_primary hs hrole hrec, heq] at hexec
    obtain ⟨hwarm, hcold, hnone⟩ := rescue_running (i := i) hu hnorec hs
    have hafter (r : Transition) (hr : s.zc.record = some r) :=
      haborted r hr (u.rescue i) ((Spares.refl .handoffAborted u).rescue (by decide) (by decide) (by decide) i)
    refine ⟨fun p hc => ?_, fun p hc => ?_, fun hc => ?_⟩
    · obtain ⟨hpasses, hposted⟩ := hwarm p hc
      exact ⟨_, hexec, hpasses, hafter, hposted⟩
    · obtain ⟨hwaits, hsub, hposted⟩ := hcold p hc
      exact ⟨_, hexec, hwaits, hsub, hafter, hposted⟩
    · obtain ⟨hnorec', hsub, hposted⟩ := hnone hc
      exact ⟨_, hexec, hnorec', hsub, hafter, hposted⟩
  · have hexec := exec_faultReport_plain hl hp hx
    rw [faultHandled_rescue hr hk hi hf] at hexec
    subst hi
    refine ⟨fun p ho hre hp => ?_, fun p ho hre hd hp => ?_, fun hfail => ?_⟩
    · rw [tryOther_warm (s := s.setReports r.taker rest) ho hre hp] at hexec
      obtain ⟨hpasses, hposted⟩ := rescueTo_passes (r := { r with taker := p }) halike.removeRecord (record_removeRecord _) hp
      refine ⟨_, hexec, hpasses, ?_⟩
      rw [← hk]
      exact hposted
    · rw [tryOther_cold (s := s.setReports r.taker rest) ho hre hp] at hexec
      exact ⟨_, hexec, retarget_waits halike hd⟩
    · rw [tryOther_fails (s := s.setReports r.taker rest) hfail] at hexec
      have hfields := rescueFailed_fields halike ((Spares.refl .handoffAborted s).same rfl) r
      rw [hk] at hfields
      exact ⟨_, hexec, hfields⟩
  · have hexec := exec_faultReport_spoiled hl hp hx
    rw [if_pos hi, settleTaker_givesBack (s := s.setReports i rest) hc hg] at hexec
    obtain ⟨hprimary, hsame, hrec⟩ := givenBack_fields (s := s.setReports i rest) hg hne
    have hposted := posted_givenBack ((Spares.refl .handoffAborted s).same (u := s.setReports i rest) rfl) y
    rw [hi] at hposted
    exact ⟨_, hexec, hprimary, hsame, hrec, hposted⟩
  · have hexec := exec_faultReport_spoiled hl hp hx
    rw [if_neg hi, handleFault_idle (s := (s.setReports i rest).postDone y.record .cut y.time) hr hs hrole] at hexec
    exact ⟨_, hexec, rfl, rfl, rfl⟩

end Sys2Proof.Machine
end
